-- ==== Sys2Proof/Word.lean ====
section
/-! DEFINITION. The bus word of the part and its plainest pieces (00_scope.md, Bus Words and Records). -/

namespace Sys2Proof

/-- A word of the U-side or M-side bus: 32 bits. -/
abbrev Word := BitVec 32

/-- One byte: a sequence number, a ring index. -/
abbrev Byte := BitVec 8

/-- A byte address of the U-side or M-side: 24 bits, a 16 MiB space. -/
abbrev BusAddr := BitVec 24

/-- The four byte enables of an access; bit b enables byte b. -/
abbrev ByteEnables := BitVec 4

/-- All four byte enables. -/
abbrev fullEnables : ByteEnables := 0xF#4

/-- One value for each reel. -/
structure PerReel (α : Type) where
  /-- reel S, supply -/
  s : α
  /-- reel T, take-up -/
  t : α
deriving DecidableEq, Repr

end Sys2Proof
end

