-- ==== Sys2Proof/Syntax.lean ====
section
/-! DEFINITION. The commands of the part: one constructor of Instr for each row of the opcode table, with the
operands the rules give it. -/

namespace Sys2Proof

/-- The two reels (00_scope.md, Names). -/
inductive Reel where
  | s | t
deriving DecidableEq, Repr

/-- The value of one reel. -/
def PerReel.get {α : Type} (p : PerReel α) : Reel → α
  | .s => p.s
  | .t => p.t

/-- Replace the value of one reel. -/
def PerReel.set {α : Type} (p : PerReel α) (x : Reel) (v : α) : PerReel α :=
  match x with
  | .s => { p with s := v }
  | .t => { p with t := v }

/-- The three tachometers (R2, R4). -/
inductive Tach where
  | capstan
  | reel (x : Reel)
deriving DecidableEq, Repr

/-- The two phase inputs of a tachometer (section 1.3). -/
inductive Phase where
  | a | b
deriving DecidableEq, Repr

/-- The levels of a tachometer's two phases. -/
structure Phases where
  a : Bool
  b : Bool
deriving DecidableEq, Repr

/-- The levels of the three tachometers' inputs at a reset (R19). -/
structure TachLevels where
  capstan : Phases
  reels : PerReel Phases
deriving DecidableEq, Repr

/-- The strap pins (section 11.2). -/
structure Straps where
  region : BitVec 4
  setupSkip : Bool
  attnDefault : Bool
deriving DecidableEq, Repr

/-- Words 0 to 6 of an order slot: the fields of a record (section 12.1). -/
structure Body where
  w0 : Word
  w1 : Word
  w2 : Word
  w3 : Word
  w4 : Word
  w5 : Word
  w6 : Word
deriving DecidableEq, Repr

/-- A bus access of one word (R152): address, byte enables, direction and, for a write, data. -/
structure Access where
  addr : BusAddr
  be : ByteEnables
  write : Bool
  data : Word
deriving DecidableEq, Repr

/-- The Fault Monitor's tests of a period expiry, which may be taken in any order (R116, R114). -/
inductive ExpiryCheck where
  | position
  | vacuum
  | stall (x : Reel)
  | runaway
  | door
  | halt
deriving DecidableEq, Repr

/-- How the parts of one period expiry that "fall together" are ordered (log entry 8):
`crossingsFirst`: crossings, with the EOT crossing record, are taken before the generator's choice (R86, R32), which
then sees them; otherwise after it, and the next choice is the first to see them;
`presentFirst`: a held pair is presented before the hand-on of the new v_t (R44);
`timerFirst`: the phase timer is taken before the presentation (R90);
`checks`: the Fault Monitor's tests taken first, in this order; the others follow (R116). -/
structure ExpiryOrder where
  crossingsFirst : Bool
  presentFirst : Bool
  timerFirst : Bool
  checks : List ExpiryCheck
deriving DecidableEq, Repr

/-- The commands, in the order of the opcode table. -/
inductive Instr where
  /-- POWER_ON_RESET (R180): the strap pins and the tachometer input levels of the moment. -/
  | powerOnReset (straps : Straps) (levels : TachLevels)
  /-- LINE_RESET (R181): RESET is asserted; the tachometer input levels of the moment. -/
  | lineReset (levels : TachLevels)
  /-- RESET_RELEASE (R181). -/
  | resetRelease
  /-- INITIALISATION_END (R180): whether a sample frame is active at that moment (R16). -/
  | initialisationEnd (frameActive : Bool)
  /-- PERIOD_EXPIRY (R1). -/
  | periodExpiry (o : ExpiryOrder)
  /-- SAMPLE_LOSS (R18): the expiry that delivers SAMPLE LOSS. -/
  | sampleLoss (o : ExpiryOrder)
  /-- SETTLE_COMPLETE (R36): the expiry at which the settle completes. -/
  | settleComplete (o : ExpiryOrder)
  /-- SETTLE_TIMEOUT (R36): the expiry at which the settle times out. -/
  | settleTimeout (o : ExpiryOrder)
  /-- SPEED_REDUCED (R37): the expiry at which the saturation run reaches 40. -/
  | speedReduced (o : ExpiryOrder)
  /-- HALT_WAIT_LIMIT (R114): the expiry at which the halt wait reaches 400. -/
  | haltWaitLimit (o : ExpiryOrder)
  /-- REEL_STALL (R109): the expiry at which REEL STALL of the reel is taken. -/
  | reelStall (x : Reel) (o : ExpiryOrder)
  /-- CAPSTAN_RUNAWAY (R110): the expiry at which the runaway run reaches 8. -/
  | capstanRunaway (o : ExpiryOrder)
  /-- VACUUM_SETTLED (R106): the expiry at which the vacuum settle timer reaches the settle time. -/
  | vacuumSettled (o : ExpiryOrder)
  /-- LOAD_TIMEOUT (R90): the expiry at which the FILL phase times out. -/
  | loadTimeout (o : ExpiryOrder)
  /-- UNLOAD_TIMEOUT (R95): the expiry at which the WIND-OFF phase times out. -/
  | unloadTimeout (o : ExpiryOrder)
  /-- SNAPSHOT_INTERVAL (R176): the expiry at which the interval counter reaches the interval. -/
  | snapshotInterval (o : ExpiryOrder)
  /-- CAPSTAN_TACH_COUNT (R2): one phase of the capstan tachometer changes. -/
  | capstanTachCount (ph : Phase)
  /-- REEL_TACH_COUNT (R4): one phase of a reel tachometer changes. -/
  | reelTachCount (x : Reel) (ph : Phase)
  /-- WINDOW_COMPLETE (R14): the reel count that completes the window. -/
  | windowComplete (x : Reel) (ph : Phase)
  /-- SAMPLE_FRAME (R16): a frame ends; its data bits in the order sent. -/
  | sampleFrame (bits : List Bool)
  /-- DEBOUNCE_TICK (R121): the twelve raw inputs at the tick, and the lines taken first, in order (R130). -/
  | debounceTick (raw : BitVec 12) (order : List (Fin 12))
  /-- ACCEPTED_CHANGE (R121): the tick at which the line's change is accepted. -/
  | acceptedChange (line : Fin 12) (raw : BitVec 12) (order : List (Fin 12))
  /-- U_SIDE_ACCESS (R152): the drive processor presents an access. -/
  | uSideAccess (acc : Access)
  /-- FORWARDED_ACCESS_END (R152): the RAM answers the forwarded access, with this data for a read. -/
  | forwardedAccessEnd (data : Word)
  /-- MEMORY_RESPONSE_TIMEOUT (R163): the forwarded access is not answered in time. -/
  | memoryResponseTimeout
  /-- ORDER_SLOT_WORD_WRITE (R154): a write to word k of slot j ends, answered or timed out. -/
  | orderSlotWordWrite (slot : Fin 64) (k : Fin 7) (be : ByteEnables) (data : Word) (answered : Bool)
  /-- ORDER_POST_WORD_WRITE (R134, R156): a write of the slot's post word ends. -/
  | orderPostWordWrite (slot : Fin 64) (be : ByteEnables) (data : Word) (answered : Bool)
  /-- SEGMENT_WORD_WRITE (R154): a write to word k of segment entry i ends. -/
  | segmentWordWrite (entry : Fin 32) (k : Fin 3) (be : ByteEnables) (data : Word) (answered : Bool)
  /-- SEGMENT_CLOSING_WRITE (R157): a write of word 3 of the entry ends. -/
  | segmentClosingWrite (entry : Fin 32) (be : ByteEnables) (data : Word) (answered : Bool)
  /-- RELEASE_WORD (R158, R173): a write of the release word with all four byte enables ends. -/
  | releaseWord (data : Word) (answered : Bool)
  /-- STOP_WORD (R144, R145): a write of the stop word with all four byte enables ends. -/
  | stopWord (data : Word) (answered : Bool)
  /-- LOAD (R88): the order's sequence and words 0 to 6. -/
  | load (seq : Byte) (body : Body)
  /-- UNLOAD (R94, R96). -/
  | unload (seq : Byte) (body : Body)
  /-- REWIND (R92). -/
  | rewind (seq : Byte) (body : Body)
  /-- RUN_CHAIN (R82). -/
  | runChain (seq : Byte) (body : Body)
  /-- SPACE (R81). -/
  | space (seq : Byte) (body : Body)
  /-- MARKER (R80). -/
  | marker (seq : Byte) (body : Body)
  /-- CLEAR_FAULT (R97). -/
  | clearFault (seq : Byte) (body : Body)
  /-- RETURN_TO_SETUP (R98). -/
  | returnToSetup (seq : Byte) (body : Body)
  /-- TRANSPORT_RESET (R99). -/
  | transportReset (seq : Byte) (body : Body)
  /-- SET_REEL_GAINS (R184). -/
  | setReelGains (seq : Byte) (body : Body)
  /-- SET_CAPSTAN_GAINS (R184). -/
  | setCapstanGains (seq : Byte) (body : Body)
  /-- SET_COLUMNS (R185). -/
  | setColumns (seq : Byte) (body : Body)
  /-- SET_SPEEDS (R184). -/
  | setSpeeds (seq : Byte) (body : Body)
  /-- SET_LIMITS (R184). -/
  | setLimits (seq : Byte) (body : Body)
  /-- SET_SENSE_LINE (R131, R132). -/
  | setSenseLine (seq : Byte) (body : Body)
  /-- SET_REPORTING (R186). -/
  | setReporting (seq : Byte) (body : Body)
  /-- SET_DEFAULT_CIRCUMFERENCE (R184). -/
  | setDefaultCircumference (seq : Byte) (body : Body)
  /-- ENTER_RUN (R187). -/
  | enterRun (seq : Byte) (body : Body)
  /-- REPORT_WRITE_START (R170). -/
  | reportWriteStart
  /-- ORDER_FETCH_START (R139). -/
  | orderFetchStart
  /-- SEGMENT_FETCH_START (R61). -/
  | segmentFetchStart
  /-- SNAPSHOT_WRITE_START (R177). -/
  | snapshotWriteStart
  /-- AGENT_WORD_END (R159): the RAM answers the agent's word, with this data for a read. -/
  | agentWordEnd (data : Word)
  /-- AGENT_WORD_TIMEOUT (R164). -/
  | agentWordTimeout
  /-- ATTENTION_PULSE_END (R175). -/
  | attentionPulseEnd
  /-- CONVERT_PULSE_END (R16). -/
  | convertPulseEnd
  /-- BOTH_PHASES_CHANGE (R2): both phases of a tachometer change together. -/
  | bothPhasesChange (t : Tach)
deriving DecidableEq, Repr

end Sys2Proof
end

