-- ==== Sys2Proof/WellFormed.lean ====
section
/-! DEFINITION. Which commands are well formed: the checks that the operands' types do not make. An order of
events that fall together names each of them at most once. The model runs an ill-formed order too (a repeated
name counts at its first place), so nothing rests on these checks but the reading of an operand. -/

namespace Sys2Proof

/-- An expiry's order names each test at most once. -/
def ExpiryOrder.wf (o : ExpiryOrder) : Bool := decide o.checks.Nodup

/-- A tick's order names each line at most once. -/
def lineOrderWf (order : List (Fin 12)) : Bool := decide order.Nodup

/-- The well-formed commands. -/
def Instr.wf : Instr → Bool
  | .periodExpiry o | .sampleLoss o | .settleComplete o | .settleTimeout o | .speedReduced o
  | .haltWaitLimit o | .capstanRunaway o | .vacuumSettled o | .loadTimeout o | .unloadTimeout o
  | .snapshotInterval o => o.wf
  | .reelStall _ o => o.wf
  | .debounceTick _ order => lineOrderWf order
  | .acceptedChange _ _ order => lineOrderWf order
  | .powerOnReset _ _ | .lineReset _ | .resetRelease | .initialisationEnd _ => true
  | .capstanTachCount _ | .reelTachCount _ _ | .windowComplete _ _ | .sampleFrame _ => true
  | .uSideAccess _ | .forwardedAccessEnd _ | .memoryResponseTimeout => true
  | .orderSlotWordWrite _ _ _ _ _ | .orderPostWordWrite _ _ _ _ | .segmentWordWrite _ _ _ _ _
  | .segmentClosingWrite _ _ _ _ | .releaseWord _ _ | .stopWord _ _ => true
  | .load _ _ | .unload _ _ | .rewind _ _ | .runChain _ _ | .space _ _ | .marker _ _ | .clearFault _ _
  | .returnToSetup _ _ | .transportReset _ _ => true
  | .setReelGains _ _ | .setCapstanGains _ _ | .setColumns _ _ | .setSpeeds _ _ | .setLimits _ _
  | .setSenseLine _ _ | .setReporting _ _ | .setDefaultCircumference _ _ | .enterRun _ _ => true
  | .reportWriteStart | .orderFetchStart | .segmentFetchStart | .snapshotWriteStart | .agentWordEnd _
  | .agentWordTimeout | .attentionPulseEnd | .convertPulseEnd | .bothPhasesChange _ => true

end Sys2Proof
end

