-- ==== Sys2Proof/Decode.lean ====
section
/-! DEFINITION. The command a word spells by the opcode table's bits. The table of this block gives no row any
bits (98_reader.md counts 58 rows unread), so no word spells a command. -/

namespace Sys2Proof

/-- No row of the opcode table gives bits, so every word spells none. -/
def decodeTableWord (_nbits _w : Nat) : Option Instr := none

end Sys2Proof
end

