-- ==== Sys2Proof/Config.lean ====
section
/-! DEFINITION. What the part fixes once and for all (bounds and counts the rules state as numbers) and the one
value that the spec leaves open. -/

namespace Sys2Proof.Config

/-- P lies in -33,554,432..+33,554,431 (R6). -/
def posMin : Int := -33554432
def posMax : Int := 33554431
/-- m is clamped to -255..+255 (R3). -/
def speedMax : Int := 255
/-- The capstan sum of an estimator saturates at -65,535 and +65,535 (R13). -/
def sumMax : Int := 65535
/-- Timers and runs of period expiries saturate at 65,535 (R5, R106, R109). -/
def timerMax : Nat := 65535
/-- Reel counts of one window (R13). -/
def windowCounts : Nat := 64
/-- The circumference range (R13). -/
def circMin : Nat := 6000
def circMax : Nat := 17000
/-- The capstan integrator lies in -4095..+4095 (R40). -/
def capIntMax : Int := 4095
/-- A reel integrator lies in -32767..+32767 (R45). -/
def reelIntMax : Int := 32767
/-- A drive command lies in -2047..+2047 (R54). -/
def driveMax : Int := 2047
/-- A report's detail value is clamped to -8,388,608..+8,388,607 (R167). -/
def detailMin : Int := -8388608
def detailMax : Int := 8388607
/-- Counts that saturate at 255: misses (R18), losses (R169), further causes (R112). -/
def countMax : Nat := 255
/-- The saturation run that halves the reduction ceiling (R37). -/
def satRunLimit : Nat := 40
/-- The runaway run that takes CAPSTAN RUNAWAY (R110). -/
def runawayLimit : Nat := 8
/-- The halt wait limit (R114). -/
def haltWaitMax : Nat := 400
/-- Visits of a chain (R70). -/
def visitMax : Nat := 32
/-- Records in the order queue (R136). -/
def queueMax : Nat := 8
/-- Reports in the pending list (R169). -/
def pendingMax : Nat := 4
/-- Slots of the report ring (section 10.3). -/
def ringSlots : Nat := 128
/-- Passes of the Memory Agent before its word is granted (R161). -/
def guardMax : Nat := 4
/-- Later causes of the fault record (section 6.4). -/
def laterMax : Nat := 3
/-- Unresolved notices held (R8). -/
def noticeMax : Nat := 4
/-- Assembly buffers (R154). -/
def bufferMax : Nat := 2
/-- Period expiries in one second, for the load timeout and unload time (R90, R95). -/
def periodsPerSecond : Nat := 4000
/-- Period expiries in one millisecond, for the vacuum settle time (R106). -/
def periodsPerMs : Nat := 4

/-- FREE VALUE (log entry 19). R85 gives the RING LOST report the index of the current segment as its detail
value and states none for a chain that awaits its start segment and so has no current segment. The n-th such
report carries this index; nothing is known of it but that it is a segment index. -/
opaque freeSegment : Nat → Fin 32

end Sys2Proof.Config
end

