-- ==== Sys2Proof/Machine/State.lean ====
section
/-! DEFINITION. The state of the part, block by block, as plain data, and the state after power-on reset. -/

namespace Sys2Proof.Machine

/-! ## Names the rules use -/

/-- The nine order codes and the nine setup codes (section 12.1). -/
inductive Code where
  | load | unload | rewind | runChain | space | marker | clearFault | returnToSetup | transportReset
  | setReelGains | setCapstanGains | setColumns | setSpeeds | setLimits | setSenseLine | setReporting
  | setDefaultCircumference | enterRun
deriving DecidableEq, Repr

/-- Sense line functions (R120). -/
inductive Func where
  | none
  | limit (x : Reel) (upper : Bool)
  | botMark | eotMark | vacuumOk | doorClosed | tapeInPath | writeRing
deriving DecidableEq, Repr

/-- Sense line modes (R120). -/
inductive LineMode where
  | rising | falling | both | high | low
deriving DecidableEq, Repr

/-- Transport state with its phase (R73). -/
inductive TState where
  | unloaded | loadingFill | loadingSeek | ready | moving | settling
  | rewindingFast | rewindingSearch | rewindingReturn
  | unloadingReturn | unloadingWindOff | halting | fault
deriving DecidableEq, Repr

/-- Order outcomes (R79). -/
inductive OrderOutcome where
  | complete | completeClamped | unsettled | stopped | eotLimit | chainLimit | segmentError
  | segmentUnavailable | botNotFound | loadTimeout | unloadTimeout | haltedByFault
deriving DecidableEq, Repr

/-- Refusal reasons (section 12.4). -/
inductive Reason where
  | unknownCode | wrongMode | wrongState | sequenceError | fetchFailed | doorNotClosed | noWriteRing
  | causePersists | functionInUse | badValue
deriving DecidableEq, Repr

/-- Fault kinds (R104). -/
inductive FaultKind where
  | columnLimit (x : Reel) (upper : Bool)
  | vacuumLoss | tapeBreak
  | reelStall (x : Reel)
  | sampleLoss | capstanRunaway | doorOpen | positionRange
deriving DecidableEq, Repr

/-- Report kinds (section 10.1). -/
inductive ReportKind where
  | orderDone | orderRefused | approach | segmentEmpty | markCrossed | senseChange | speedReduced
  | setupApplied | fault | faultCleared | ordersFlushed
deriving DecidableEq, Repr

/-- Stop kinds (R144). -/
inductive StopKind where
  | controlled | emergency
deriving DecidableEq, Repr

/-- Part modes (R179). -/
inductive PartMode where
  | initialising | setup | run
deriving DecidableEq, Repr

/-- Saturation records (R41, R47). -/
inductive Sat where
  | none | positive | negative
deriving DecidableEq, Repr

/-- Reel modes (R43). -/
inductive ReelMode where
  | off | fill | loop | wind
deriving DecidableEq, Repr

/-! ## Measurement Unit (chapter 1) -/

/-- The two marks (R9). -/
inductive Mark where
  | bot | eot
deriving DecidableEq, Repr

/-- An unresolved notice: mark and position at notice (R8). -/
structure Notice where
  mark : Mark
  pos : Int
deriving DecidableEq, Repr

/-- A crossing (R9). -/
structure Crossing where
  mark : Mark
  forward : Bool
  pos : Int
deriving DecidableEq, Repr

/-- The estimator of one reel (R13, R14). -/
structure Estimator where
  tally : Nat
  /-- direction of the tally: winding -/
  winding : Bool
  sum : Int
  /-- the circumference estimate; none is UNKNOWN -/
  circ : Option Nat
deriving DecidableEq, Repr

/-- The frame receiver (R16): idle, or passing over a frame that was active at the end of INITIALISING. -/
inductive FrameReceiver where
  | idle | passing
deriving DecidableEq, Repr

structure Mu where
  periodCount : BitVec 16
  accum : Int
  m : Int
  lastForward : Bool
  p : Int
  notices : List Notice
  /-- the EOT crossing record -/
  eot : Option Crossing
  capRef : Phases
  reelRef : PerReel Phases
  silence : PerReel Nat
  est : PerReel Estimator
  /-- the current pair of column samples -/
  pair : Option (PerReel (BitVec 10))
  arrival : Bool
  missCount : Nat
  lossReported : Bool
  frame : FrameReceiver
  /-- the CONVERT output -/
  convert : Bool
deriving DecidableEq, Repr

/-! ## Segment entries, cache and chain walker (chapter 4) -/

/-- A copy of a segment entry with its adjusted mark (R57). -/
structure Segment where
  reverse : Bool
  distance : Nat
  vmax : Nat
  accel : Nat
  next : Fin 32
  last : Bool
  flow : Bool
  write : Bool
  approach : Nat
  adjusted : Bool
deriving DecidableEq, Repr

/-- A cache entry's state with the copy it holds (R58). -/
inductive CacheEntry where
  | invalid
  | fetching
  | valid (copy : Segment)
  | stale (copy : Segment)
deriving DecidableEq, Repr

/-- Fetch marks (R58). -/
inductive FetchMark where
  | none | discard | reread
deriving DecidableEq, Repr

/-- The SEGMENT FETCH in flight (R58). -/
structure SegFetch where
  index : Fin 32
  mark : FetchMark
deriving DecidableEq, Repr

structure Sc where
  entries : Vector CacheEntry 32
  fetchList : List (Fin 32)
  inFlight : Option SegFetch
deriving DecidableEq, Repr

/-- Reasons with which the walker ends a chain (R27, R68 to R70). -/
inductive ChainReason where
  | complete | chainLimit | segmentError | segmentUnavailable
deriving DecidableEq, Repr

/-- The chain walker (section 4.5). -/
structure Wk where
  active : Bool
  /-- the current segment: index and copy in use -/
  current : Option (Fin 32 × Segment)
  visits : Nat
  inUse : List (Fin 32)
  awaited : Option (Fin 32)
  g : Int
  approachDone : Bool
  chainLimit : Bool
  adjusted : Bool
  /-- the RUN CHAIN order's sequence -/
  seq : Byte
  /-- the RUN CHAIN order's approach reports flag -/
  approachReports : Bool
deriving DecidableEq, Repr

/-! ## Motion Generator (chapter 2) -/

inductive MotionKind where
  | space | chain | search | fast
deriving DecidableEq, Repr

/-- A motion description (R21). -/
structure Motion where
  kind : MotionKind
  forward : Bool
  /-- the motion's own acceleration; for a CHAIN the current segment's -/
  accel : Nat
  /-- ceiling term; for a CHAIN the current segment's vmax -/
  ceiling : Nat
  /-- end mode SETTLE (REST when false) -/
  settles : Bool
deriving DecidableEq, Repr

/-- Generator phases (section 2.1). -/
inductive MgPhase where
  | idle | run | hold
  | settle (boundary : Bool)
  | ramp
deriving DecidableEq, Repr

/-- The overrun mark with its point, and whether the missed point was a boundary within the chain (R28). -/
structure Overrun where
  point : Int
  boundary : Bool
deriving DecidableEq, Repr

/-- The settle's target and counts (R36). -/
structure Settle where
  target : Int
  inWindow : Nat
  elapsed : Nat
deriving DecidableEq, Repr

structure Mg where
  phase : MgPhase
  vt : Int
  prevVt : Int
  delta : Int
  motion : Option Motion
  /-- speed in hand -/
  v : Nat
  /-- commanded distance D -/
  d : Int
  /-- distance limit L -/
  l : Int
  /-- remaining distance of the stretch -/
  r : Int
  /-- end speed of the stretch -/
  w : Nat
  /-- commanded position Q -/
  q : Int
  /-- acceleration in force in RUN and RAMP -/
  accel : Nat
  /-- an EMERGENCY stop has put the emergency acceleration in force -/
  emergency : Bool
  lookAhead : Option (Fin 32 × Segment)
  /-- the stretch's end is the final stop of the motion -/
  finalStop : Bool
  stopped : Bool
  clamped : Bool
  overrun : Option Overrun
  /-- settle target set by a re-aim or a clamp -/
  aim : Option Int
  pendStops : List StopKind
  pendMarkStop : Bool
  pendReaim : Option Int
  pendHalt : Bool
  settle : Settle
  /-- a chain end the walker has reported, taken at the next expiry -/
  chainEnd : Option ChainReason
  reduction : Option Nat
  satRun : Nat
deriving DecidableEq, Repr

/-! ## Loops (chapter 3) -/

structure Cl where
  /-- RUN, else OFF -/
  run : Bool
  dc : Int
  ic : Int
  sat : Sat
deriving DecidableEq, Repr

structure ReelLoop where
  mode : ReelMode
  d : Int
  a : Int
  sat : Sat
  /-- band-entered flag (R51) -/
  band : Bool
deriving DecidableEq, Repr

/-! ## Transport Sequencer (chapter 5) -/

inductive Leg where
  | none | fast | searchReverse | searchForward | space | chain
deriving DecidableEq, Repr

/-- The fields an order carries (R75, section 12.1). -/
structure OrderFields where
  distance : Nat
  reverse : Bool
  speedClass : Nat
  start : Fin 32
  writeIntent : Bool
  approachReports : Bool
  seekReverse : Bool
deriving DecidableEq, Repr

/-- The order in hand (R75). -/
structure InHand where
  seq : Byte
  code : Code
  fields : OrderFields
  clamped : Bool
  pAtTake : Int
  leg : Leg
  crossingSeen : Bool
  stopping : Bool
deriving DecidableEq, Repr

structure Tsq where
  state : TState
  brake : Bool
  vacuum : Bool
  writeEnable : Bool
  referenced : Bool
  inHand : Option InHand
  timer : Nat
  timerOn : Bool
deriving DecidableEq, Repr

/-! ## Fault Monitor (chapter 6) -/

structure Fm where
  first : Option FaultKind
  later : List FaultKind
  further : Nat
  /-- the halt wait count; none is inactive -/
  haltWait : Option Nat
  runaway : Nat
  doorCond : Bool
  highRun : PerReel Nat
  vacTimer : Nat
  vacSettled : Bool
deriving DecidableEq, Repr

/-! ## Sense Line Unit (chapter 7) -/

/-- A line's carrying report (R120). -/
inductive Carry where
  | none
  | notYet
  | report (id : Nat)
deriving DecidableEq, Repr

structure Line where
  func : Func
  mode : LineMode
  invert : Bool
  exponent : BitVec 3
  level : Bool
  timer : Nat
  pending : Bool
  carry : Carry
deriving DecidableEq, Repr

structure Slu where
  lines : Vector Line 12
  /-- the sense-change set; bit f - 1 stands for function f of section 12.2 -/
  changeSet : BitVec 10
  request : Bool
  /-- input levels as last seen: at the last debounce tick or SET SENSE LINE -/
  raw : BitVec 12
deriving DecidableEq, Repr

/-! ## Order Intake (chapter 8) -/

/-- A record in the order queue (R136). -/
structure Record where
  seq : Byte
  code : Code
  body : Body
deriving DecidableEq, Repr

/-- The fetch record (section 8.4). -/
inductive FetchRec where
  | none
  | ordered (slot : Fin 64)
  | inFlight (slot : Fin 64) (reseen : Bool) (cancelled : Bool)
deriving DecidableEq, Repr

structure Oi where
  expected : Byte
  ready : BitVec 64
  queue : List Record
  fetch : FetchRec
deriving DecidableEq, Repr

/-! ## Report Unit (chapter 10) -/

/-- A report as generated (R167). `id` names it for R129. -/
structure Report where
  id : Nat
  kind : ReportKind
  state : TState
  p : Int
  stamp : BitVec 16
  code : Nat
  value : Int
  seq : Option Byte
deriving DecidableEq, Repr

/-- The record kept for a written slot (R171, R129). -/
structure SlotRecord where
  urgent : Bool
  senseId : Option Nat
deriving DecidableEq, Repr

structure Ru where
  pendingReports : List Report
  writeIdx : Byte
  readIdx : Byte
  nextSeq : BitVec 16
  loss : Nat
  slots : Vector (Option SlotRecord) 128
  /-- the attention line -/
  attention : Bool
  /-- a pulse is being given -/
  pulse : Bool
  snapDue : Bool
  snapCounter : Nat
  snapCount : BitVec 16
  /-- identity of the next report generated -/
  nextId : Nat
deriving DecidableEq, Repr

/-! ## Pass-Through Port and Memory Agent (chapter 9) -/

/-- The target of an assembly (R154). -/
inductive Target where
  | slot (j : Fin 64)
  | entry (i : Fin 32)
deriving DecidableEq, Repr

/-- An OPEN assembly buffer (R154). A segment entry uses the first four places. -/
structure Assembly where
  target : Target
  words : Vector (Option Word) 8
  byWord0 : Bool
  torn : Bool
deriving DecidableEq, Repr

/-- Where the U-side access stands (R152, R161, R162). -/
inductive UPhase where
  | waiting | held | granted
deriving DecidableEq, Repr

/-- What the port returns on the U-side at a completion (R152, R163). -/
structure UResponse where
  busError : Bool
  data : Option Word
deriving DecidableEq, Repr

/-- The M-side (R161). A BUSY M-side keeps the timeout in force at the grant (R189). -/
inductive MSide where
  | free
  | forwarded (acc : Access) (timeout : Nat)
  | agent (acc : Access) (timeout : Nat)
  /-- an agent's word whose job a line reset discarded (R166) -/
  | orphan (acc : Access) (timeout : Nat)
deriving DecidableEq, Repr

/-- The four jobs of the Memory Agent, by name (R159, R160). -/
inductive AgentJob where
  | reportWrite
  | orderFetch
  | segmentFetch
  | snapshotWrite
deriving DecidableEq, Repr

structure Ptp where
  /-- OPEN buffers, oldest first -/
  bufs : List Assembly
  u : Option (Access × UPhase)
  /-- an access that the drive processor presents at the moment the granted one completes, taken before the grant made
  there (R152, R161; log entry 26) -/
  coming : Option Access
  /-- the job whose start is taken at the moment the write on the M-side ends, before the grant made there (R160, R161;
  log entry 5) -/
  starting : Option AgentJob
  uDone : Option UResponse
  mSide : MSide
  guard : Nat
deriving DecidableEq, Repr

/-- The four kinds of job (R159), with what the owner handed over. -/
inductive JobKind where
  /-- slot, report, its report sequence and its loss field -/
  | reportWrite (slot : Fin 128) (r : Report) (seq : BitVec 16) (loss : Nat)
  | snapshotWrite
  | orderFetch (slot : Fin 64)
  | segmentFetch (i : Fin 32)
deriving DecidableEq, Repr

/-- A job of the Memory Agent (R159). -/
structure Job where
  kind : JobKind
  /-- position of the word in progress within the job's word order -/
  pos : Nat
  /-- the word in progress waits for the arbiter -/
  waiting : Bool
  /-- words 0 to 3 of a write job -/
  out : List Word
  /-- words read so far by a fetch job -/
  got : List Word
deriving DecidableEq, Repr

structure Ma where
  job : Option Job
deriving DecidableEq, Repr

/-! ## Mode Control (chapter 11) -/

structure ReelGains where
  kff : Nat
  ka : Nat
  kp : Nat
  ki : Nat
deriving DecidableEq, Repr

/-- The routine mask (R168). -/
structure RoutineMask where
  approach : Bool
  segmentEmpty : Bool
  markCrossed : Bool
  senseChange : Bool
  speedReduced : Bool
deriving DecidableEq, Repr

/-- The parameter set (section 11.5). -/
structure Params where
  gains : PerReel ReelGains
  kcf : Nat
  kcp : Nat
  kci : Nat
  setpoint : PerReel Nat
  halfWidth : Nat
  fillDrive : Nat
  unloadDrive : Nat
  normalSpeed : Nat
  searchSpeed : Nat
  rewindSpeed : Nat
  globalLimit : Nat
  accel : Nat
  emergencyAccel : Nat
  creep : Nat
  searchLimit : Nat
  botMargin : Nat
  eotOverrun : Nat
  loadOffset : Nat
  settleWindow : Nat
  settleCount : Nat
  settleTimeout : Nat
  loadTimeout : Nat
  unloadTime : Nat
  vacuumSettle : Nat
  stallThreshold : Nat
  stallTime : Nat
  runawayLimit : Nat
  memTimeout : Nat
  defaultCirc : Nat
  mask : RoutineMask
  /-- attention mode PULSE (LEVEL when false) -/
  attnPulse : Bool
  attnUrgent : Bool
  attnRoutine : Bool
  snapInterval : Nat
deriving DecidableEq, Repr

structure Mc where
  mode : PartMode
  straps : Straps
  params : Params
  /-- level of the RESET input: asserted -/
  resetAsserted : Bool
  /-- the initialisation interval is running -/
  initRunning : Bool
deriving DecidableEq, Repr

/-! ## The whole state -/

structure State where
  mu : Mu
  mg : Mg
  cl : Cl
  rl : PerReel ReelLoop
  sc : Sc
  wk : Wk
  tsq : Tsq
  fm : Fm
  slu : Slu
  oi : Oi
  ptp : Ptp
  ma : Ma
  ru : Ru
  mc : Mc
  /-- the MODEL's own: how many free values have been drawn (log entry 19) -/
  freeCount : Nat
  /-- the MODEL's own: the raw sense inputs that the coming SET SENSE LINEs find, oldest first, given from outside
  as the commands are (log entry 23) -/
  inputs : List (BitVec 12)
  /-- the commands that wait, first in, first out -/
  pending : List Instr
deriving DecidableEq, Repr

/-- No rule of the spec stops the part, so no command raises a fault and the type has no constructor. What the
spec calls faults (R104) and bus errors (R163) are effects on State. -/
inductive Fault where
deriving DecidableEq, Repr

/-- Why a command has no meaning. -/
inductive Refusal where
  /-- Raised by exec for a command that the model does not give a meaning; safe. -/
  | notModelled (mnemonic : String)
deriving DecidableEq, Repr

/-! ## Updates of one block each -/

namespace State

def onMu (s : State) (f : Mu → Mu) : State := { s with mu := f s.mu }
def onMg (s : State) (f : Mg → Mg) : State := { s with mg := f s.mg }
def onCl (s : State) (f : Cl → Cl) : State := { s with cl := f s.cl }
def onRl (s : State) (x : Reel) (f : ReelLoop → ReelLoop) : State := { s with rl := s.rl.set x (f (s.rl.get x)) }
def onSc (s : State) (f : Sc → Sc) : State := { s with sc := f s.sc }
def onWk (s : State) (f : Wk → Wk) : State := { s with wk := f s.wk }
def onTsq (s : State) (f : Tsq → Tsq) : State := { s with tsq := f s.tsq }
def onFm (s : State) (f : Fm → Fm) : State := { s with fm := f s.fm }
def onSlu (s : State) (f : Slu → Slu) : State := { s with slu := f s.slu }
def onOi (s : State) (f : Oi → Oi) : State := { s with oi := f s.oi }
def onPtp (s : State) (f : Ptp → Ptp) : State := { s with ptp := f s.ptp }
def onMa (s : State) (f : Ma → Ma) : State := { s with ma := f s.ma }
def onRu (s : State) (f : Ru → Ru) : State := { s with ru := f s.ru }
def onMc (s : State) (f : Mc → Mc) : State := { s with mc := f s.mc }

end State

/-! ## Reset values -/

/-- R19, R15: the measurement state after power-on or line reset, with the input levels of the moment. -/
def Mu.reset (levels : TachLevels) : Mu where
  periodCount := 0
  accum := 0
  m := 0
  lastForward := true
  p := 0
  notices := []
  eot := none
  capRef := levels.capstan
  reelRef := levels.reels
  silence := ⟨0, 0⟩
  est := ⟨⟨0, true, 0, none⟩, ⟨0, true, 0, none⟩⟩
  pair := none
  arrival := false
  missCount := 0
  lossReported := false
  frame := .idle
  convert := false

/-- R38: the generator after power-on reset, line reset or TRANSPORT RESET. -/
def Mg.reset : Mg where
  phase := .idle
  vt := 0
  prevVt := 0
  delta := 0
  motion := none
  v := 0
  d := 0
  l := 0
  r := 0
  w := 0
  q := 0
  accel := 0
  emergency := false
  lookAhead := none
  finalStop := false
  stopped := false
  clamped := false
  overrun := none
  aim := none
  pendStops := []
  pendMarkStop := false
  pendReaim := none
  pendHalt := false
  settle := ⟨0, 0, 0⟩
  chainEnd := none
  reduction := none
  satRun := 0

/-- R56: the capstan loop in OFF. -/
def Cl.reset : Cl := ⟨false, 0, 0, .none⟩

/-- R56: a reel loop after power-on or line reset. -/
def ReelLoop.reset : ReelLoop := ⟨.off, 0, 0, .none, false⟩

/-- R72: the cache after power-on or line reset. -/
def Sc.reset : Sc := ⟨Vector.replicate 32 .invalid, [], none⟩

/-- R72: the walker after power-on or line reset. -/
def Wk.reset : Wk := ⟨false, none, 0, [], none, 0, false, false, false, 0, false⟩

/-- R103: the sequencer after power-on or line reset. -/
def Tsq.reset : Tsq := ⟨.unloaded, true, false, false, false, none, 0, false⟩

/-- R119: the Fault Monitor after power-on or line reset. -/
def Fm.reset : Fm := ⟨none, [], 0, none, 0, false, ⟨0, 0⟩, 0, false⟩

/-- R133: a line with function NONE. -/
def Line.reset : Line := ⟨.none, .rising, false, 0, false, 0, false, .none⟩

/-- R133: the Sense Line Unit after power-on or line reset; the input levels are the pins'. -/
def Slu.reset (raw : BitVec 12) : Slu := ⟨Vector.replicate 12 Line.reset, 0, false, raw⟩

/-- R151: Order Intake after power-on or line reset. -/
def Oi.reset : Oi := ⟨0, 0, [], .none⟩

/-- R166: the port after power-on reset. -/
def Ptp.reset : Ptp := ⟨[], none, none, none, none, .free, 0⟩

/-- R178: the Report Unit after power-on or line reset. -/
def Ru.reset : Ru := ⟨[], 0, 0, 0, 0, Vector.replicate 128 none, false, false, false, 0, 0, 0⟩

/-- The defaults of section 11.5; the attention mode is the ATTN DEFAULT strap's (R178). -/
def Params.defaults (straps : Straps) : Params where
  gains := ⟨⟨6000, 60, 40, 16⟩, ⟨6000, 60, 40, 16⟩⟩
  kcf := 80
  kcp := 40
  kci := 8
  setpoint := ⟨512, 512⟩
  halfWidth := 96
  fillDrive := 300
  unloadDrive := 250
  normalSpeed := 25
  searchSpeed := 4
  rewindSpeed := 62
  globalLimit := 62
  accel := 4
  emergencyAccel := 8
  creep := 1
  searchLimit := 600000
  botMargin := 1500
  eotOverrun := 4000
  loadOffset := 3000
  settleWindow := 4
  settleCount := 4
  settleTimeout := 200
  loadTimeout := 4
  unloadTime := 8
  vacuumSettle := 500
  stallThreshold := 512
  stallTime := 800
  runawayLimit := 16
  memTimeout := 32
  defaultCirc := 11000
  mask := ⟨true, true, true, true, true⟩
  attnPulse := straps.attnDefault
  attnUrgent := true
  attnRoutine := true
  snapInterval := 40

/-- R180, R190: Mode Control at power-on reset. -/
def Mc.reset (straps : Straps) : Mc := ⟨.initialising, straps, Params.defaults straps, false, true⟩

/-- The state after a power-on reset that samples these straps and finds these tachometer levels and sense
inputs (R180 and the reset tables of every chapter). -/
def State.powerOn (straps : Straps) (levels : TachLevels) (raw : BitVec 12) (pending : List Instr) : State where
  mu := Mu.reset levels
  mg := Mg.reset
  cl := Cl.reset
  rl := ⟨ReelLoop.reset, ReelLoop.reset⟩
  sc := Sc.reset
  wk := Wk.reset
  tsq := Tsq.reset
  fm := Fm.reset
  slu := Slu.reset raw
  oi := Oi.reset
  ptp := Ptp.reset
  ma := ⟨none⟩
  ru := Ru.reset
  mc := Mc.reset straps
  freeCount := 0
  inputs := []
  pending := pending

/-- The machine right after power-on reset, with every strap pin, tachometer phase and sense input low
(DESIGN CHOICE, log entry 6: the spec gives no levels of the pins) and no command waiting. -/
def State.reset : State :=
  State.powerOn ⟨0, false, false⟩ ⟨⟨false, false⟩, ⟨⟨false, false⟩, ⟨false, false⟩⟩⟩ 0 []

end Sys2Proof.Machine
end

