-- ==== Sys2Proof/Machine/Arith.lean ====
section
/-! DEFINITION. The integer arithmetic of the part (00_scope.md, Integer Arithmetic) and the bit fields of words. -/

namespace Sys2Proof.Machine

/-- Clamp an integer to lo..hi. -/
def clampI (lo hi x : Int) : Int := if x < lo then lo else if hi < x then hi else x

/-- Clamp a natural number to lo..hi. -/
def clampN (lo hi x : Nat) : Nat := if x < lo then lo else if hi < x then hi else x

/-- Increase by one, saturating at the bound. -/
def satInc (bound n : Nat) : Nat := if n < bound then n + 1 else bound

/-- Sum saturating at the bound. -/
def satAdd (bound a b : Nat) : Nat := if a + b < bound then a + b else bound

/-- Division truncating toward zero (00_scope.md, Integer Arithmetic). -/
def quot (a b : Int) : Int := Int.tdiv a b

/-- The sign of an integer: -1, 0 or 1. -/
def signI (x : Int) : Int := if 0 < x then 1 else if x < 0 then -1 else 0

/-- Direction as a sign: forward is +1, reverse is -1. -/
def dirSign (forward : Bool) : Int := if forward then 1 else -1

/-- σ: -1 for reel S and +1 for reel T (00_scope.md, Direction and Sign). -/
def sigma : Reel → Int
  | .s => -1
  | .t => 1

/-- Bits hi:lo of a word as a number. -/
def bits (w : Word) (hi lo : Nat) : Nat := (w.toNat >>> lo) % 2 ^ (hi - lo + 1)

/-- One bit of a word. -/
def bit (w : Word) (k : Nat) : Bool := w.getLsbD k

/-- A number placed at bit lo of a word. -/
def place (n lo : Nat) : Word := BitVec.ofNat 32 (n <<< lo)

/-- A signed number in two's complement of `width` bits, as a natural number. -/
def twos (width : Nat) (x : Int) : Nat := (BitVec.ofInt width x).toNat

/-- A flag as 0 or 1. -/
def flagBit (b : Bool) : Nat := if b then 1 else 0

end Sys2Proof.Machine
end

