-- ==== Sys2Proof/Machine/Operands.lean ====
section
/-! DEFINITION. The record layouts of chapter 12: what the part reads from the words of a record, and the words of
the records it writes (R191). -/

namespace Sys2Proof.Machine

/-! ## Codes (sections 12.1, 12.2, 12.4) -/

/-- Section 12.1: the code byte of a record. -/
def Code.number : Code → Nat
  | .load => 1
  | .unload => 2
  | .rewind => 3
  | .runChain => 4
  | .space => 5
  | .marker => 6
  | .clearFault => 7
  | .returnToSetup => 8
  | .transportReset => 9
  | .setReelGains => 16
  | .setCapstanGains => 17
  | .setColumns => 18
  | .setSpeeds => 19
  | .setLimits => 20
  | .setSenseLine => 21
  | .setReporting => 22
  | .setDefaultCircumference => 23
  | .enterRun => 24

/-- All record codes. -/
def Code.all : List Code :=
  [.load, .unload, .rewind, .runChain, .space, .marker, .clearFault, .returnToSetup, .transportReset,
   .setReelGains, .setCapstanGains, .setColumns, .setSpeeds, .setLimits, .setSenseLine, .setReporting,
   .setDefaultCircumference, .enterRun]

/-- The code a code byte names, if any (R142). -/
def Code.ofNumber (n : Nat) : Option Code := Code.all.find? fun c => c.number == n

/-- Code 0, EMPTY (section 12.1). -/
def emptyCode : Nat := 0

/-- The setup codes (section 11.3). -/
def Code.isSetup : Code → Bool
  | .setReelGains | .setCapstanGains | .setColumns | .setSpeeds | .setLimits | .setSenseLine | .setReporting
  | .setDefaultCircumference | .enterRun => true
  | .load | .unload | .rewind | .runChain | .space | .marker | .clearFault | .returnToSetup
  | .transportReset => false

/-- Section 12.2: function codes. -/
def Func.number : Func → Nat
  | .none => 0
  | .limit .s true => 1
  | .limit .s false => 2
  | .limit .t true => 3
  | .limit .t false => 4
  | .botMark => 5
  | .eotMark => 6
  | .vacuumOk => 7
  | .doorClosed => 8
  | .tapeInPath => 9
  | .writeRing => 10

/-- The ten functions other than NONE, in code order. -/
def Func.assigned : List Func :=
  [.limit .s true, .limit .s false, .limit .t true, .limit .t false, .botMark, .eotMark, .vacuumOk,
   .doorClosed, .tapeInPath, .writeRing]

/-- The function a function code names, if any (R131). -/
def Func.ofNumber (n : Nat) : Option Func := (Func.none :: Func.assigned).find? fun f => f.number == n

/-- Section 12.2: the mode a mode code names, if any. -/
def LineMode.ofNumber : Nat → Option LineMode
  | 0 => some .rising
  | 1 => some .falling
  | 2 => some .both
  | 3 => some .high
  | 4 => some .low
  | _ => none

/-- Section 12.4: report kinds. -/
def ReportKind.number : ReportKind → Nat
  | .orderDone => 1
  | .orderRefused => 2
  | .approach => 3
  | .segmentEmpty => 4
  | .markCrossed => 5
  | .senseChange => 6
  | .speedReduced => 7
  | .setupApplied => 8
  | .fault => 9
  | .faultCleared => 10
  | .ordersFlushed => 11

/-- Section 10.1: the class of a report kind; true is URGENT. -/
def ReportKind.urgent : ReportKind → Bool
  | .fault | .faultCleared | .ordersFlushed => true
  | .orderDone | .orderRefused | .approach | .segmentEmpty | .markCrossed | .senseChange | .speedReduced
  | .setupApplied => false

/-- Section 12.4: transport state and phase. -/
def TState.number : TState → Nat
  | .unloaded => 0
  | .loadingFill => 1
  | .loadingSeek => 2
  | .ready => 3
  | .moving => 4
  | .settling => 5
  | .rewindingFast => 6
  | .rewindingSearch => 7
  | .rewindingReturn => 8
  | .unloadingReturn => 9
  | .unloadingWindOff => 10
  | .halting => 11
  | .fault => 12

/-- Section 12.4: outcomes. -/
def OrderOutcome.number : OrderOutcome → Nat
  | .complete => 0
  | .completeClamped => 1
  | .unsettled => 2
  | .stopped => 3
  | .eotLimit => 4
  | .chainLimit => 5
  | .segmentError => 6
  | .segmentUnavailable => 7
  | .botNotFound => 8
  | .loadTimeout => 9
  | .unloadTimeout => 10
  | .haltedByFault => 11

/-- Section 12.4: refusal reasons. -/
def Reason.number : Reason → Nat
  | .unknownCode => 1
  | .wrongMode => 2
  | .wrongState => 3
  | .sequenceError => 4
  | .fetchFailed => 5
  | .doorNotClosed => 6
  | .noWriteRing => 7
  | .causePersists => 8
  | .functionInUse => 9
  | .badValue => 10

/-- Section 12.4: fault kinds. -/
def FaultKind.number : FaultKind → Nat
  | .columnLimit .s true => 1
  | .columnLimit .s false => 2
  | .columnLimit .t true => 3
  | .columnLimit .t false => 4
  | .vacuumLoss => 5
  | .tapeBreak => 6
  | .reelStall .s => 7
  | .reelStall .t => 8
  | .sampleLoss => 9
  | .capstanRunaway => 10
  | .doorOpen => 11
  | .positionRange => 12

/-- R104: the class of a fault kind; true is BRAKE, false is RAMP. -/
def FaultKind.brakeClass : FaultKind → Bool
  | .vacuumLoss | .tapeBreak | .reelStall _ | .sampleLoss => true
  | .columnLimit _ _ | .capstanRunaway | .doorOpen | .positionRange => false

/-- Section 12.4: MARK CROSSED detail code of a crossing. -/
def Crossing.number (c : Crossing) : Nat :=
  match c.mark, c.forward with
  | .bot, true => 1
  | .bot, false => 2
  | .eot, true => 3
  | .eot, false => 4

/-- Section 12.4: MARK CROSSED detail code RING LOST. -/
def ringLostCode : Nat := 5

/-- Section 12.4: stop kinds. -/
def StopKind.number : StopKind → Nat
  | .controlled => 0
  | .emergency => 1

/-! ## Records the part reads (sections 12.1 to 12.3, 12.5) -/

/-- Word k of a body. -/
def Body.word (b : Body) : Fin 7 → Word
  | 0 => b.w0
  | 1 => b.w1
  | 2 => b.w2
  | 3 => b.w3
  | 4 => b.w4
  | 5 => b.w5
  | 6 => b.w6

/-- The post word's sequence, bits 7:0 (section 12.1). -/
def postSeq (w : Word) : Byte := BitVec.ofNat 8 (bits w 7 0)

/-- The post word's code, bits 15:8 (section 12.1). -/
def postCode (w : Word) : Nat := bits w 15 8

/-- A post word with this sequence and code (section 12.1). -/
def postWord (seq : Byte) (c : Code) : Word := place c.number 8 ||| place seq.toNat 0

/-- The order fields of words 0 and 1 (section 12.1). -/
def orderFields (b : Body) : OrderFields where
  distance := bits b.w0 23 0
  reverse := bit b.w1 0
  speedClass := bits b.w1 9 8
  start := Fin.ofNat 32 (bits b.w1 20 16)
  writeIntent := bit b.w1 24
  approachReports := bit b.w1 25
  seekReverse := bit b.w1 28

/-- A segment entry of four words (section 12.3), adjusted by R57. -/
def segmentOf (w0 w1 w2 w3 : Word) : Segment :=
  let vmax := bits w1 6 0
  let accel := bits w1 11 8
  { reverse := bit w3 0
    distance := bits w0 23 0
    vmax := if vmax = 0 then 1 else vmax
    accel := if accel = 0 then 1 else accel
    next := Fin.ofNat 32 (bits w1 20 16)
    last := bit w3 1
    flow := bit w3 2
    write := bit w3 3
    approach := bits w2 15 0
    adjusted := decide (vmax = 0) || decide (accel = 0) }

/-- The release word's read index (section 12.5). -/
def releaseIndex (w : Word) : Byte := BitVec.ofNat 8 (bits w 7 0)

/-- The stop word's kind (section 12.5). -/
def stopKind (w : Word) : StopKind := if bit w 0 then .emergency else .controlled

/-- The stop word's flush flag (section 12.5). -/
def stopFlush (w : Word) : Bool := bit w 1

/-- The stop word's resume sequence (section 12.5). -/
def stopResume (w : Word) : Byte := BitVec.ofNat 8 (bits w 15 8)

/-! ## Places in the transport region (R153) -/

/-- The region base: REGION × 1 MiB. -/
def regionBase (s : State) : Nat := s.mc.straps.region.toNat * 0x100000

/-- The 24-bit address of an offset of the region. -/
def regionAddr (s : State) (off : Nat) : BusAddr := BitVec.ofNat 24 (regionBase s + off)

/-- An address with its two lowest bits taken as 0 (R152). -/
def wordAddr (a : BusAddr) : Nat := a.toNat / 4 * 4

/-- The word offset of an address in the region, if it lies there (R153). -/
def regionOffset (s : State) (a : BusAddr) : Option Nat :=
  let w := wordAddr a
  if regionBase s ≤ w ∧ w - regionBase s ≤ 0x1FFC then some (w - regionBase s) else none

def slotOffset (j : Fin 64) (k : Nat) : Nat := 32 * j.val + 4 * k
def entryOffset (i : Fin 32) (k : Nat) : Nat := 0x0800 + 16 * i.val + 4 * k
def reportOffset (k : Fin 128) (j : Nat) : Nat := 0x0A00 + 16 * k.val + 4 * j
def releaseOffset : Nat := 0x1200
def stopOffset : Nat := 0x1204
def snapshotOffset (j : Nat) : Nat := 0x1210 + 4 * j

/-- What a watched write's offset names (R153, R154, R156, R158). -/
inductive RegionWord where
  | slotWord (j : Fin 64) (k : Fin 7)
  | postWord (j : Fin 64)
  | entryWord (i : Fin 32) (k : Fin 3)
  | entryClosing (i : Fin 32)
  | release
  | stop
  | unwatched
deriving DecidableEq, Repr

/-- The map of section 9.2 at a word offset. -/
def regionWord (off : Nat) : RegionWord :=
  if off < 0x0800 then
    let j := Fin.ofNat 64 (off / 32)
    let k := off % 32 / 4
    if h : k < 7 then .slotWord j ⟨k, h⟩ else .postWord j
  else if off < 0x0A00 then
    let i := Fin.ofNat 32 ((off - 0x0800) / 16)
    let k := (off - 0x0800) % 16 / 4
    if h : k < 3 then .entryWord i ⟨k, h⟩ else .entryClosing i
  else if off = releaseOffset then .release
  else if off = stopOffset then .stop
  else .unwatched

/-! ## Records the part writes (sections 12.4, 12.5) -/

/-- The four words of a report (section 12.4), words 0 to 3. -/
def reportWords (r : Report) (seq : BitVec 16) (loss : Nat) : List Word :=
  [ place seq.toNat 0 ||| place loss 16 ||| place r.kind.number 24 ||| place (flagBit r.kind.urgent) 28
      ||| place (flagBit r.seq.isSome) 29,
    place (twos 26 r.p) 0 ||| place r.state.number 26,
    place (twos 24 r.value) 0 ||| place (r.seq.getD 0).toNat 24,
    place r.code 0 ||| place r.stamp.toNat 16 ]

/-- A circumference field of the snapshot (section 12.5): 0 for UNKNOWN, and C - 5,999 otherwise. -/
def circField (c : Option Nat) : Nat :=
  match c with
  | none => 0
  | some n => n - 5999

/-- The four words of the status snapshot (section 12.5), words 0 to 3, with the values of this state. -/
def snapshotWords (s : State) : List Word :=
  [ place s.ru.snapCount.toNat 0 ||| place s.tsq.state.number 16 ||| place (twos 9 s.mu.m) 20,
    place (twos 26 s.mu.p) 0 ||| place (s.fm.first.elim 0 FaultKind.number) 26
      ||| place (flagBit s.tsq.referenced) 30 ||| place (flagBit (s.mc.mode == .run)) 31,
    place s.ru.nextSeq.toNat 0 ||| place s.oi.expected.toNat 16 ||| place (twos 8 s.mg.vt) 24,
    place (circField s.mu.est.s.circ) 0 ||| place (circField s.mu.est.t.circ) 14
      ||| place s.oi.queue.length 28 ]

/-! ## Setup records (section 12.2), clamped by R183 to the ranges of section 11.5 -/

/-- The capstan, column, speed and limit values of a record as written, before clamping, are applied by the
functions below; each answers the parameter set with the whole group set. -/
def withReelGains (p : Params) (b : Body) : Params :=
  let x : Reel := if bit b.w0 16 then .t else .s
  let g : ReelGains :=
    ⟨clampN 0 8191 (bits b.w0 12 0), clampN 0 255 (bits b.w1 7 0), clampN 0 255 (bits b.w1 15 8),
     clampN 0 255 (bits b.w1 23 16)⟩
  { p with gains := p.gains.set x g }

def withCapstanGains (p : Params) (b : Body) : Params :=
  { p with
    kcf := clampN 0 255 (bits b.w0 7 0)
    kcp := clampN 0 255 (bits b.w0 15 8)
    kci := clampN 0 255 (bits b.w0 23 16) }

def withColumns (p : Params) (b : Body) : Params :=
  { p with
    setpoint := ⟨clampN 128 896 (bits b.w0 9 0), clampN 128 896 (bits b.w0 25 16)⟩
    halfWidth := clampN 16 255 (bits b.w1 7 0)
    fillDrive := clampN 0 1023 (bits b.w1 25 16)
    unloadDrive := clampN 0 1023 (bits b.w2 9 0) }

def withSpeeds (p : Params) (b : Body) : Params :=
  { p with
    normalSpeed := clampN 1 127 (bits b.w0 6 0)
    searchSpeed := clampN 1 127 (bits b.w0 14 8)
    rewindSpeed := clampN 1 127 (bits b.w0 22 16)
    globalLimit := clampN 1 127 (bits b.w0 30 24)
    accel := clampN 1 15 (bits b.w1 3 0)
    emergencyAccel := clampN 1 31 (bits b.w1 12 8)
    creep := clampN 1 8 (bits b.w1 19 16) }

def withLimits (p : Params) (b : Body) : Params :=
  { p with
    searchLimit := clampN 1000 16000000 (bits b.w0 23 0)
    settleWindow := clampN 0 63 (bits b.w0 29 24)
    botMargin := clampN 0 65535 (bits b.w1 15 0)
    eotOverrun := clampN 0 65535 (bits b.w1 31 16)
    loadOffset := clampN 0 65535 (bits b.w2 15 0)
    stallTime := clampN 8 65535 (bits b.w2 31 16)
    settleTimeout := clampN 8 2000 (bits b.w3 11 0)
    vacuumSettle := clampN 50 2000 (bits b.w3 23 12)
    settleCount := clampN 1 15 (bits b.w3 27 24)
    loadTimeout := clampN 1 15 (bits b.w3 31 28)
    stallThreshold := clampN 1 2047 (bits b.w4 10 0)
    unloadTime := clampN 1 30 (bits b.w4 15 11)
    runawayLimit := clampN 1 255 (bits b.w4 23 16)
    memTimeout := clampN 8 255 (bits b.w4 31 24) }

def withDefaultCirc (p : Params) (b : Body) : Params :=
  { p with defaultCirc := clampN 6000 17000 (bits b.w0 14 0) }

def withReporting (p : Params) (b : Body) : Params :=
  { p with
    mask := ⟨bit b.w0 0, bit b.w0 1, bit b.w0 2, bit b.w0 3, bit b.w0 4⟩
    attnPulse := bit b.w0 8
    attnUrgent := bit b.w0 9
    attnRoutine := bit b.w0 10
    snapInterval := bits b.w0 23 16 }

/-- R183, section 11.5: whether a value of the record lies outside its range. Only these fields can hold one. -/
def columnsClamped (b : Body) : Bool :=
  bits b.w0 9 0 < 128 || 896 < bits b.w0 9 0 || bits b.w0 25 16 < 128 || 896 < bits b.w0 25 16
    || bits b.w1 7 0 < 16

def speedsClamped (b : Body) : Bool :=
  bits b.w0 6 0 < 1 || bits b.w0 14 8 < 1 || bits b.w0 22 16 < 1 || bits b.w0 30 24 < 1 || bits b.w1 3 0 < 1
    || bits b.w1 12 8 < 1 || bits b.w1 19 16 < 1 || 8 < bits b.w1 19 16

def limitsClamped (b : Body) : Bool :=
  bits b.w0 23 0 < 1000 || 16000000 < bits b.w0 23 0 || bits b.w2 31 16 < 8
    || bits b.w3 11 0 < 8 || 2000 < bits b.w3 11 0 || bits b.w3 23 12 < 50 || 2000 < bits b.w3 23 12
    || bits b.w3 27 24 < 1 || bits b.w3 31 28 < 1 || bits b.w4 10 0 < 1 || bits b.w4 15 11 < 1
    || 30 < bits b.w4 15 11 || bits b.w4 23 16 < 1 || bits b.w4 31 24 < 8

def defaultCircClamped (b : Body) : Bool := bits b.w0 14 0 < 6000 || 17000 < bits b.w0 14 0

/-- The fields of SET SENSE LINE (section 12.2). -/
structure SenseLineFields where
  line : Nat
  func : Nat
  mode : Nat
  invert : Bool
  exponent : BitVec 3
deriving DecidableEq, Repr

def senseLineFields (b : Body) : SenseLineFields where
  line := bits b.w0 3 0
  func := bits b.w0 11 8
  mode := bits b.w0 18 16
  invert := bit b.w0 24
  exponent := BitVec.ofNat 3 (bits b.w0 30 28)

end Sys2Proof.Machine
end

