-- ==== Sys2Proof/Machine/Flags.lean ====
section
/-! DEFINITION. Readings that are computed from the state: function levels, in-band statuses, saturation flags,
loop modes, attendance of faults, the attention level, the effective ceiling. Nothing here changes the state. -/

namespace Sys2Proof.Machine

/-! ## Part mode and lines -/

/-- The part mode is SETUP or RUN: the snoop unit watches (R153), the period timer runs (R1). -/
def watching (s : State) : Bool := s.mc.mode != .initialising

/-- The transport ready line (R165). -/
def transportReady (s : State) : Bool := watching s

/-! ## Column samples (chapters 1 and 3) -/

/-- The samples are live while the current pair is present and the miss count is below 3 (R17). -/
def live (s : State) : Bool := s.mu.pair.isSome && decide (s.mu.missCount < 3)

/-- Reel x's sample of the current pair. -/
def sample (x : Reel) (s : State) : Option Nat := s.mu.pair.map fun p => (p.get x).toNat

/-- The ready band of column x holds this sample (R50). -/
def bandHolds (x : Reel) (n : Nat) (s : State) : Bool :=
  decide (s.mc.params.setpoint.get x ≤ n + s.mc.params.halfWidth)
    && decide (n ≤ s.mc.params.setpoint.get x + s.mc.params.halfWidth)

/-- The in-band status of column x (R51). -/
def inBand (x : Reel) (s : State) : Bool := live s && (sample x s).elim false fun n => bandHolds x n s

/-- The circumference used by reel x's computation (R46). -/
def circOf (x : Reel) (s : State) : Nat := (s.mu.est.get x).circ.getD s.mc.params.defaultCirc

/-- Reel x's saturation flag (R47). -/
def satFlag (x : Reel) (s : State) : Bool := (s.rl.get x).sat != .none

/-- The estimator of reel x is enabled (R15). -/
def estEnabled (x : Reel) (s : State) : Bool := s.tsq.vacuum && (s.rl.get x).mode != .fill

/-! ## Loop modes (R39, R43) -/

/-- The states in which the capstan loop may run (R39). -/
def TState.capstanRuns : TState → Bool
  | .ready | .moving | .settling | .loadingSeek | .rewindingFast | .rewindingSearch | .rewindingReturn
  | .unloadingReturn | .halting => true
  | .unloaded | .loadingFill | .unloadingWindOff | .fault => false

/-- The capstan loop is to be in RUN (R39). -/
def capstanToRun (s : State) : Bool := s.tsq.state.capstanRuns && !s.tsq.brake

/-- The mode reel x is to be in (R43). In LOADING FILL a reel whose band-entered flag is set has left FILL. -/
def reelModeFor (x : Reel) (s : State) : ReelMode :=
  if s.tsq.brake then .off
  else match s.tsq.state with
    | .unloaded => .off
    | .unloadingWindOff => match x with
      | .s => .wind
      | .t => .off
    | .loadingFill =>
      if !s.tsq.vacuum then .off else if (s.rl.get x).band then .loop else .fill
    | .loadingSeek | .ready | .moving | .settling | .rewindingFast | .rewindingSearch | .rewindingReturn
    | .unloadingReturn | .halting | .fault => if s.tsq.vacuum then .loop else .off

/-! ## Sense line functions (chapter 7) -/

/-- The twelve lines, in number order. -/
def lineIds : List (Fin 12) := [0, 1, 2, 3, 4, 5, 6, 7, 8, 9, 10, 11]

/-- The line that carries a function (R120). -/
def carrier (f : Func) (s : State) : Option (Fin 12) := lineIds.find? fun k => (s.slu.lines.get k).func == f

/-- R122: the reading of an unassigned function, as a level. -/
def Func.unassignedLevel : Func → Bool
  | .vacuumOk | .doorClosed | .tapeInPath => true
  | .none | .limit _ _ | .botMark | .eotMark | .writeRing => false

/-- R122: the level of a function. -/
def level (f : Func) (s : State) : Bool :=
  match carrier f s with
  | some k => (s.slu.lines.get k).level
  | none => f.unassignedLevel

/-- The ten function levels as the SENSE CHANGE detail code holds them (section 12.4): bit f - 1 for function f. -/
def levelsField (s : State) : Nat :=
  (Func.assigned.map fun f => if level f s then 2 ^ (f.number - 1) else 0).sum

/-! ## Faults (chapter 6) -/

/-- R104: the fault kind is attended. -/
def attended (k : FaultKind) (s : State) : Bool :=
  watching s && match k with
  | .columnLimit x _ => s.tsq.vacuum && !(s.tsq.state == .loadingFill && !(s.rl.get x).band)
  | .vacuumLoss => s.tsq.vacuum && s.fm.vacSettled
  | .tapeBreak => s.tsq.vacuum
  | .reelStall _ => !s.tsq.brake
  | .sampleLoss => s.tsq.vacuum
  | .capstanRunaway => s.cl.run
  | .doorOpen => s.tsq.state != .unloaded
  | .positionRange => s.tsq.state != .unloaded

/-- R108: the door condition. -/
def doorOpenMoving (s : State) : Bool := !level .doorClosed s && (s.mg.vt != 0 || s.mu.m != 0)

/-- R117: a cause persists. -/
def persists (s : State) : FaultKind → Bool
  | .columnLimit x upper => level (.limit x upper) s
  | .vacuumLoss => !level .vacuumOk s
  | .tapeBreak => !level .tapeInPath s
  | .doorOpen => !level .doorClosed s
  | .reelStall _ | .sampleLoss | .capstanRunaway | .positionRange => false

/-- The causes the fault record holds, in record order (section 6.4). -/
def causes (s : State) : List FaultKind := s.fm.first.toList ++ s.fm.later

/-! ## Motion (chapter 2) -/

/-- R23: the effective ceiling of a motion with this ceiling term. -/
def effCeiling (ceiling : Nat) (s : State) : Nat :=
  let base := min ceiling s.mc.params.globalLimit
  match s.mg.reduction with
  | none => base
  | some c => min base c

/-- The part of the braking distance that `fuel` steps cover. -/
def brakeSteps (a w : Nat) : Nat → Nat → Nat
  | 0, _ => 0
  | n + 1, c => if c - a ≤ w then 0 else (c - a) + brakeSteps a w n (c - a)

/-- R22: the braking distance B_w(c) at acceleration a. A speed c takes at most c steps. -/
def brakingDistance (a w c : Nat) : Nat := brakeSteps a w c c

/-! ## Reports (chapter 10) -/

/-- The unreleased reports: (write index - read index) mod 256. -/
def unreleased (s : State) : Nat := (s.ru.writeIdx - s.ru.readIdx).toNat

/-- The slot of a ring index: index mod 128. -/
def slotOf (i : Byte) : Fin 128 := Fin.ofNat 128 i.toNat

/-- The class is in the attention mask. -/
def inAttnMask (urgent : Bool) (s : State) : Bool :=
  if urgent then s.mc.params.attnUrgent else s.mc.params.attnRoutine

/-- R174: the ring holds an unreleased report whose class is in the attention mask. -/
def attnLevel (s : State) : Bool :=
  (List.range (unreleased s)).any fun n =>
    match s.ru.slots.get (slotOf (s.ru.readIdx + BitVec.ofNat 8 n)) with
    | some rec => inAttnMask rec.urgent s
    | none => false

/-- R168: the routine mask lets a report of this kind pass. -/
def maskPasses (s : State) : ReportKind → Bool
  | .approach => s.mc.params.mask.approach
  | .segmentEmpty => s.mc.params.mask.segmentEmpty
  | .markCrossed => s.mc.params.mask.markCrossed
  | .senseChange => s.mc.params.mask.senseChange
  | .speedReduced => s.mc.params.mask.speedReduced
  | .orderDone | .orderRefused | .setupApplied | .fault | .faultCleared | .ordersFlushed => true

/-! ## Order Intake (chapter 8) -/

/-- The slot of a sequence: sequence mod 64 (R135). -/
def seqSlot (seq : Byte) : Fin 64 := Fin.ofNat 64 seq.toNat

/-- The expected slot (R135). -/
def expectedSlot (s : State) : Fin 64 := seqSlot s.oi.expected

/-- The ready flag of a slot (R135). -/
def readyFlag (j : Fin 64) (s : State) : Bool := s.oi.ready.getLsbD j.val

/-- The number of ready flags set (R146, R99). -/
def readyCount (s : State) : Nat := ((List.range 64).filter fun j => s.oi.ready.getLsbD j).length

/-- R76: the head of the order queue may be taken. -/
def headMayBeTaken (s : State) : Bool :=
  watching s && s.tsq.inHand.isNone
    && (s.tsq.state == .ready || s.tsq.state == .unloaded || s.tsq.state == .fault)

/-! ## Jobs of the Memory Agent (R160) -/

def reportReady (s : State) : Bool := !s.ru.pendingReports.isEmpty && decide (unreleased s < Config.ringSlots)

def orderFetchReady (s : State) : Bool :=
  match s.oi.fetch with
  | .ordered _ => true
  | .none | .inFlight _ _ _ => false

def segmentFetchReady (s : State) : Bool := !s.sc.fetchList.isEmpty && s.sc.inFlight.isNone

def snapshotReady (s : State) : Bool := s.ru.snapDue

/-- A REPORT WRITE is under way (R162, R173). -/
def reportUnderWrite (s : State) : Bool :=
  match s.ma.job with
  | some ⟨.reportWrite _ _ _ _, _, _, _, _⟩ => true
  | _ => false

end Sys2Proof.Machine
end

