-- ==== Sys2Proof/Machine/Ops.lean ====
section
/-! DEFINITION. Operations that many commands share: generating a report, changing the transport state and the
outputs with everything that follows them, starting and ending an order in hand, applying the brake to the
generator. -/

namespace Sys2Proof.Machine

/-! ## Sense lines and reports (R129, R167 to R169) -/

/-- R129: the pending flags of the lines whose carrying report is this one are cleared. -/
def clearCarried (id : Nat) (s : State) : State :=
  s.onSlu fun u => { u with
    lines := u.lines.map fun l =>
      if l.carry = .report id then { l with pending := false, carry := .none } else l }

/-- R169: a report is dropped or displaced; the loss count increases and a SENSE CHANGE report's lines are told. -/
def dropReport (r : Report) (s : State) : State :=
  let s := s.onRu fun u => { u with loss := satInc Config.countMax u.loss }
  if r.kind = .senseChange then clearCarried r.id s else s

/-- The youngest ROUTINE report of a pending list, and the list without it. -/
def takeYoungestRoutine : List Report → Option (Report × List Report)
  | [] => none
  | r :: rs =>
    match takeYoungestRoutine rs with
    | some (x, rest) => some (x, r :: rest)
    | none => if r.kind.urgent then none else some (r, rs)

/-- R169: a report that has passed the mask joins, displaces or is dropped. -/
def enterPending (r : Report) (s : State) : State :=
  if s.ru.pendingReports.length < Config.pendingMax then
    s.onRu fun u => { u with pendingReports := u.pendingReports ++ [r] }
  else if r.kind.urgent then
    match takeYoungestRoutine s.ru.pendingReports with
    | some (old, rest) => dropReport old (s.onRu fun u => { u with pendingReports := rest ++ [r] })
    | none => dropReport r s
  else dropReport r s

/-- The report that would be generated now (R167). -/
def makeReport (kind : ReportKind) (code : Nat) (value : Int) (seq : Option Byte) (s : State) : Report where
  id := s.ru.nextId
  kind := kind
  state := s.tsq.state
  p := s.mu.p
  stamp := s.mu.periodCount
  code := code
  value := clampI Config.detailMin Config.detailMax value
  seq := seq

/-- R167, R168: a block generates a report. -/
def generate (kind : ReportKind) (code : Nat) (value : Int) (seq : Option Byte) (s : State) : State :=
  let r := makeReport kind code value seq s
  let s := s.onRu fun u => { u with nextId := u.nextId + 1 }
  if maskPasses s kind then enterPending r s else s

/-- The sequence of the order in hand, if one is in hand. -/
def handSeq (s : State) : Option Byte := s.tsq.inHand.map InHand.seq

/-- ORDER REFUSED (R77, R142, R182). -/
def refuse (reason : Reason) (value : Int) (seq : Byte) (s : State) : State :=
  generate .orderRefused reason.number value (some seq) s

/-! ## Loop modes follow the state and the outputs (R39, R43, R53, R15, R110) -/

/-- R39: the capstan loop takes its mode; a change sets its values to those of OFF, and the runaway run is 0 in
OFF and at each entry to RUN (R110). -/
def followCapstan (s : State) : State :=
  let run := capstanToRun s
  if run = s.cl.run then s
  else (s.onCl fun _ => ⟨run, 0, 0, .none⟩).onFm fun f => { f with runaway := 0 }

/-- The values a reel takes on entry to a mode (R43, R49, R52). -/
def reelEntry (mode : ReelMode) (s : State) (l : ReelLoop) : ReelLoop :=
  match mode with
  | .off => { l with mode := .off, d := 0, a := 0, sat := .none }
  | .wind => { l with mode := .wind, d := s.mc.params.unloadDrive, a := 0, sat := .none }
  | .fill => { l with
      mode := .fill, d := if live s then -(s.mc.params.fillDrive : Int) else 0, a := 0, sat := .none,
      band := false }
  | .loop => { l with mode := .loop, d := 0, a := 0, sat := .none }

/-- R43: reel x takes its mode. -/
def followReel (x : Reel) (s : State) : State :=
  let mode := reelModeFor x s
  if mode = (s.rl.get x).mode then s else s.onRl x (reelEntry mode s)

/-- R15: a disabled estimator's tally and capstan sum are 0. -/
def followEstimator (x : Reel) (s : State) : State :=
  if estEnabled x s then s
  else s.onMu fun u => { u with est := u.est.set x { u.est.get x with tally := 0, sum := 0 } }

/-- The loops and the estimators follow the transport state and the outputs. -/
def followModes (s : State) : State :=
  followEstimator .t (followEstimator .s (followReel .t (followReel .s (followCapstan s))))

/-- R49: on entry to the FILL phase both reels enter FILL, and their band-entered flags are cleared. -/
def clearBandsAt (st : TState) (s : State) : State :=
  if st = .loadingFill ∧ s.tsq.state ≠ .loadingFill then
    (s.onRl .s fun l => { l with band := false }).onRl .t fun l => { l with band := false }
  else s

/-- R73, R74, R53: the sequencer or the Fault Monitor takes a transport state with these outputs. A change of
state makes a snapshot due (R176). Both high-drive runs become 0 when BRAKE goes on (R109). A change of VACUUM
PUMP sets the vacuum settle timer to 0 (R106). The loops follow at once. -/
def enter (st : TState) (brake vacuum : Bool) (s : State) : State :=
  let brakeOn := brake && !s.tsq.brake
  let vacChange := vacuum != s.tsq.vacuum
  let s := clearBandsAt st s
  let s := if st = s.tsq.state then s else s.onRu fun u => { u with snapDue := true }
  let s := s.onFm fun f => { f with
    highRun := if brakeOn then ⟨0, 0⟩ else f.highRun
    vacTimer := if vacChange then 0 else f.vacTimer
    vacSettled := if vacChange then false else f.vacSettled }
  followModes (s.onTsq fun t => { t with state := st, brake := brake, vacuum := vacuum })

/-- A change of state that keeps BRAKE and VACUUM PUMP. -/
def enterKeeping (st : TState) (s : State) : State := enter st s.tsq.brake s.tsq.vacuum s

/-- WRITE ENABLE is dropped (R84). -/
def dropWriteEnable (s : State) : State := s.onTsq fun t => { t with writeEnable := false }

/-! ## The order in hand (R75, R79) -/

/-- R75, R84: the order in hand becomes absent; the phase timer is cleared with it, and WRITE ENABLE, which only an
order in hand can assert, is off. -/
def clearHand (s : State) : State :=
  s.onTsq fun t => { t with inHand := none, timer := 0, timerOn := false, writeEnable := false }

/-- R79: the detail value of an ORDER DONE; `pe` is the error of an UNSETTLED end. -/
def orderDoneValue (h : InHand) (outcome : OrderOutcome) (pe : Int) (s : State) : Int :=
  if outcome = .unsettled then pe
  else if h.code = .space ∨ h.code = .runChain then s.mu.p - h.pAtTake
  else 0

/-- R79: the order in hand ends with this outcome, and its ORDER DONE is generated. -/
def finishOrder (outcome : OrderOutcome) (pe : Int) (s : State) : State :=
  match s.tsq.inHand with
  | none => s
  | some h =>
    clearHand (generate .orderDone outcome.number (orderDoneValue h outcome pe s) (some h.seq) s)

/-- R79: an order that completes at its take. -/
def doneAtTake (outcome : OrderOutcome) (value : Int) (seq : Byte) (s : State) : State :=
  generate .orderDone outcome.number value (some seq) s

/-- COMPLETE becomes COMPLETE CLAMPED when a clamp or an adjusted copy calls for it (R78, R83). -/
def OrderOutcome.clampedIf (o : OrderOutcome) (b : Bool) : OrderOutcome :=
  if o = .complete ∧ b then .completeClamped else o

/-! ## The generator comes to IDLE -/

/-- The generator is IDLE with no motion (R35), and the motion's reduction ceiling is gone (R83); v_t, its change and
the saturation run are kept. -/
def Mg.toIdle (g : Mg) : Mg :=
  { Mg.reset with vt := g.vt, prevVt := g.prevVt, delta := g.delta, satRun := g.satRun }

/-- R34: a brake request is taken. -/
def brakeGenerator (s : State) : State := s.onMg fun _ => Mg.reset

/-- The generator hands on v_t for the new period (R20). -/
def handOnSpeed (vt : Int) (s : State) : State :=
  s.onMg fun g => { g with vt := vt, delta := vt - g.prevVt, prevVt := vt }

end Sys2Proof.Machine
end

