-- ==== Sys2Proof/Machine/Chain.lean ====
section
/-! DEFINITION. The segment cache and the chain walker (chapter 4), with the WRITE ENABLE of a segment entry
(R84), which the walker's hand-on drives. -/

namespace Sys2Proof.Machine

/-! ## The cache (R58 to R62) -/

/-- The usable copy of an entry: VALID or STALE (section 4.2). -/
def CacheEntry.copy : CacheEntry → Option Segment
  | .valid c => some c
  | .stale c => some c
  | .invalid => none
  | .fetching => none

def entryOf (i : Fin 32) (s : State) : CacheEntry := s.sc.entries.get i

def setEntry (i : Fin 32) (e : CacheEntry) (s : State) : State :=
  s.onSc fun c => { c with entries := c.entries.set i.val e i.isLt }

/-- A SEGMENT FETCH of entry i is in flight. -/
def segInFlight (i : Fin 32) (s : State) : Bool := s.sc.inFlight.elim false fun f => f.index == i

def setFetchMark (m : FetchMark) (s : State) : State :=
  s.onSc fun c => { c with inFlight := c.inFlight.map fun f => { f with mark := m } }

/-- R61: i joins the fetch list at its head, or moves there. -/
def fetchAtHead (i : Fin 32) (s : State) : State :=
  s.onSc fun c => { c with fetchList := i :: c.fetchList.filter (· ≠ i) }

/-- R61: i joins the fetch list at its tail. -/
def fetchAtTail (i : Fin 32) (s : State) : State :=
  s.onSc fun c => { c with fetchList := c.fetchList.filter (· ≠ i) ++ [i] }

/-- R61: entry i is needed by the walker, for a wait or a look-ahead: an INVALID entry is ordered at the head of
the list, one FETCHING in the list moves to the head, one in flight is not ordered again. -/
def orderForWalker (i : Fin 32) (s : State) : State :=
  match entryOf i s with
  | .invalid => fetchAtHead i (setEntry i .fetching s)
  | .fetching => if i ∈ s.sc.fetchList then fetchAtHead i s else s
  | .valid _ => s
  | .stale _ => s

/-- Entry i is in the in-use set and holds a copy (R58; log entry 17). -/
def inUseWithCopy (i : Fin 32) (s : State) : Option Segment :=
  if i ∈ s.wk.inUse then (entryOf i s).copy else none

/-- R59: a whole capture of entry i, with the copy as adjusted by R57. -/
def wholeCapture (i : Fin 32) (copy : Segment) (s : State) : State :=
  match inUseWithCopy i s with
  | some old => setEntry i (.stale old) s
  | none =>
    let s := match entryOf i s with
      | .fetching =>
        if segInFlight i s then setFetchMark .discard s
        else s.onSc fun c => { c with fetchList := c.fetchList.filter (· ≠ i) }
      | .invalid => s
      | .valid _ => s
      | .stale _ => s
    setEntry i (.valid copy) s

/-- R60: a partial capture of entry i. -/
def partialCapture (i : Fin 32) (s : State) : State :=
  match inUseWithCopy i s with
  | some old => setEntry i (.stale old) s
  | none =>
    if segInFlight i s then setFetchMark .reread (setEntry i .fetching s)
    else if i ∈ s.sc.fetchList then s
    else
      let s := setEntry i .invalid s
      if s.wk.awaited = some i then orderForWalker i s else s

/-- R67: a fetch of the awaited entry has failed; SEGMENT UNAVAILABLE is taken at the next expiry. The entry stays
awaited until then (log entry 39: the model's choice). -/
def reportUnavailable (s : State) : State := s.onMg fun g => { g with chainEnd := some .segmentUnavailable }

/-- R62: the SEGMENT FETCH in flight completes with this copy. -/
def segFetchComplete (copy : Segment) (s : State) : State :=
  match s.sc.inFlight with
  | none => s
  | some f =>
    let s := s.onSc fun c => { c with inFlight := none }
    match f.mark with
    | .none => setEntry f.index (.valid copy) s
    | .discard => s
    | .reread => fetchAtHead f.index s

/-- R62: the SEGMENT FETCH in flight fails. -/
def segFetchFail (s : State) : State :=
  match s.sc.inFlight with
  | none => s
  | some f =>
    let s := s.onSc fun c => { c with inFlight := none }
    match f.mark with
    | .discard => s
    | .none | .reread =>
      let s := setEntry f.index .invalid s
      if s.wk.awaited = some f.index then reportUnavailable s else s

/-! ## The end of a chain (R63) -/

/-- The 32 entries, in index order. -/
def entryIds : List (Fin 32) := List.finRange 32

/-- R63: one entry's refresh at a chain end. -/
def refreshEntry (i : Fin 32) (s : State) : State :=
  match entryOf i s with
  | .stale _ =>
    let s := setEntry i .fetching s
    if segInFlight i s then setFetchMark .reread s else fetchAtTail i s
  | .invalid => s
  | .fetching => s
  | .valid _ => s

/-- R63: the walker becomes inactive and STALE entries are ordered for refresh, in ascending order. WRITE ENABLE
is dropped (R84). -/
def endChain (s : State) : State :=
  if s.wk.active then
    let s := entryIds.foldl (fun s i => refreshEntry i s) s
    dropWriteEnable (s.onWk fun _ => Wk.reset)
  else s

/-! ## Entering segments (R64 to R71) -/

/-- R84: what a segment entry does to WRITE ENABLE. -/
def writeEnableAtEntry (seg : Segment) (s : State) : State :=
  let on := match s.tsq.inHand with
    | none => false
    | some h =>
      decide (h.code = .runChain) && h.fields.writeIntent && !h.stopping && !seg.reverse && seg.write
        && level .writeRing s
  s.onTsq fun t => { t with writeEnable := on }

/-- R71: the APPROACH of the current segment, if due. -/
def testApproach (s : State) : State :=
  match s.wk.current with
  | none => s
  | some (k, seg) =>
    if s.wk.approachReports ∧ seg.approach ≠ 0 ∧ seg.distance ≠ 0 ∧ ¬ s.mg.stopped ∧ ¬ s.wk.approachDone
        ∧ s.wk.g ≤ seg.approach then
      generate .approach k.val s.wk.g (some s.wk.seq) (s.onWk fun w => { w with approachDone := true })
    else s

/-- R25, R66: the look-ahead of a segment handed as not last: the end speed and the copy kept, and the state with
the next entry's fetch ordered where it is not usable. -/
def lookAhead (seg : Segment) (s : State) : Nat × Option (Fin 32 × Segment) × State :=
  match (entryOf seg.next s).copy with
  | none => (0, none, orderForWalker seg.next s)
  | some n =>
    if (n.reverse && n.write) || !seg.flow || (n.reverse != seg.reverse) then (0, none, s)
    else
      let w := min (min seg.vmax n.vmax) (effCeiling seg.vmax s)
      if w = 0 then (0, none, s) else (w, some (seg.next, n), s)

/-- R65, step 1: the visit is counted, the entry joins the in-use set and becomes the current segment. -/
def countVisit (k : Fin 32) (seg : Segment) (s : State) : State :=
  s.onWk fun w => { w with
    visits := w.visits + 1
    inUse := if k ∈ w.inUse then w.inUse else k :: w.inUse
    current := some (k, seg)
    awaited := none
    adjusted := w.adjusted || seg.adjusted }

/-- R65 step 4, R70: the 32nd visit is handed as last, and sets the chain-limit mark when the copy is not last. -/
def visitLimit (seg : Segment) (s : State) : State :=
  if s.wk.visits = Config.visitMax ∧ ¬ seg.last then s.onWk fun w => { w with chainLimit := true } else s

/-- R65 step 3, R68: the SEGMENT EMPTY report of a segment whose distance is 0. -/
def reportEmpty (k : Fin 32) (seg : Segment) (s : State) : State :=
  if seg.distance = 0 then generate .segmentEmpty k.val s.wk.visits (some s.wk.seq) s else s

/-- The segment is handed as last (R65, R70). -/
def handedLast (seg : Segment) (s : State) : Bool := seg.last || decide (s.wk.visits = Config.visitMax)

/-- R65, steps 5 to 8: the segment is handed to the generator, looked ahead, tested for APPROACH and told to the
sequencer. `before` is the distance to its start and c the counts that this expiry commits (R26): the stretch runs
from where the expiry finds the motion, and g starts at the distance less the surplus c - before. -/
def giveSegment (seg : Segment) (before : Int) (c : Nat) (s : State) : State :=
  let last := handedLast seg s
  let r : Int := before + seg.distance
  let (w, la, s) := if last then (0, none, s) else lookAhead seg s
  let s := s.onMg fun g => { g with
    phase := .run
    motion := g.motion.map fun m => { m with forward := !seg.reverse, accel := seg.accel, ceiling := seg.vmax }
    accel := seg.accel
    l := g.l + seg.distance
    r := r
    w := w
    lookAhead := la
    finalStop := last }
  let s := testApproach (s.onWk fun w => { w with g := r - c, approachDone := false })
  writeEnableAtEntry seg s

/-- What the walker answers when the generator asks for a segment at rest (R64, R67, R68, R69). -/
inductive Entry where
  | entered
  | waiting
  | ended (reason : ChainReason)
deriving DecidableEq, Repr

/-- R67: entry k is awaited; the generator is in HOLD and WRITE ENABLE is dropped (R84). -/
def awaitEntry (k : Fin 32) (s : State) : State :=
  let s := orderForWalker k s
  dropWriteEnable ((s.onWk fun w => { w with awaited := some k }).onMg fun g => { g with phase := .hold })

/-- R65, R67, R68, R69: entry k is entered at rest or awaited. An empty segment takes all eight steps of R65, as any
entry made at an expiry does, and is then skipped: the chain ends or its next index is entered, at once. A chain
makes at most 32 visits, so 33 rounds always suffice. The entry that ends the chain by R69 drops WRITE ENABLE (R84;
log entry 18). -/
def enterAtRest : Nat → Fin 32 → State → State × Entry
  | 0, k, s => (awaitEntry k s, .waiting)
  | n + 1, k, s =>
    match (entryOf k s).copy with
    | none => (awaitEntry k s, .waiting)
    | some seg =>
      let s := countVisit k seg s
      if seg.reverse && seg.write then (dropWriteEnable s, .ended .segmentError)
      else
        let s := giveSegment seg 0 0 (reportEmpty k seg (visitLimit seg (s.onMg fun g => { g with v := 0 })))
        if seg.distance ≠ 0 then (s, .entered)
        else if handedLast seg s then (s, .ended (if s.wk.chainLimit then .chainLimit else .complete))
        else enterAtRest n seg.next s

/-- The rounds of enterAtRest and of passBoundary: one more than the visits of a chain. -/
def entryRounds : Nat := Config.visitMax + 1

/-- R64: the walker starts a chain at segment k for this order. Where the entries made at the start end the chain,
the generator waits in HOLD and takes that end at the first expiry. -/
def startChain (k : Fin 32) (seq : Byte) (approachReports : Bool) (s : State) : State :=
  let s := s.onWk fun _ => { Wk.reset with active := true, seq := seq, approachReports := approachReports }
  match enterAtRest entryRounds k s with
  | (s, .entered) => s
  | (s, .waiting) => s
  | (s, .ended reason) => s.onMg fun g => { g with phase := .hold, chainEnd := some reason }

/-- R28: an overrun begins before the commit, at the acceleration in force: after the surplus of a boundary that is the
entered segment's (log entry 36). -/
def Mg.beginOverrun (g : Mg) : Mg :=
  let b : Int := brakingDistance g.accel 0 g.v
  { g with
    overrun := some ⟨g.q + dirSign (g.motion.elim true Motion.forward) * g.r, !g.finalStop⟩
    l := g.d + b, r := b, w := 0 }

/-- R58 (log entry 17): entry k is entered from the look-ahead copy. Where a write has left the entry without a
copy since the look-ahead, the entry is STALE with the look-ahead copy, and a fetch of it is not needed. -/
def keepLookAhead (k : Fin 32) (seg : Segment) (s : State) : State :=
  if (entryOf k s).copy.isSome then s
  else
    let s := s.onSc fun c => { c with fetchList := c.fetchList.filter (· ≠ k) }
    setEntry k (.stale seg) (if segInFlight k s then setFetchMark .discard s else s)

/-- R26, R28, R65, R68: the boundary ahead is passed by the c counts of this expiry, before they are committed; the
next segment is entered from the look-ahead copy, and passed too while the surplus covers it. A surplus that
reaches beyond a segment whose w is 0 begins an overrun. -/
def passBoundary : Nat → Nat → State → State
  | 0, _, s => s
  | n + 1, c, s =>
    match s.mg.lookAhead with
    | none => s
    | some (k, seg) =>
      let s := reportEmpty k seg (visitLimit seg (countVisit k seg (keepLookAhead k seg s)))
      let s := giveSegment seg s.mg.r c s
      if (c : Int) < s.mg.r then s
      else if 0 < s.mg.w then passBoundary n c s
      else s.onMg Mg.beginOverrun

end Sys2Proof.Machine
end

