-- ==== Sys2Proof/Machine/Loops.lean ====
section
/-! DEFINITION. The computations of the capstan loop and the reel loops (chapter 3). -/

namespace Sys2Proof.Machine

/-- R41, R47: the saturation record of an unclamped sum. -/
def satOf (sum : Int) : Sat :=
  if Config.driveMax < sum then .positive else if sum < -Config.driveMax then .negative else .none

/-- R41, R47: a sum clamped to a drive command. -/
def driveOf (sum : Int) : Int := clampI (-Config.driveMax) Config.driveMax sum

/-- R40, R45: the integrator with the error added, unless the error has the sign of the saturation record. -/
def integrate (bound : Int) (sat : Sat) (acc err : Int) : Int :=
  if (sat = .positive ∧ 0 < err) ∨ (sat = .negative ∧ err < 0) then acc else clampI (-bound) bound (acc + err)

/-- R41: the capstan loop's sum from its updated integrator. -/
def capstanSum (p : Params) (vt ev ic : Int) : Int :=
  quot (vt * p.kcf) 4 + quot (ev * p.kcp) 2 + quot (ic * p.kci) 64

/-- R40, R41: one computation of the capstan loop. -/
def computeCapstan (s : State) : State :=
  if s.cl.run then
    let ev := s.mg.vt - s.mu.m
    let ic := integrate Config.capIntMax s.cl.sat s.cl.ic ev
    let sum := capstanSum s.mc.params s.mg.vt ev ic
    s.onCl fun c => { c with dc := driveOf sum, ic := ic, sat := satOf sum }
  else s

/-- R46: the sum of reel x's four terms from its updated integrator, with V and Δ as held and the circumference. -/
def reelSum (x : Reel) (g : ReelGains) (v delta e a : Int) (c : Nat) : Int :=
  quot (sigma x * v * g.kff * 64) c + sigma x * delta * g.ka + quot (e * g.kp) 8 + quot (a * g.ki) 1024

/-- R45 to R47: one computation of reel x in LOOP on this sample. -/
def computeReel (x : Reel) (n : Nat) (s : State) : State :=
  let l := s.rl.get x
  let e : Int := n - s.mc.params.setpoint.get x
  let a := integrate Config.reelIntMax l.sat l.a e
  let sum := reelSum x (s.mc.params.gains.get x) s.mg.vt s.mg.delta e a (circOf x s)
  s.onRl x fun l => { l with d := driveOf sum, a := a, sat := satOf sum }

/-- R44, R50: reel x takes a presentation of this sample. In FILL inside the ready band it leaves FILL for LOOP
and computes on the same presentation. -/
def presentReel (x : Reel) (n : Nat) (s : State) : State :=
  match (s.rl.get x).mode with
  | .off => s
  | .wind => s
  | .loop => computeReel x n s
  | .fill =>
    if bandHolds x n s then
      computeReel x n (s.onRl x fun l => { l with mode := .loop, band := true, a := 0, sat := .none })
    else s.onRl x fun l => { l with d := -(s.mc.params.fillDrive : Int) }

/-- R44: both reel loops take a presentation of this pair. The estimator of a reel that has left FILL starts
(R15). -/
def presentPair (p : PerReel (BitVec 10)) (s : State) : State :=
  presentReel .t p.t.toNat (presentReel .s p.s.toNat s)

/-- R48: reel x at a miss that leaves the miss count at 3 or more. -/
def starveReel (x : Reel) (s : State) : State :=
  match (s.rl.get x).mode with
  | .loop => s.onRl x fun l => { l with d := 0, sat := .none }
  | .fill => s.onRl x fun l => { l with d := 0 }
  | .off => s
  | .wind => s

end Sys2Proof.Machine
end

