-- ==== Sys2Proof/Machine/Faults.lean ====
section
/-! DEFINITION. The Fault Monitor: taking a fault, the halt and the brake, and the conditions it evaluates
(chapter 6). -/

namespace Sys2Proof.Machine

/-- R112: the detail value of a COLUMN LIMIT report. -/
def limitValue (x : Reel) (s : State) : Int :=
  match sample x s with
  | some n => n
  | none => -1

/-- R115: a fault whose brake also turns VACUUM PUMP off. -/
def FaultKind.dropsVacuum : FaultKind → Bool
  | .vacuumLoss | .tapeBreak => true
  | .columnLimit _ _ | .reelStall _ | .sampleLoss | .capstanRunaway | .doorOpen | .positionRange => false

/-- R113: the halt. The state becomes HALTING with the outputs kept, a chain ends, WRITE ENABLE drops, the
generator is handed a halt request. -/
def haltResponse (s : State) : State :=
  let s := dropWriteEnable (endChain (enterKeeping .halting s))
  (s.onFm fun f => { f with haltWait := none }).onMg fun g => { g with pendHalt := true }

/-- R115: the brake. -/
def brakeResponse (k : FaultKind) (s : State) : State :=
  let s := brakeGenerator s
  let s := enter .fault true (s.tsq.vacuum && !k.dropsVacuum) s
  dropWriteEnable (endChain (s.onFm fun f => { f with haltWait := none }))

/-- R115: the vacuum effect of a BRAKE-class fault taken with BRAKE already on. -/
def vacuumEffect (k : FaultKind) (s : State) : State :=
  if k.dropsVacuum && s.tsq.vacuum then enter s.tsq.state s.tsq.brake false s else s

/-- R112: a new later cause is recorded. -/
def recordLater (k : FaultKind) (s : State) : State :=
  s.onFm fun f =>
    if f.later.length < Config.laterMax then { f with later := f.later ++ [k] }
    else { f with further := satInc Config.countMax f.further }

/-- R112, R115, R116: a fault taken while the record is not empty. -/
def laterFault (k : FaultKind) (value : Int) (s : State) : State :=
  if k ∈ causes s then
    if k.brakeClass then (if s.tsq.brake then vacuumEffect k s else brakeResponse k s) else s
  else
    let seq := handSeq s
    let s := recordLater k s
    let s :=
      if k.brakeClass then
        if s.tsq.state = .halting ∨ ¬ s.tsq.brake then brakeResponse k s else vacuumEffect k s
      else s
    finishOrder .haltedByFault 0 (generate .fault k.number value seq s)

/-- R105: the limits of reel x are looked at when their attendance begins outside LOADING FILL, where the record
is not empty. The upper limit comes before the lower: the model's choice (log entry 11). -/
def attendLimitsLater (x : Reel) (s : State) : State :=
  let look (upper : Bool) (s : State) : State :=
    if attended (.columnLimit x upper) s && level (.limit x upper) s then
      laterFault (.columnLimit x upper) (limitValue x s) s
    else s
  look false (look true s)

/-- R104, R112: a fault is taken, if it is attended. The FAULT report follows the response, and the ORDER DONE of
the order in hand follows the FAULT report (R102). A reel still in FILL when the state leaves LOADING FILL with
VACUUM PUMP on comes under watch, and its active limits are taken here (R105). R105 does not order them among other
limits: that reel S comes before reel T, and both before a limit the caller has still to look at (reel T's before S
lower, where the halt of S upper leaves LOADING FILL), is the model's choice (log entry 11). -/
def takeFault (k : FaultKind) (value : Int) (s : State) : State :=
  if attended k s then
    match s.fm.first with
    | some _ => laterFault k value s
    | none =>
      let seq := handSeq s
      let wasFill := s.tsq.state == .loadingFill
      let watchS := wasFill && !s.rl.s.band
      let watchT := wasFill && !s.rl.t.band
      let s := s.onFm fun f => { f with first := some k }
      let s := if k.brakeClass then brakeResponse k s else haltResponse s
      let s := finishOrder .haltedByFault 0 (generate .fault k.number value seq s)
      let s := if watchS then attendLimitsLater .s s else s
      if watchT then attendLimitsLater .t s else s
  else s

/-- R105: a COLUMN LIMIT condition arises: the limit is taken when its level reads active and it is attended. -/
def limitCondition (x : Reel) (upper : Bool) (s : State) : State :=
  if level (.limit x upper) s then takeFault (.columnLimit x upper) (limitValue x s) s else s

/-- R105: attendance of reel x's limits begins in LOADING FILL. The upper limit comes before the lower: the model's
choice (log entry 11). -/
def attendLimits (x : Reel) (s : State) : State := limitCondition x false (limitCondition x true s)

/-- R108: the door condition is evaluated; DOOR OPEN is taken when it becomes true. -/
def evaluateDoor (s : State) : State :=
  let now := doorOpenMoving s
  let before := s.fm.doorCond
  let s := s.onFm fun f => { f with doorCond := now }
  if now && !before then takeFault .doorOpen s.mu.m s else s

/-- R118, R96, R99: the fault record becomes empty, with the halt wait, the runaway run and the door condition
(R119). -/
def clearRecord (s : State) : State :=
  s.onFm fun f => { f with
    first := none, later := [], further := 0, haltWait := none, runaway := 0, doorCond := false }

end Sys2Proof.Machine
end

