-- ==== Sys2Proof/Machine/Motion.lean ====
section
/-! DEFINITION. The motion generator: starting a motion, the requests, the choice of speed, boundaries, settling,
the ramp (chapter 2). -/

namespace Sys2Proof.Machine

/-- What the generator hands on at an end (R35). -/
inductive MotionEnd where
  | settleStarted
  | atRest (clamped : Bool)
  | stoppedAtRest
  | settled (clamped : Bool)
  | unsettled (pe : Int)
  | stopped
  | chainEnded (reason : ChainReason)
  | rampDone
deriving DecidableEq, Repr

/-! ## Starting a motion (R21) -/

/-- R21: what an accepted start sets up, in phase RUN, for a stretch of this distance. -/
def Mg.begin (g : Mg) (m : Motion) (distance : Int) (p : Int) : Mg :=
  { Mg.reset with
    phase := .run, vt := g.vt, delta := g.delta, motion := some m, l := distance, r := distance, q := p,
    accel := m.accel, finalStop := true }

/-- R21: a SPACE, SEARCH or FAST motion is started; a start taken outside IDLE is ignored. -/
def startMotion (m : Motion) (distance : Int) (s : State) : State :=
  if s.mg.phase = .idle then s.onMg fun g => g.begin m distance s.mu.p else s

/-- R21, R64: a CHAIN motion is started at segment k. -/
def startChainMotion (k : Fin 32) (seq : Byte) (approachReports : Bool) (s : State) : State :=
  if s.mg.phase = .idle then
    let m : Motion := ⟨.chain, true, 0, 0, true⟩
    startChain k seq approachReports
      (s.onMg fun g => { g.begin m 0 s.mu.p with finalStop := false })
  else s

/-! ## Requests (R29 to R31, R33) -/

/-- R33: the speed in hand with which the ramp begins: the creep value's magnitude from SETTLE, 0 from HOLD and
IDLE. -/
def Mg.rampSpeed (g : Mg) : Nat :=
  match g.phase with
  | .run => g.v
  | .settle _ => g.vt.natAbs
  | .hold => 0
  | .idle => 0
  | .ramp => g.v

/-- R33: the ramp goes along the motion's direction, from SETTLE along the sign of the creep value. -/
def Mg.rampForward (g : Mg) (m : Motion) : Bool :=
  match g.phase with
  | .settle _ => decide (0 ≤ g.vt)
  | .run => m.forward
  | .hold => m.forward
  | .idle => m.forward
  | .ramp => m.forward

/-- R33: the speed whose stopping distance L allows: |v_t|, and 0 from IDLE. -/
def Mg.rampReach (g : Mg) : Nat := if g.phase = .idle then 0 else g.vt.natAbs

/-- R33: the halt request is applied. -/
def applyHalt (s : State) : State :=
  if s.mg.phase = .ramp then s.onMg fun g => { g with pendHalt := false }
  else
    let a := s.mc.params.emergencyAccel
    s.onMg fun g =>
      { g.toIdle with
        phase := .ramp
        motion := g.motion.map fun m => { m with forward := g.rampForward m }
        v := g.rampSpeed
        accel := a
        d := g.d
        q := g.q
        l := g.d + brakingDistance a 0 g.rampReach
        reduction := g.reduction }

/-- R29 in RUN: braking at acceleration a from the speed in hand, with no further segment. -/
def Mg.stopAt (g : Mg) (a : Nat) (emergency : Bool) : Mg :=
  let b : Int := brakingDistance a 0 g.v
  { g with
    accel := a, emergency := emergency, l := g.d + b, r := b, w := 0, stopped := true, finalStop := true,
    lookAhead := none, motion := g.motion.map fun m => { m with settles := false } }

/-- R29: one stop request is applied. -/
def applyStop (kind : StopKind) (s : State) : State × Option MotionEnd :=
  match s.mg.phase with
  | .run =>
    match kind with
    | .controlled =>
      if s.mg.stopped then (s, none) else (s.onMg fun g => g.stopAt g.accel false, none)
    | .emergency =>
      if s.mg.emergency then (s, none)
      else (s.onMg fun g => g.stopAt s.mc.params.emergencyAccel true, none)
  | .hold => (s.onMg Mg.toIdle, some .stoppedAtRest)
  | .settle _ => (s.onMg Mg.toIdle, some .stopped)
  | .idle => (s, none)
  | .ramp => (s, none)

/-- R29: the held stop requests are applied in the order taken; after an end the generator is IDLE and the rest
are discarded. -/
def applyStops : List StopKind → State → State × Option MotionEnd
  | [], s => (s, none)
  | k :: ks, s =>
    match applyStop k s with
    | (s, some e) => (s, some e)
    | (s, none) => applyStops ks s

/-- R30: a held mark stop is applied in RUN, and discarded in any other phase. -/
def applyMarkStop (s : State) : State :=
  if s.mg.pendMarkStop then
    s.onMg fun g =>
      if g.phase = .run then
        let b : Int := brakingDistance (g.motion.elim g.accel Motion.accel) 0 g.v
        { g with pendMarkStop := false, l := g.d + b, r := b, w := 0 }
      else { g with pendMarkStop := false }
  else s

/-- R31: a held re-aim is applied in RUN, unless a stop is applied at this expiry or the stopped mark is set. -/
def applyReaim (stopApplied : Bool) (s : State) : State :=
  match s.mg.pendReaim with
  | none => s
  | some e =>
    s.onMg fun g =>
      let g := { g with pendReaim := none }
      if g.phase = .run ∧ ¬ stopApplied ∧ ¬ g.stopped then
        let b : Int := brakingDistance g.accel 0 g.v
        let aim := dirSign (g.motion.elim true Motion.forward) * (e - s.mu.p)
        let r := max aim b
        { g with
          q := s.mu.p, r := r, l := g.d + r, w := 0, aim := some e, overrun := none
          motion := g.motion.map fun m => { m with settles := true } }
      else g

/-- The held requests are applied before the choice (R22, R29 to R31, R33). -/
def applyRequests (s : State) : State × Option MotionEnd :=
  if s.mg.pendHalt then (applyHalt s, none)
  else
    let stops := s.mg.pendStops
    let s := applyMarkStop s
    match applyStops stops (s.onMg fun g => { g with pendStops := [] }) with
    | (s, some e) => (s, some e)
    | (s, none) => (applyReaim (!stops.isEmpty) s, none)

/-! ## Speed reduction (R37) -/

/-- R37: the saturation run reaches 40 at this expiry. -/
def reductionDue (s : State) : Bool :=
  s.tsq.state == .moving && s.mg.phase == .run && (satFlag .s s || satFlag .t s)
    && decide (Config.satRunLimit ≤ s.mg.satRun + 1)

/-- R37: the SPEED REDUCED detail code: 1 REEL S, 2 REEL T, 3 BOTH REELS. -/
def reducedCode (s : State) : Nat := flagBit (satFlag .s s) + 2 * flagBit (satFlag .t s)

/-- R37: the new reduction ceiling. -/
def halved (s : State) : Nat :=
  match s.mg.reduction with
  | none => max 1 (effCeiling (s.mg.motion.elim 0 Motion.ceiling) s / 2)
  | some c => max 1 (c / 2)

/-- R37: the saturation run and the halving of the reduction ceiling. -/
def reduceSpeed (s : State) : State :=
  if reductionDue s then
    let c := halved s
    generate .speedReduced (reducedCode s) c (handSeq s)
      (s.onMg fun g => { g with reduction := some c, satRun := 0 })
  else if s.tsq.state = .moving then
    if s.mg.phase = .run then
      s.onMg fun g => { g with satRun := if satFlag .s s || satFlag .t s then g.satRun + 1 else 0 }
    else s
  else s.onMg fun g => { g with satRun := 0 }

/-! ## The end-of-tape clamp (R32) -/

/-- R32: the clamp's limit point X while it is in force. -/
def clampPoint (s : State) : Option Int :=
  match s.mu.eot with
  | none => none
  | some c =>
    if c.forward ∧ s.mg.phase = .run ∧ s.mg.motion.elim false Motion.forward then
      some (c.pos + s.mc.params.eotOverrun)
    else none

/-- R32: the clamp is applied. -/
def applyClamp (s : State) : State :=
  match clampPoint s with
  | none => s
  | some x =>
    s.onMg fun g =>
      let g := { g with w := 0, lookAhead := none }
      let k := x - g.q
      let b : Int := brakingDistance (g.motion.elim g.accel Motion.accel) 0 g.v
      if g.r ≤ k then g
      else if b ≤ k ∧ 0 ≤ k then
        { g with r := k, l := g.d + k, finalStop := true, clamped := true, aim := some x }
      else
        let b' : Int := brakingDistance g.accel 0 g.v
        { g with
          r := b', l := g.d + b', finalStop := true, clamped := true, overrun := some ⟨x, false⟩ }

/-! ## Rest, settling and the next segment (R27, R35, R36) -/

/-- R36: the generator enters SETTLE with this target. -/
def beginSettle (target : Int) (boundary : Bool) (s : State) : State :=
  s.onMg fun g => { g with
    phase := .settle boundary, settle := ⟨target, 0, 0⟩, overrun := none, v := 0, lookAhead := none }

/-- R27, R67: at a rest within a chain the walker is asked for the next segment. -/
def nextSegment (s : State) : State × Option MotionEnd :=
  match s.wk.current with
  | none => (s.onMg Mg.toIdle, some (.atRest s.mg.clamped))
  | some (_, seg) =>
    match enterAtRest entryRounds seg.next s with
    | (s, .entered) => (s, none)
    | (s, .waiting) => (s, none)
    | (s, .ended reason) => (s.onMg Mg.toIdle, some (.chainEnded reason))

/-- R27, R28, R35: the period of rest that ends a stretch. -/
def restEnd (s : State) : State × Option MotionEnd :=
  if s.mg.stopped then (s.onMg Mg.toIdle, some .stoppedAtRest)
  else match s.mg.overrun with
    | some o => (beginSettle o.point o.boundary s, if o.boundary then none else some .settleStarted)
    | none =>
      if s.mg.finalStop then
        if s.mg.motion.elim false Motion.settles then
          (beginSettle (s.mg.aim.getD s.mg.q) false s, some .settleStarted)
        else (s.onMg Mg.toIdle, some (.atRest s.mg.clamped))
      else nextSegment s

/-! ## The choice of speed (R22, R26, R28) -/

/-- The largest number of lo..lo + n that passes a test. -/
def largest (ok : Nat → Bool) (lo : Nat) : Nat → Option Nat
  | 0 => if ok lo then some lo else none
  | n + 1 => if ok (lo + (n + 1)) then some (lo + (n + 1)) else largest ok lo n

/-- R22, steps 1 to 3: the speed the fit rule chooses from speed v with acceleration a, ceiling top, end speed w
and remaining distance r. Where the ceiling has been cut below v - a, the one candidate is v - a (log entry
12). -/
def fitSpeed (v a top w : Nat) (r : Int) : Option Nat :=
  let lo := v - a
  let hi := min (v + a) top
  largest (fun c => decide ((c + brakingDistance a w c : Int) ≤ r)) lo (hi - lo)

/-- R22: the chosen speed is committed. -/
def Mg.commit (g : Mg) (c : Nat) : Mg :=
  { g with
    d := g.d + c, r := g.r - c, q := g.q + dirSign (g.motion.elim true Motion.forward) * c, v := c }

/-- R71: the walker sees the commit. Counts after a stop do not change g. -/
def walkerCommit (c : Nat) (s : State) : State :=
  if s.wk.active ∧ ¬ s.mg.stopped then testApproach (s.onWk fun w => { w with g := w.g - c }) else s

/-- R25: the end speed is lowered to the effective ceiling. -/
def Mg.lowerEndSpeed (g : Mg) (top : Nat) : Mg := { g with w := min g.w top }

/-- R22, R23: the effective ceiling of this choice. -/
def ceilingNow (s : State) : Nat := effCeiling (s.mg.motion.elim 0 Motion.ceiling) s

/-- R22: the choice, from the state that the requests and the clamp leave: the chosen speed, and the state with the
end speed lowered to the ceiling (R25) and, where nothing fits with w = 0, the overrun begun (R28). -/
def chooseSpeed (s : State) : Nat × State :=
  let top := ceilingNow s
  let s := s.onMg fun g => g.lowerEndSpeed top
  match fitSpeed s.mg.v s.mg.accel top s.mg.w s.mg.r with
  | some c => (c, s)
  | none => (s.mg.v - s.mg.accel, if s.mg.w = 0 then s.onMg Mg.beginOverrun else s)

/-- R26, R28: the counts that an expiry which passes a boundary commits: the chosen ones, or lo where the surplus
began an overrun. -/
def passCount (c : Nat) (g : Mg) : Nat := if g.overrun.isSome then g.v - g.accel else c

/-- R26, R28: the boundary ahead is passed by the chosen speed c, and the counts are committed. -/
def runPast (c : Nat) (s : State) : Nat × State :=
  let s := passBoundary entryRounds c (walkerCommit c s)
  let n := passCount c s.mg
  (n, s.onMg fun g => g.commit n)

/-- R22: the chosen speed is committed within the stretch. -/
def runOn (c : Nat) (s : State) : State := walkerCommit c (s.onMg fun g => g.commit c)

/-- R27, R28: with c counts committed, a stretch of w = 0 that has none left is at rest, be it one that this expiry has
begun: an overrun from a speed that one period takes to 0. -/
def restAfter (c : Nat) (s : State) : State × Option MotionEnd :=
  if s.mg.w = 0 ∧ c = 0 ∧ s.mg.r ≤ 0 then restEnd s else (s, none)

/-- One expiry in RUN (R22, R26 to R28). -/
def runStep (s : State) : State × Option MotionEnd :=
  let s := applyClamp s
  let dir := dirSign (s.mg.motion.elim true Motion.forward)
  let (c, s) := chooseSpeed s
  let (n, s) := if 0 < s.mg.w ∧ s.mg.r ≤ c then runPast c s else (c, runOn c s)
  let (s, e) := restAfter n s
  (handOnSpeed (dir * n) s, e)

/-- R27, R67: the entry of an awaited segment, where it is usable. -/
def enterAwaited (s : State) : State × Option MotionEnd :=
  match s.wk.awaited with
  | none => (s, none)
  | some k =>
    if (entryOf k s).copy.isSome then
      match enterAtRest entryRounds k s with
      | (s, .entered) => (s, none)
      | (s, .waiting) => (s, none)
      | (s, .ended reason) => (s.onMg Mg.toIdle, some (.chainEnded reason))
    else (s, none)

/-- R64, R67: in HOLD a chain end that the walker has reported is taken first. -/
def holdTake (s : State) : State × Option MotionEnd :=
  match s.mg.chainEnd with
  | some reason => (s.onMg Mg.toIdle, some (.chainEnded reason))
  | none => enterAwaited s

/-- One expiry in HOLD (R27, R67). -/
def holdStep (s : State) : State × Option MotionEnd :=
  let (s, e) := holdTake s
  (handOnSpeed 0 s, e)

/-! ## Settling and the ramp (R36, R33) -/

/-- R36, steps 1 to 4: the counts, the error and the creep value of one expiry in SETTLE. -/
structure SettleStep where
  elapsed : Nat
  inWindow : Nat
  pe : Int
  vt : Int
deriving DecidableEq, Repr

def settleValues (s : State) : SettleStep :=
  let pe := s.mg.settle.target - s.mu.p
  let inside := decide (pe.natAbs ≤ s.mc.params.settleWindow)
  let u := if inside then 0 else signI pe * (min s.mc.params.creep pe.natAbs : Nat)
  let a : Int := (max (s.mg.motion.elim 0 Motion.accel) s.mc.params.creep : Nat)
  { elapsed := s.mg.settle.elapsed + 1
    inWindow := if inside then s.mg.settle.inWindow + 1 else 0
    pe := pe
    vt := s.mg.prevVt + clampI (-a) a (u - s.mg.prevVt) }

/-- R36, step 5: the settle completes at this expiry. -/
def settleCompletes (s : State) : Bool := decide (s.mc.params.settleCount ≤ (settleValues s).inWindow)

/-- R36, step 6: the settle times out at this expiry. -/
def settleTimesOut (s : State) : Bool :=
  !settleCompletes s && decide (s.mc.params.settleTimeout ≤ (settleValues s).elapsed)

/-- One expiry in SETTLE (R36). A BOUNDARY settle completes as if the period of rest had been taken at the boundary
(R28), so the commanded position stands there (log entry 31). -/
def settleStep (boundary : Bool) (s : State) : State × Option MotionEnd :=
  let x := settleValues s
  let (s', e) :=
    if settleCompletes s then
      if boundary then nextSegment (s.onMg fun g => { g with q := g.settle.target })
      else (s.onMg Mg.toIdle, some (MotionEnd.settled s.mg.clamped))
    else if settleTimesOut s then (s.onMg Mg.toIdle, some (MotionEnd.unsettled x.pe))
    else (s.onMg fun g => { g with settle := ⟨g.settle.target, x.inWindow, x.elapsed⟩ }, none)
  (handOnSpeed x.vt s', e)

/-- One expiry in RAMP (R33). -/
def rampStep (s : State) : State × Option MotionEnd :=
  let c := s.mg.v - s.mg.accel
  let dir := dirSign (s.mg.motion.elim true Motion.forward)
  let s := s.onMg fun g => { g with d := g.d + c, q := g.q + dir * c, v := c }
  if c = 0 then (handOnSpeed 0 (s.onMg Mg.toIdle), some .rampDone)
  else (handOnSpeed (dir * c) s, none)

/-! ## One period expiry of the generator (R20) -/

/-- The generator's step once its requests have been applied. -/
def phaseStep (s : State) : State × Option MotionEnd :=
  match s.mg.phase with
  | .idle => (handOnSpeed 0 s, none)
  | .hold => holdStep s
  | .run => runStep s
  | .settle b => settleStep b s
  | .ramp => rampStep s

/-- R20: the generator at a period expiry: the requests, the speed reduction, then the step of its phase. -/
def generatorStep (s : State) : State × Option MotionEnd :=
  match applyRequests s with
  | (s, some e) => (handOnSpeed 0 (reduceSpeed s), some e)
  | (s, none) => phaseStep (reduceSpeed s)

end Sys2Proof.Machine
end

