-- ==== Sys2Proof/Machine/Measure.lean ====
section
/-! DEFINITION. The Measurement Unit: tachometer counts, the period's update, mark crossings, the settings of P,
the circumference estimators, pair arrivals and misses (chapter 1). -/

namespace Sys2Proof.Machine

/-! ## Tachometers (R2, R4) -/

/-- The levels after one phase has changed. -/
def flipPhase (ph : Phase) (r : Phases) : Phases :=
  match ph with
  | .a => { r with a := !r.a }
  | .b => { r with b := !r.b }

/-- Both phases change together: the new pair of levels. -/
def flipBoth (r : Phases) : Phases := ⟨!r.a, !r.b⟩

/-- R2: whether the change of one phase from these levels is a forward count: A to a level that differs from B, or
B to a level equal to A. -/
def countForward (ph : Phase) (r : Phases) : Bool :=
  match ph with
  | .a => !r.a != r.b
  | .b => !r.b == r.a

/-- Counts are taken: not while RESET is asserted (R181; log entry 22). -/
def countsTaken (s : State) : Bool := !s.mc.resetAsserted

/-- R13: a capstan count joins the capstan sum of an enabled estimator. -/
def Estimator.addCapstan (e : Estimator) (enabled : Bool) (n : Int) : Estimator :=
  if enabled then { e with sum := clampI (-Config.sumMax) Config.sumMax (e.sum + n) } else e

/-- R2: one change of a capstan phase. -/
def capstanCount (ph : Phase) (s : State) : State :=
  let n := dirSign (countForward ph s.mu.capRef)
  s.onMu fun u =>
    if countsTaken s then
      { u with
        capRef := flipPhase ph u.capRef
        accum := u.accum + n
        est := ⟨u.est.s.addCapstan (estEnabled .s s) n, u.est.t.addCapstan (estEnabled .t s) n⟩ }
    else { u with capRef := flipPhase ph u.capRef }

/-- R14: the estimate after a window completes with value M. -/
def filterEstimate (old : Option Nat) (m : Nat) : Nat :=
  match old with
  | none => m
  | some c => (3 * c + m + 2) / 4

/-- R13: the value M of a window that completes with this capstan sum. -/
def windowValue (sum : Int) : Nat := clampN Config.circMin Config.circMax sum.natAbs

/-- R13, R14: a reel count enters the reel's estimator. -/
def Estimator.addReel (e : Estimator) (winding : Bool) : Estimator :=
  if e.tally = 0 then { e with tally := 1, winding := winding }
  else if e.winding = winding then
    if e.tally + 1 = Config.windowCounts then
      { e with tally := 0, sum := 0, circ := some (filterEstimate e.circ (windowValue e.sum)) }
    else { e with tally := e.tally + 1 }
  else { e with tally := 1, winding := winding, sum := 0 }

/-- R4, R5: one change of a phase of reel x's tachometer. A forward count is one in the winding sense. -/
def reelCount (x : Reel) (ph : Phase) (s : State) : State :=
  let winding := countForward ph (s.mu.reelRef.get x)
  s.onMu fun u =>
    let u := { u with reelRef := u.reelRef.set x (flipPhase ph (u.reelRef.get x)) }
    if countsTaken s then
      { u with
        silence := u.silence.set x 0
        est := if estEnabled x s then u.est.set x ((u.est.get x).addReel winding) else u.est }
    else u

/-- R13: this reel count completes the window. -/
def windowCompletes (x : Reel) (ph : Phase) (s : State) : Bool :=
  let e := s.mu.est.get x
  countsTaken s && estEnabled x s && decide (e.tally ≠ 0) && decide (e.tally + 1 = Config.windowCounts)
    && (e.winding == countForward ph (s.mu.reelRef.get x))

/-- R2, R4: both phases of a tachometer change together: no count, and the new levels are the reference. -/
def bothChange (t : Tach) (s : State) : State :=
  s.onMu fun u =>
    match t with
    | .capstan => { u with capRef := flipBoth u.capRef }
    | .reel x => { u with reelRef := u.reelRef.set x (flipBoth (u.reelRef.get x)) }

/-! ## Notices and crossings (R8, R9) -/

/-- R8: a mark notice is held; a fifth one replaces the youngest held. -/
def addNotice (mark : Mark) (s : State) : State :=
  s.onMu fun u =>
    let n : Notice := ⟨mark, u.p + u.accum⟩
    { u with notices := u.notices.take (Config.noticeMax - 1) ++ [n] }

/-- R9: the crossing a notice resolves into, with the m and the last direction of this expiry. -/
def resolve (m : Int) (lastForward : Bool) (n : Notice) : Crossing :=
  ⟨n.mark, if m = 0 then lastForward else decide (0 < m), n.pos⟩

/-- R9: the EOT crossing record after these crossings. -/
def eotAfter (old : Option Crossing) (cs : List Crossing) : Option Crossing :=
  cs.foldl (fun r c => if c.mark = .eot then some c else r) old

/-! ## The settings of P (R7, R11) -/

/-- P within its bounds (R6). -/
def clampPos (x : Int) : Int := clampI Config.posMin Config.posMax x

/-- R6: P takes a value equal to a bound that the value before was not equal to. -/
def newlyAtBound (before now : Int) : Bool :=
  decide ((now = Config.posMin ∨ now = Config.posMax) ∧ before ≠ now)

/-- R7: P is set to 0 and the EOT crossing record is emptied. -/
def zeroPosition (s : State) : State := s.onMu fun u => { u with p := 0, eot := none }

/-- R11: the rebase from a BOT forward crossing at this position. -/
def rebase (pos : Int) (s : State) : State :=
  let before := s.mu.p
  let now := clampPos (before - pos - s.mc.params.loadOffset)
  let s := (s.onMu fun u => { u with p := now, eot := none }).onTsq fun t => { t with referenced := true }
  if newlyAtBound before now then takeFault .positionRange now s else s

/-! ## The period's update (R1, R3, R5, R6, R9, R16) -/

/-- What one expiry hands on: whether P came newly to a bound, and the crossings it resolved. -/
structure Measured where
  atBound : Bool
  crossings : List Crossing
deriving DecidableEq, Repr

/-- R3: m of the expiry. -/
def speedOf (accum : Int) : Int := clampI (-Config.speedMax) Config.speedMax accum

/-- R3: the last direction after an expiry with this m. -/
def directionAfter (m : Int) (lastForward : Bool) : Bool := if m = 0 then lastForward else decide (0 < m)

/-- The measurements of one expiry. -/
def measured (u : Mu) : Measured where
  atBound := newlyAtBound u.p (clampPos (u.p + speedOf u.accum))
  crossings :=
    u.notices.map (resolve (speedOf u.accum) (directionAfter (speedOf u.accum) u.lastForward))

/-- R1, R3, R5, R6, R9, R16: the Measurement Unit's update at an expiry. The notices have been resolved into the
crossings of `measured`, which a later stage takes (R32; log entry 8). -/
def Mu.atExpiry (u : Mu) : Mu :=
  { u with
    periodCount := u.periodCount + 1
    accum := 0
    m := speedOf u.accum
    lastForward := directionAfter (speedOf u.accum) u.lastForward
    p := clampPos (u.p + speedOf u.accum)
    notices := []
    silence := ⟨satInc Config.timerMax u.silence.s, satInc Config.timerMax u.silence.t⟩
    convert := true }

/-! ## Pairs (R16 to R18) -/

/-- The bits of a frame as a number, first bit most significant. -/
def bitsNumber (l : List Bool) : Nat := l.foldl (fun n b => 2 * n + flagBit b) 0

/-- R16: the pair a frame carries: 21 bits with an even number of ones. -/
def framePair (l : List Bool) : Option (PerReel (BitVec 10)) :=
  if l.length = 21 ∧ (l.filter id).length % 2 = 0 then
    some ⟨BitVec.ofNat 10 (bitsNumber (l.take 10)), BitVec.ofNat 10 (bitsNumber ((l.drop 10).take 10))⟩
  else none

/-- R17: a pair arrival in the Measurement Unit. -/
def Mu.arrive (p : PerReel (BitVec 10)) (u : Mu) : Mu :=
  { u with pair := some p, arrival := true, missCount := 0, lossReported := false }

/-- R18: the expiry is a miss. -/
def missed (s : State) : Bool := !s.mu.arrival

/-- R18: SAMPLE LOSS is delivered at this expiry's miss. -/
def lossDelivered (s : State) : Bool :=
  missed s && decide (3 ≤ satInc Config.countMax s.mu.missCount) && s.tsq.vacuum && !s.mu.lossReported

end Sys2Proof.Machine
end

