-- ==== Sys2Proof/Machine/Sequencer.lean ====
section
/-! DEFINITION. The Transport Sequencer: legs, crossings, the ends of motions, FILL and WIND-OFF, the take of each
order, and the stop word's action (chapter 5). -/

namespace Sys2Proof.Machine

/-! ## Legs (section 5.6) -/

/-- A leg starts: the crossing-seen flag is cleared (R86). -/
def setLeg (leg : Leg) (s : State) : State :=
  s.onTsq fun t => { t with inHand := t.inHand.map fun h => { h with leg := leg, crossingSeen := false } }

/-- R86: the crossing-seen flag is set. -/
def setCrossingSeen (s : State) : State :=
  s.onTsq fun t => { t with inHand := t.inHand.map fun h => { h with crossingSeen := true } }

/-- R89, R93: a SEARCH leg in this direction. -/
def startSearch (forward : Bool) (s : State) : State :=
  let p := s.mc.params
  startMotion ⟨.search, forward, p.accel, p.searchSpeed, false⟩ p.searchLimit
    (setLeg (if forward then .searchForward else .searchReverse) s)

/-- R92: the distance of the FAST leg, P + BOT margin. -/
def fastDistance (s : State) : Int := s.mu.p + s.mc.params.botMargin

/-- R92: the FAST leg is run. -/
def fastRuns (s : State) : Bool := s.tsq.referenced && decide (0 < fastDistance s)

/-- R92: a FAST leg. -/
def startFast (s : State) : State :=
  let p := s.mc.params
  startMotion ⟨.fast, false, p.accel, p.rewindSpeed, false⟩ (fastDistance s) (setLeg .fast s)

/-! ## BOT crossings (R86) -/

/-- R86: what the sequencer does with a BOT crossing, by the leg in progress. -/
def botCrossing (forward : Bool) (pos : Int) (s : State) : State :=
  match s.tsq.inHand with
  | none => s
  | some h =>
    if h.stopping ∨ s.tsq.state = .settling then s
    else match h.leg with
      | .fast => if forward then s else setCrossingSeen s
      | .searchReverse =>
        if forward ∨ h.crossingSeen then s
        else (setCrossingSeen s).onMg fun g => { g with pendMarkStop := true }
      | .searchForward =>
        if !forward ∨ h.crossingSeen then s
        else (rebase pos (setCrossingSeen s)).onMg fun g => { g with pendReaim := some 0 }
      | .none => s
      | .space => s
      | .chain => s

/-- R10: a crossing is handed on, to the sequencer and then to the Report Unit. -/
def handOnCrossing (c : Crossing) (s : State) : State :=
  let s := if c.mark = .bot then botCrossing c.forward c.pos s else s
  generate .markCrossed c.number c.pos (handSeq s) s

/-- R9, R10: the crossings of an expiry are taken: the EOT crossing record first, then the hand-on of each in the
order of resolution (log entry 20). That the sequencer takes a BOT crossing, and R11's rebase with it, at the expiry
that resolves it and never after a later one is the model's choice (log entry 42). -/
def takeCrossings (cs : List Crossing) (s : State) : State :=
  cs.foldl (fun s c => handOnCrossing c s) (s.onMu fun u => { u with eot := eotAfter u.eot cs })

/-! ## Ends of phases (R89, R90, R95) -/

/-- R89: FILL ends when both columns are in band. -/
def fillTest (s : State) : State :=
  if s.tsq.state = .loadingFill ∧ inBand .s s ∧ inBand .t s then
    let s := zeroPosition s
    let s := enterKeeping .loadingSeek (s.onTsq fun t => { t with timerOn := false })
    startSearch (!(s.tsq.inHand.elim false fun h => h.fields.seekReverse)) s
  else s

/-- R44, R50, R89, R105: a presentation, taken by both loops before anything that follows from it. A reel that leaves
FILL then comes under the watch of its limits, and the end of FILL is tested last (log entry 11: the model's choice). -/
def present (p : PerReel (BitVec 10)) (s : State) : State :=
  let newly (x : Reel) (s' : State) : Bool :=
    s.tsq.state == .loadingFill && !(s.rl.get x).band && (s'.rl.get x).band
  let s1 := presentPair p s
  let s2 := if newly .s s1 then attendLimits .s s1 else s1
  let s3 := if newly .t s1 then attendLimits .t s2 else s2
  fillTest s3

/-- R17: a pair arrival. -/
def pairArrival (p : PerReel (BitVec 10)) (s : State) : State := present p (s.onMu (Mu.arrive p))

/-- R90, R95, R100: the transport goes to UNLOADED and the order in hand ends. -/
def endUnloaded (outcome : OrderOutcome) (s : State) : State := finishOrder outcome 0 (enter .unloaded true false s)

/-- R95: entry to WIND-OFF. The leg has ended. -/
def enterWindOff (s : State) : State :=
  let s := enter .unloadingWindOff s.tsq.brake false (setLeg .none s)
  let s := s.onTsq fun t => { t with referenced := false, timer := 0, timerOn := true }
  if level .tapeInPath s then s else endUnloaded .complete s

/-- R95: TAPE IN PATH has changed to absent. -/
def windOffTapeLoss (s : State) : State :=
  if s.tsq.state = .unloadingWindOff then endUnloaded .complete s else s

/-- R90: the load timeout is reached. -/
def loadTimesOut (s : State) : Bool :=
  s.tsq.state == .loadingFill && decide (s.mc.params.loadTimeout * Config.periodsPerSecond ≤ s.tsq.timer + 1)

/-- R95: the unload time is reached. -/
def unloadTimesOut (s : State) : Bool :=
  s.tsq.state == .unloadingWindOff
    && decide (s.mc.params.unloadTime * Config.periodsPerSecond ≤ s.tsq.timer + 1)

/-- R95: the outcome when the unload time is reached. -/
def unloadTimeOutcome (s : State) : OrderOutcome :=
  if (carrier .tapeInPath s).isSome then .unloadTimeout else .complete

/-- R90, R95: the phase timer at an expiry. -/
def phaseTimer (s : State) : State :=
  if s.tsq.state = .loadingFill ∨ s.tsq.state = .unloadingWindOff then
    if loadTimesOut s then endUnloaded .loadTimeout s
    else if unloadTimesOut s then endUnloaded (unloadTimeOutcome s) s
    else s.onTsq fun t => { t with timer := t.timer + 1 }
  else s

/-! ## Ends of motions (R83, R87, R101) -/

/-- R83, R87: the order in hand ends in READY. -/
def endReady (outcome : OrderOutcome) (pe : Int) (s : State) : State := finishOrder outcome pe (enterKeeping .ready s)

/-- The chain walker's marks handed on at a chain's end (R63). -/
structure ChainMarks where
  limit : Bool
  adjusted : Bool
deriving DecidableEq, Repr

def chainMarks (s : State) : ChainMarks := ⟨s.wk.chainLimit, s.wk.adjusted⟩

/-- R83: the outcome of a SPACE or a RUN CHAIN by the end handed on. -/
def moveOutcome (m : ChainMarks) : MotionEnd → OrderOutcome
  | .settled clamped => if clamped then .eotLimit else if m.limit then .chainLimit else .complete
  | .atRest clamped => if clamped then .eotLimit else if m.limit then .chainLimit else .complete
  | .unsettled _ => .unsettled
  | .stoppedAtRest => .stopped
  | .stopped => .stopped
  | .chainEnded .complete => if m.limit then .chainLimit else .complete
  | .chainEnded .chainLimit => .chainLimit
  | .chainEnded .segmentError => .segmentError
  | .chainEnded .segmentUnavailable => .segmentUnavailable
  | .settleStarted => .complete
  | .rampDone => .complete

/-- R87: the outcome of a SEARCH FORWARD leg by the end handed on; also of any end a leg's row does not list (log
entry 35). -/
def searchOutcome : MotionEnd → OrderOutcome
  | .settled clamped => if clamped then .eotLimit else .complete
  | .atRest clamped => if clamped then .eotLimit else .botNotFound
  | .unsettled _ => .unsettled
  | .stoppedAtRest => .stopped
  | .stopped => .stopped
  | .chainEnded _ => .complete
  | .settleStarted => .complete
  | .rampDone => .complete

/-- pe of an UNSETTLED end. -/
def MotionEnd.pe : MotionEnd → Int
  | .unsettled pe => pe
  | .settleStarted => 0
  | .atRest _ => 0
  | .stoppedAtRest => 0
  | .settled _ => 0
  | .stopped => 0
  | .chainEnded _ => 0
  | .rampDone => 0

/-- R92 to R94: what follows the FAST leg at rest. -/
def afterFast (h : InHand) (s : State) : State :=
  if h.code = .unload then
    if h.crossingSeen then enterWindOff s else startSearch false s
  else if h.crossingSeen then startSearch true (enterKeeping .rewindingReturn s)
  else startSearch false (enterKeeping .rewindingSearch s)

/-- R91, R93, R94: what follows a SEARCH REVERSE leg at rest. -/
def afterSearchReverse (h : InHand) (s : State) : State :=
  if !h.crossingSeen then endReady .botNotFound 0 s
  else if h.code = .unload then enterWindOff s
  else if h.code = .rewind then startSearch true (enterKeeping .rewindingReturn s)
  else startSearch true s

/-- R83, R87: an end of the order in hand's motion, with no stopping mark. -/
def legEnd (e : MotionEnd) (m : ChainMarks) (h : InHand) (s : State) : State :=
  match h.leg, e with
  | .fast, .atRest _ => afterFast h s
  | .searchReverse, .atRest _ => afterSearchReverse h s
  | .space, e => endReady ((moveOutcome m e).clampedIf (h.clamped || m.adjusted)) e.pe s
  | .chain, e => endReady ((moveOutcome m e).clampedIf (h.clamped || m.adjusted)) e.pe s
  | .fast, e => endReady (searchOutcome e) e.pe s
  | .searchReverse, e => endReady (searchOutcome e) e.pe s
  | .searchForward, e => endReady ((searchOutcome e).clampedIf h.clamped) e.pe s
  | .none, e => endReady (searchOutcome e) e.pe s

/-- R83, R84, R87, R101, R114: the sequencer takes an end the generator hands on. -/
def motionEnd (e : MotionEnd) (s : State) : State :=
  match e with
  | .rampDone => if s.tsq.state = .halting then s.onFm fun f => { f with haltWait := some 0 } else s
  | .settleStarted => if s.tsq.inHand.isSome then dropWriteEnable (enterKeeping .settling s) else s
  | e =>
    let m := chainMarks s
    let s := endChain s
    match s.tsq.inHand with
    | none => s
    | some h => if h.stopping then endReady .stopped 0 s else legEnd e m h s

/-- R35: what the generator handed on, if anything. -/
def motionEnds (e : Option MotionEnd) (s : State) : State :=
  match e with
  | none => s
  | some e => motionEnd e s

/-! ## Taking an order (R77 to R82, R88 to R99) -/

/-- R77, the table: the transport states in which an order code is accepted. -/
def Code.acceptedIn : Code → TState → Bool
  | .load, st => st == .unloaded
  | .unload, st => st == .ready || st == .fault
  | .rewind, st => st == .ready
  | .runChain, st => st == .ready
  | .space, st => st == .ready
  | .marker, st => st == .unloaded || st == .ready || st == .fault
  | .clearFault, st => st == .fault
  | .returnToSetup, st => st == .unloaded || st == .ready
  | .transportReset, st => st == .unloaded || st == .ready || st == .fault
  | .setReelGains, _ => false
  | .setCapstanGains, _ => false
  | .setColumns, _ => false
  | .setSpeeds, _ => false
  | .setLimits, _ => false
  | .setSenseLine, _ => false
  | .setReporting, _ => false
  | .setDefaultCircumference, _ => false
  | .enterRun, _ => false

/-- R75: the order is in hand, with its fields as R78 leaves them. -/
def takeInHand (r : Record) (fields : OrderFields) (clamped : Bool) (leg : Leg) (s : State) : State :=
  s.onTsq fun t => { t with
    inHand := some ⟨r.seq, r.code, fields, clamped, s.mu.p, leg, false, false⟩
    timer := 0, timerOn := false }

/-- R88: both circumference estimates become UNKNOWN. -/
def forgetCircumferences (s : State) : State :=
  s.onMu fun u => { u with est := ⟨{ u.est.s with circ := none }, { u.est.t with circ := none }⟩ }

/-- R12: the referenced flag becomes false. -/
def dropReferenced (s : State) : State := s.onTsq fun t => { t with referenced := false }

/-- R88: LOAD accepted by its state. -/
def takeLoad (r : Record) (s : State) : State :=
  if !level .doorClosed s then refuse .doorNotClosed 0 r.seq s
  else if !level .tapeInPath s then refuse .wrongState 0 r.seq s
  else
    let s := takeInHand r (orderFields r.body) false .none (forgetCircumferences (dropReferenced s))
    (enter .loadingFill false true s).onTsq fun t => { t with timer := 0, timerOn := true }

/-- R92, R93: REWIND in READY. -/
def takeRewind (r : Record) (s : State) : State :=
  let s := takeInHand r (orderFields r.body) false .none s
  if fastRuns s then startFast (enterKeeping .rewindingFast s)
  else startSearch false (enterKeeping .rewindingSearch s)

/-- R94: UNLOAD in READY. -/
def takeUnloadReady (r : Record) (s : State) : State :=
  let s := enterKeeping .unloadingReturn (takeInHand r (orderFields r.body) false .none s)
  if fastRuns s then startFast s else startSearch false s

/-- R96, R119: UNLOAD in FAULT. -/
def takeUnloadFault (r : Record) (s : State) : State :=
  let s := dropReferenced (enter .unloaded true false s)
  doneAtTake .complete 0 r.seq (s.onFm fun _ => Fm.reset)

/-- R94, R96. -/
def takeUnload (r : Record) (s : State) : State :=
  if s.tsq.state = .fault then takeUnloadFault r s else takeUnloadReady r s

/-- R82: RUN CHAIN in READY. -/
def takeRunChain (r : Record) (s : State) : State :=
  let f := orderFields r.body
  if f.writeIntent && !level .writeRing s then refuse .noWriteRing 0 r.seq s
  else startChainMotion f.start r.seq f.approachReports (enterKeeping .moving (takeInHand r (orderFields r.body) false .chain s))

/-- R78, R81: the ceiling term of a SPACE of this speed class. -/
def classSpeed (p : Params) (speedClass : Nat) : Nat :=
  if speedClass = 1 then p.searchSpeed else if speedClass = 2 then p.rewindSpeed else p.normalSpeed

/-- R78: a speed class beyond NORMAL, SEARCH and REWIND becomes NORMAL. -/
def OrderFields.clamped (f : OrderFields) : OrderFields := if 2 < f.speedClass then { f with speedClass := 0 } else f

/-- R78, R81: SPACE in READY. -/
def takeSpace (r : Record) (s : State) : State :=
  let written := orderFields r.body
  let f := written.clamped
  if f.distance = 0 then doneAtTake .completeClamped 0 r.seq s
  else
    let s := enterKeeping .moving (takeInHand r f (decide (f ≠ written)) .space s)
    startMotion ⟨.space, !f.reverse, s.mc.params.accel, classSpeed s.mc.params f.speedClass, true⟩ f.distance s

/-- R80: MARKER. -/
def takeMarker (r : Record) (s : State) : State := doneAtTake .complete 0 r.seq s

/-- R118: the number of causes the fault record holds. -/
def causeCount (s : State) : Nat := (causes s).length + s.fm.further

/-- R97: the state a passed CLEAR FAULT chooses is READY. -/
def readyAfterClear (s : State) : Bool := s.tsq.vacuum && live s && inBand .s s && inBand .t s

/-- R97, R117, R118: CLEAR FAULT in FAULT. -/
def takeClearFault (r : Record) (s : State) : State :=
  match (causes s).find? (persists s) with
  | some k => refuse .causePersists k.number r.seq s
  | none =>
    let s := generate .faultCleared (s.fm.first.elim 0 FaultKind.number) (causeCount s) (some r.seq) s
    let s := clearRecord s
    let s := if readyAfterClear s then enter .ready false true s else enter .unloaded true false s
    doneAtTake .complete 0 r.seq s

/-- R98, R188: RETURN TO SETUP in RUN. -/
def takeReturnToSetup (r : Record) (s : State) : State :=
  doneAtTake .complete 0 r.seq (s.onMc fun c => { c with mode := .setup })

/-- R99, R150: Order Intake at a TRANSPORT RESET. An ORDERED fetch is withdrawn, one in flight is cancelled. -/
def FetchRec.cancel : FetchRec → FetchRec
  | .none => .none
  | .ordered _ => .none
  | .inFlight j reseen _ => .inFlight j reseen true

/-- R146, R150: the queue entries and ready slots that a flush or a TRANSPORT RESET discards. -/
def discardCount (s : State) : Nat := s.oi.queue.length + readyCount s

/-- R146, R150: the queue and the ready map are emptied, the fetch withdrawn or cancelled, and the expected
sequence set. -/
def flushIntake (expected : Byte) (s : State) : State :=
  s.onOi fun o => { o with queue := [], ready := 0, fetch := o.fetch.cancel, expected := expected }

/-- R99: the measurements at a TRANSPORT RESET (R19). -/
def Mu.transportReset (u : Mu) : Mu :=
  { u with
    p := 0, eot := none, silence := ⟨0, 0⟩
    est := ⟨{ u.est.s with tally := 0, sum := 0 }, { u.est.t with tally := 0, sum := 0 }⟩ }

/-- R56: a reel loop at a TRANSPORT RESET; its band-entered flag is kept. -/
def ReelLoop.transportReset (l : ReelLoop) : ReelLoop := { ReelLoop.reset with band := l.band }

/-- R99: TRANSPORT RESET in READY, UNLOADED or FAULT. -/
def takeTransportReset (r : Record) (s : State) : State :=
  let s := endChain s
  let s := s.onMg fun _ => Mg.reset
  let s := dropReferenced (dropWriteEnable (enter .unloaded true false s))
  let s := s.onFm fun _ => Fm.reset
  let s := s.onCl fun _ => Cl.reset
  let s := (s.onRl .s ReelLoop.transportReset).onRl .t ReelLoop.transportReset
  let s := s.onMu Mu.transportReset
  let count := discardCount s
  doneAtTake .complete count r.seq (flushIntake (r.seq + 1) s)

/-- R77: an order accepted by mode and state, by its code. Setup codes do not come here. -/
def carryOut (r : Record) (s : State) : State :=
  match r.code with
  | .load => takeLoad r s
  | .unload => takeUnload r s
  | .rewind => takeRewind r s
  | .runChain => takeRunChain r s
  | .space => takeSpace r s
  | .marker => takeMarker r s
  | .clearFault => takeClearFault r s
  | .returnToSetup => takeReturnToSetup r s
  | .transportReset => takeTransportReset r s
  | .setReelGains => s
  | .setCapstanGains => s
  | .setColumns => s
  | .setSpeeds => s
  | .setLimits => s
  | .setSenseLine => s
  | .setReporting => s
  | .setDefaultCircumference => s
  | .enterRun => s

/-- R77: an order taken at the head. -/
def takeOrder (r : Record) (s : State) : State :=
  if s.mc.mode = .setup then
    if r.code = .returnToSetup then doneAtTake .complete 0 r.seq s else refuse .wrongMode 0 r.seq s
  else if r.code.acceptedIn s.tsq.state then carryOut r s
  else refuse .wrongState 0 r.seq s

/-! ## The stop word (R100, R101) -/

/-- R101: the stopping mark is set, WRITE ENABLE is dropped and the generator is handed a stop request. -/
def requestStop (kind : StopKind) (s : State) : State :=
  let s := s.onTsq fun t => { t with inHand := t.inHand.map fun h => { h with stopping := true } }
  (dropWriteEnable s).onMg fun g => { g with pendStops := g.pendStops ++ [kind] }

/-- R100: the sequencer's action on a stop word. -/
def stopAction (kind : StopKind) (s : State) : State :=
  match s.tsq.state with
  | .loadingFill => endUnloaded .stopped s
  | .unloadingWindOff => endUnloaded .stopped s
  | .loadingSeek => requestStop kind s
  | .moving => requestStop kind s
  | .settling => requestStop kind s
  | .rewindingFast => requestStop kind s
  | .rewindingSearch => requestStop kind s
  | .rewindingReturn => requestStop kind s
  | .unloadingReturn => requestStop kind s
  | .halting => s
  | .ready => s
  | .unloaded => s
  | .fault => s

end Sys2Proof.Machine
end

