-- ==== Sys2Proof/Machine/Sense.lean ====
section
/-! DEFINITION. The Sense Line Unit: debouncing, hand-on of level changes, notices, the sense-change set, and SET
SENSE LINE (chapter 7). -/

namespace Sys2Proof.Machine

def lineOf (k : Fin 12) (s : State) : Line := s.slu.lines.get k

/-- Change one line. -/
def onLine (k : Fin 12) (f : Line → Line) (s : State) : State :=
  s.onSlu fun u => { u with lines := u.lines.set k.val (f (u.lines.get k)) k.isLt }

/-! ## Level changes (R123) -/

/-- R85: the detail value of RING LOST: the current segment's index, or a free value where there is none (log
entry 19). -/
def ringLostIndex (s : State) : Fin 32 :=
  match s.wk.current with
  | some (k, _) => k
  | none => Config.freeSegment s.freeCount

/-- R85: RING LOST is followed: a RUN CHAIN with write intent is in hand. -/
def ringFollowed (s : State) : Bool :=
  s.tsq.inHand.elim false fun h => decide (h.code = .runChain) && h.fields.writeIntent

/-- R85: WRITE RING has changed to absent. -/
def ringLost (s : State) : State :=
  if ringFollowed s then
    let k := ringLostIndex s
    let n := if s.wk.current.isNone then s.freeCount + 1 else s.freeCount
    generate .markCrossed ringLostCode k.val (handSeq s) (dropWriteEnable { s with freeCount := n })
  else s

/-- R123: the level of a function has changed; its followers read the new level. -/
def handOnLevel (f : Func) (s : State) : State :=
  match f with
  | .vacuumOk => if level .vacuumOk s then s else takeFault .vacuumLoss s.fm.vacTimer s
  | .tapeInPath => if level .tapeInPath s then s else windOffTapeLoss (takeFault .tapeBreak 0 s)
  | .doorClosed => evaluateDoor s
  | .writeRing => if level .writeRing s then s else ringLost s
  | .none => s
  | .limit _ _ => s
  | .botMark => s
  | .eotMark => s

/-! ## Notices (R124 to R126) -/

/-- R126, step 1: the notice is handed to the owner of the function's action. -/
def noticeAction (f : Func) (s : State) : State :=
  match f with
  | .limit x upper => limitCondition x upper s
  | .botMark => addNotice .bot s
  | .eotMark => addNotice .eot s
  | .none => s
  | .vacuumOk => s
  | .doorClosed => s
  | .tapeInPath => s
  | .writeRing => s

/-- The bit of a function in the sense-change set (section 12.4). -/
def Func.setBit (f : Func) : BitVec 10 := if f = .none then 0 else BitVec.ofNat 10 (2 ^ (f.number - 1))

/-- R126, R128: line k notices. -/
def notice (k : Fin 12) (s : State) : State :=
  let f := (lineOf k s).func
  let s := onLine k (fun l => { l with pending := true, carry := .notYet }) (noticeAction f s)
  s.onSlu fun u => { u with changeSet := u.changeSet ||| f.setBit, request := true }

/-- R124: an edge mode notices a change to this level. -/
def LineMode.noticesEdge (m : LineMode) (now : Bool) : Bool :=
  match m with
  | .rising => now
  | .falling => !now
  | .both => true
  | .high => false
  | .low => false

/-- R125: a level mode notices at this level. -/
def LineMode.noticesLevel (m : LineMode) (now : Bool) : Bool :=
  match m with
  | .high => now
  | .low => !now
  | .rising => false
  | .falling => false
  | .both => false

/-! ## The debounce tick (R121, R130) -/

/-- R121: the sample of a line with these raw inputs. -/
def lineSample (k : Fin 12) (raw : BitVec 12) (invert : Bool) : Bool := raw.getLsbD k.val != invert

/-- R121: this tick accepts a change of line k. -/
def accepts (k : Fin 12) (raw : BitVec 12) (s : State) : Bool :=
  let l := lineOf k s
  decide (l.func ≠ .none) && (lineSample k raw l.invert != l.level) && decide (2 ^ l.exponent.toNat ≤ l.timer + 1)

/-- R121, R123, R124: an accepted change of line k. -/
def acceptChange (k : Fin 12) (s : State) : State :=
  let now := !(lineOf k s).level
  let s := handOnLevel (lineOf k s).func (onLine k (fun l => { l with level := now, timer := 0 }) s)
  if (lineOf k s).mode.noticesEdge now then notice k s else s

/-- R125: the level-mode test of line k after a tick's update. -/
def levelNotice (k : Fin 12) (s : State) : State :=
  let l := lineOf k s
  if l.mode.noticesLevel l.level && !l.pending then notice k s else s

/-- R121 to R126: one line at a tick, taken whole. -/
def tickLine (raw : BitVec 12) (k : Fin 12) (s : State) : State :=
  let l := lineOf k s
  if l.func = .none then s
  else
    let s :=
      if lineSample k raw l.invert = l.level then onLine k (fun l => { l with timer := 0 }) s
      else if accepts k raw s then acceptChange k s
      else onLine k (fun l => { l with timer := l.timer + 1 }) s
    levelNotice k s

/-- A list with each member at its first place only, the members of `seen` left out. -/
def firstPlaces {α : Type} [DecidableEq α] : List α → List α → List α
  | _, [] => []
  | seen, a :: as => if a ∈ seen then firstPlaces seen as else a :: firstPlaces (a :: seen) as

/-- R130: the lines in the order taken: those the command names first, then the others by number. -/
def tickOrder (order : List (Fin 12)) : List (Fin 12) := firstPlaces [] (order ++ lineIds)

/-- R121: a debounce tick. -/
def tick (raw : BitVec 12) (order : List (Fin 12)) (s : State) : State :=
  (tickOrder order).foldl (fun s k => tickLine raw k s) (s.onSlu fun u => { u with raw := raw })

/-! ## The sense-change set at an expiry (R128) -/

/-- R128: a line that is not yet carried takes this carrying report. -/
def Line.carriedBy (id : Nat) (l : Line) : Line := if l.carry = .notYet then { l with carry := .report id } else l

/-- R128: without a report, a line that is not yet carried is cleared. -/
def Line.clearNotYet (l : Line) : Line := if l.carry = .notYet then { l with pending := false, carry := .none } else l

/-- R128: the sense-change set at a period expiry. -/
def senseChange (s : State) : State :=
  if s.slu.request then
    let set := s.slu.changeSet
    let empty (f : Line → Line) : State :=
      s.onSlu fun u => { u with lines := u.lines.map f, changeSet := 0, request := false }
    if maskPasses s .senseChange then
      generate .senseChange (levelsField s) set.toNat none (empty (Line.carriedBy s.ru.nextId))
    else empty Line.clearNotYet
  else s

/-! ## SET SENSE LINE (R131, R132) -/

/-- What R131 makes of a SET SENSE LINE. -/
inductive SenseCheck where
  | pass (k : Fin 12) (f : Func) (m : LineMode)
  | badValue
  | inUse (k : Fin 12)
deriving DecidableEq, Repr

/-- R131: the line other than k that carries f. -/
def otherCarrier (f : Func) (k : Fin 12) (s : State) : Option (Fin 12) :=
  if f = .none then none else lineIds.find? fun j => decide (j ≠ k) && ((lineOf j s).func == f)

/-- R131: the checks, in order. -/
def checkSenseLine (x : SenseLineFields) (s : State) : SenseCheck :=
  if h : x.line < 12 then
    match Func.ofNumber x.func, LineMode.ofNumber x.mode with
    | some f, some m =>
      match otherCarrier f ⟨x.line, h⟩ s with
      | some j => .inUse j
      | none => .pass ⟨x.line, h⟩ f m
    | _, _ => .badValue
  else .badValue

/-- R132, step 1: the old function leaves line k and reads its unassigned reading. -/
def freeFunction (k : Fin 12) (f : Func) (s : State) : State :=
  let g := (lineOf k s).func
  if g = .none ∨ g = f then s
  else
    let before := level g s
    let s := onLine k (fun l => { l with func := .none }) s
    if g.unassignedLevel = before then s else handOnLevel g s

/-- R132, R133: the present raw inputs: those given for this SET SENSE LINE, else the last that were seen (log entry
23). -/
def presentRaw (s : State) : BitVec 12 := s.inputs.headD s.slu.raw

/-- The present raw inputs have been seen. -/
def seeInputs (s : State) : State := { s.onSlu (fun u => { u with raw := presentRaw s }) with inputs := s.inputs.tail }

/-- R132: a SET SENSE LINE that passed its checks takes effect. -/
def applySenseLine (k : Fin 12) (f : Func) (m : LineMode) (invert : Bool) (exponent : BitVec 3) (s : State) : State :=
  let before := level f s
  let now := decide (f ≠ .none) && lineSample k (presentRaw s) invert
  let s := freeFunction k f (seeInputs s)
  let s := onLine k (fun _ => ⟨f, m, invert, exponent, now, 0, false, .none⟩) s
  if f = .none ∨ now = before then s else handOnLevel f s

end Sys2Proof.Machine
end

