-- ==== Sys2Proof/Machine/Setup.lean ====
section
/-! DEFINITION. Setup records at the queue head (chapter 11) and what they do to other blocks. -/

namespace Sys2Proof.Machine

/-- R182: a setup record is applied: SETUP APPLIED, COMPLETE CLAMPED when a value was clamped. -/
def setupApplied (c : Code) (clamped : Bool) (seq : Byte) (s : State) : State :=
  generate .setupApplied (OrderOutcome.complete.clampedIf clamped).number c.number (some seq) s

/-- R183, step 3: the parameter set takes new values. -/
def setParams (p : Params) (s : State) : State := s.onMc fun c => { c with params := p }

/-- R185: the band of each column lies within 0..1023. -/
def bandsFit (p : Params) : Bool :=
  decide (p.halfWidth ≤ p.setpoint.s) && decide (p.setpoint.s + p.halfWidth ≤ 1023)
    && decide (p.halfWidth ≤ p.setpoint.t) && decide (p.setpoint.t + p.halfWidth ≤ 1023)

/-- R174: the attention line takes its LEVEL value. -/
def levelAttention (s : State) : State := s.onRu fun u => { u with attention := attnLevel s, pulse := false }

/-- R174, R175: the attention line after SET REPORTING, with the mode before. -/
def attentionAfterSetup (wasPulse : Bool) (s : State) : State :=
  if !s.mc.params.attnPulse then levelAttention s
  else if wasPulse then s
  else s.onRu fun u => { u with attention := false, pulse := false }

/-- R176, R186: the interval counter after SET REPORTING (log entry 21). -/
def counterAfterSetup (old : Nat) (s : State) : State :=
  if s.mc.params.snapInterval = old then s else s.onRu fun u => { u with snapCounter := 0 }

/-- R186: SET REPORTING is applied. -/
def applyReporting (b : Body) (s : State) : State :=
  let p := s.mc.params
  counterAfterSetup p.snapInterval (attentionAfterSetup p.attnPulse (setParams (withReporting p b) s))

/-- R185: SET COLUMNS. -/
def takeColumns (r : Record) (s : State) : State :=
  let p := withColumns s.mc.params r.body
  if bandsFit p then setupApplied r.code (columnsClamped r.body) r.seq (setParams p s)
  else refuse .badValue 0 r.seq s

/-- R131, R132, R186: SET SENSE LINE. -/
def takeSenseLine (r : Record) (s : State) : State :=
  let x := senseLineFields r.body
  match checkSenseLine x s with
  | .badValue => refuse .badValue 0 r.seq s
  | .inUse k => refuse .functionInUse k.val r.seq s
  | .pass k f m => setupApplied r.code false r.seq (applySenseLine k f m x.invert x.exponent s)

/-- R183 to R187: a setup record in SETUP. Order codes do not come here. -/
def applySetup (r : Record) (s : State) : State :=
  let p := s.mc.params
  match r.code with
  | .setReelGains => setupApplied r.code false r.seq (setParams (withReelGains p r.body) s)
  | .setCapstanGains => setupApplied r.code false r.seq (setParams (withCapstanGains p r.body) s)
  | .setColumns => takeColumns r s
  | .setSpeeds => setupApplied r.code (speedsClamped r.body) r.seq (setParams (withSpeeds p r.body) s)
  | .setLimits => setupApplied r.code (limitsClamped r.body) r.seq (setParams (withLimits p r.body) s)
  | .setSenseLine => takeSenseLine r s
  | .setReporting => setupApplied r.code false r.seq (applyReporting r.body s)
  | .setDefaultCircumference =>
    setupApplied r.code (defaultCircClamped r.body) r.seq (setParams (withDefaultCirc p r.body) s)
  | .enterRun => setupApplied r.code false r.seq (s.onMc fun c => { c with mode := .run })
  | .load => s
  | .unload => s
  | .rewind => s
  | .runChain => s
  | .space => s
  | .marker => s
  | .clearFault => s
  | .returnToSetup => s
  | .transportReset => s

/-- R182: a setup record taken at the head. -/
def takeSetup (r : Record) (s : State) : State :=
  if s.mc.mode = .setup then applySetup r s else refuse .wrongMode 0 r.seq s

end Sys2Proof.Machine
end

