-- ==== Sys2Proof/Machine/Intake.lean ====
section
/-! DEFINITION. Order Intake and the take of the queue head (chapter 8, R76). -/

namespace Sys2Proof.Machine

/-! ## The head of the queue (R76) -/

/-- R76: a record taken at the head. -/
def takeHead (r : Record) (s : State) : State := if r.code.isSetup then takeSetup r s else takeOrder r s

/-- R136: the head record leaves the queue. -/
def popHead (rest : List Record) (s : State) : State := s.onOi fun o => { o with queue := rest }

/-- R76: records are taken, one at a time, while the conditions hold. Each take removes one. -/
def serveHead : Nat → State → State
  | 0, s => s
  | n + 1, s =>
    match s.oi.queue with
    | [] => s
    | r :: rest => if headMayBeTaken s then serveHead n (takeHead r (popHead rest s)) else s

/-! ## ORDER FETCH (R139) -/

/-- R139: the conditions on which an ORDER FETCH is ordered. -/
def fetchDue (s : State) : Bool :=
  decide (s.oi.fetch = .none) && decide (s.oi.queue.length < Config.queueMax) && readyFlag (expectedSlot s) s

/-- R139. -/
def orderFetchTest (s : State) : State :=
  if fetchDue s then s.onOi fun o => { o with fetch := .ordered (expectedSlot s) } else s

/-- What closes every step that may free the head or change the conditions of R139: the head is taken as far as it
may be (R76), then R139 is tested (log entry 10). -/
def conclude (s : State) : State := orderFetchTest (serveHead s.oi.queue.length s)

/-! ## Taking a record (R142) -/

def setReady (j : Fin 64) (s : State) : State :=
  s.onOi fun o => { o with ready := o.ready ||| (1#64 <<< j.val) }

def clearReady (j : Fin 64) (s : State) : State :=
  s.onOi fun o => { o with ready := o.ready &&& ~~~(1#64 <<< j.val) }

/-- The expected sequence advances by one, modulo 256. -/
def advanceExpected (s : State) : State := s.onOi fun o => { o with expected := o.expected + 1 }

/-- R136: a record joins the tail of the queue. -/
def joinQueue (r : Record) (s : State) : State := s.onOi fun o => { o with queue := o.queue ++ [r] }

/-- R142: a record with these words is taken into the queue or refused; either way the expected sequence
advances. -/
def takeRecord (b : Body) (post : Word) (s : State) : State :=
  let expected := s.oi.expected
  advanceExpected <|
    if postSeq post ≠ expected then refuse .sequenceError (postSeq post).toNat expected s
    else match Code.ofNumber (postCode post) with
      | none => refuse .unknownCode (postCode post) expected s
      | some c => joinQueue ⟨postSeq post, c, b⟩ s

/-! ## Completions (R137, R138) -/

def FetchRec.inFlightFor (j : Fin 64) : FetchRec → Bool
  | .inFlight i _ cancelled => decide (i = j) && !cancelled
  | .none => false
  | .ordered _ => false

/-- R138: the re-seen mark is set. -/
def FetchRec.markReseen : FetchRec → FetchRec
  | .inFlight i _ cancelled => .inFlight i true cancelled
  | .none => .none
  | .ordered i => .ordered i

/-- R137: an ORDERED fetch of slot j is withdrawn. -/
def FetchRec.withdraw (j : Fin 64) : FetchRec → FetchRec
  | .ordered i => if i = j then .none else .ordered i
  | .none => .none
  | .inFlight i r c => .inFlight i r c

/-- R137: whether a whole completion for slot j is taken directly. -/
def takenDirectly (j : Fin 64) (s : State) : Bool :=
  decide (j = expectedSlot s) && decide (s.oi.queue.length < Config.queueMax) && !s.oi.fetch.inFlightFor j

/-- R137, R138: a completion that is not taken directly. -/
def deferCompletion (j : Fin 64) (s : State) : State :=
  setReady j (if s.oi.fetch.inFlightFor j then s.onOi fun o => { o with fetch := o.fetch.markReseen } else s)

/-- R137: a completion for slot j, with its words when the capture is whole. One that meets R137's conditions is taken
directly whatever its sequence, after a flush too, where R148 can be read otherwise (log entry 40: the model's
choice). -/
def completion (j : Fin 64) (words : Option (Body × Word)) (s : State) : State :=
  match words with
  | none => deferCompletion j s
  | some (b, post) =>
    if takenDirectly j s then
      takeRecord b post (clearReady j (s.onOi fun o => { o with fetch := o.fetch.withdraw j }))
    else deferCompletion j s

/-! ## The end of an ORDER FETCH (R140, R141) -/

def clearFetch (s : State) : State := s.onOi fun o => { o with fetch := .none }

/-- R140: the fetch in flight completes with these words. -/
def orderFetchComplete (b : Body) (post : Word) (s : State) : State :=
  match s.oi.fetch with
  | .inFlight j reseen cancelled =>
    let s := clearFetch s
    if cancelled ∨ reseen then s
    else if postCode post = emptyCode then clearReady j s
    else takeRecord b post (clearReady j s)
  | .none => s
  | .ordered _ => s

/-- R141: the fetch in flight fails. -/
def orderFetchFail (s : State) : State :=
  match s.oi.fetch with
  | .inFlight j _ cancelled =>
    let s := clearFetch s
    if cancelled then s
    else advanceExpected (clearReady j (refuse .fetchFailed j.val s.oi.expected s))
  | .none => s
  | .ordered _ => s

/-! ## The stop word (R145 to R147) -/

/-- R146, R147: a flush, with its ORDERS FLUSHED report. -/
def flush (kind : StopKind) (resume : Byte) (s : State) : State :=
  let count := discardCount s
  generate .ordersFlushed kind.number count (some resume) (flushIntake resume s)

/-- R145: a stop word is taken. The head is not taken between the two parts. -/
def takeStopWord (w : Word) (s : State) : State :=
  let s := stopAction (stopKind w) s
  if stopFlush w then flush (stopKind w) (stopResume w) s else s

end Sys2Proof.Machine
end

