-- ==== Sys2Proof/Machine/Port.lean ====
section
/-! DEFINITION. The Pass-Through Port with its snoop unit and arbiter, the Memory Agent, and the Report Unit's ends
of jobs and releases (chapters 9 and 10). -/

namespace Sys2Proof.Machine

/-! ## The words of jobs (R159) -/

/-- R159: the number of words of a job. -/
def JobKind.words : JobKind → Nat
  | .reportWrite _ _ _ _ => 4
  | .snapshotWrite => 4
  | .orderFetch _ => 8
  | .segmentFetch _ => 4

/-- R159: whether a job writes. -/
def JobKind.writes : JobKind → Bool
  | .reportWrite _ _ _ _ => true
  | .snapshotWrite => true
  | .orderFetch _ => false
  | .segmentFetch _ => false

/-- R159: the word index at a position of the job's word order: writes 1, 2, 3, then 0; reads in turn. -/
def JobKind.wordAt (k : JobKind) (pos : Nat) : Nat := if k.writes then (pos + 1) % 4 else pos

/-- The region offset of word j of a job's target. -/
def JobKind.offset (k : JobKind) (j : Nat) : Nat :=
  match k with
  | .reportWrite slot _ _ _ => reportOffset slot j
  | .snapshotWrite => snapshotOffset j
  | .orderFetch slot => slotOffset slot j
  | .segmentFetch i => entryOffset i j

/-- The access of a job's word in progress (R159, R191). A fetch's read is presented with all four byte enables and
data 0 (log entry 41: the model's choice). -/
def Job.access (j : Job) (s : State) : Access :=
  let k := j.kind.wordAt j.pos
  { addr := regionAddr s (j.kind.offset k)
    be := fullEnables
    write := j.kind.writes
    data := if j.kind.writes then j.out.getD k 0 else 0 }

/-! ## Read holds (R162) -/

/-- R162: the access is a read of a word that the job writes. -/
def protectedBy (j : Job) (acc : Access) (s : State) : Bool :=
  !acc.write && j.kind.writes
    && (List.range 4).any fun k => regionOffset s acc.addr == some (j.kind.offset k)

/-- R162: the access is to be held. -/
def isHeld (acc : Access) (s : State) : Bool := s.ma.job.elim false fun j => protectedBy j acc s

/-- R162: a job starts: a waiting read of its words becomes held. -/
def holdWaiting (s : State) : State :=
  match s.ptp.u with
  | some (acc, .waiting) =>
    if isHeld acc s then s.onPtp fun p => { p with u := some (acc, .held) } else s
  | some (_, .held) => s
  | some (_, .granted) => s
  | none => s

/-- R162: the job ends or is abandoned: a held read becomes waiting. -/
def releaseHold (s : State) : State :=
  match s.ptp.u with
  | some (acc, .held) => s.onPtp fun p => { p with u := some (acc, .waiting) }
  | some (_, .waiting) => s
  | some (_, .granted) => s
  | none => s

/-! ## The arbiter (R161) -/

/-- The waiting U-side access, if there is one. -/
def waitingU (s : State) : Option Access :=
  match s.ptp.u with
  | some (acc, .waiting) => some acc
  | some (_, .held) => none
  | some (_, .granted) => none
  | none => none

/-- The waiting agent word, if there is one. -/
def waitingAgent (s : State) : Option Job := s.ma.job.filter Job.waiting

/-- R161: the U-side access is granted; the guard count rises when an agent word is passed over. -/
def grantU (acc : Access) (passed : Bool) (s : State) : State :=
  s.onPtp fun p => { p with
    u := some (acc, .granted)
    mSide := .forwarded acc s.mc.params.memTimeout
    guard := if passed then p.guard + 1 else p.guard }

/-- R161: the agent's word is granted. -/
def grantAgent (j : Job) (s : State) : State :=
  (s.onPtp fun p => { p with mSide := .agent (j.access s) s.mc.params.memTimeout, guard := 0 }).onMa
    fun a => { a with job := some { j with waiting := false } }

/-- R161: with the M-side FREE, one waiting access is granted. -/
def arbitrate (s : State) : State :=
  if s.ptp.mSide = .free then
    match waitingU s, waitingAgent s with
    | none, none => s
    | some acc, none => grantU acc false s
    | none, some j => grantAgent j s
    | some acc, some j => if s.ptp.guard < Config.guardMax then grantU acc true s else grantAgent j s
  else s

/-! ## Assemblies (R154 to R157) -/

def openBuffer (t : Target) (s : State) : Option Assembly := s.ptp.bufs.find? fun a => a.target == t

/-- An assembly with word k stored. -/
def Assembly.store (a : Assembly) (k : Fin 8) (data : Word) (clean : Bool) : Assembly :=
  { a with words := a.words.set k.val (some data) k.isLt, torn := a.torn || !clean }

/-- R154: a buffer opened by word k. -/
def Assembly.openAt (t : Target) (k : Fin 8) (data : Word) (clean : Bool) : Assembly :=
  Assembly.store ⟨t, Vector.replicate 8 none, decide (k = 0), false⟩ k data clean

/-- R154: a write is clean when it had all four byte enables and was answered. -/
def cleanWrite (be : ByteEnables) (answered : Bool) : Bool := decide (be = fullEnables) && answered

/-- R154, R155: a word of a record is stored; the older buffer is evicted when both are OPEN for other targets. -/
def storeWord (t : Target) (k : Fin 8) (data : Word) (clean : Bool) (s : State) : State :=
  s.onPtp fun p => { p with
    bufs :=
      match p.bufs.find? fun a => a.target == t with
      | some _ => p.bufs.map fun a => if a.target = t then a.store k data clean else a
      | none =>
        let fresh := Assembly.openAt t k data clean
        if p.bufs.length < Config.bufferMax then p.bufs ++ [fresh] else p.bufs.drop 1 ++ [fresh] }

/-- R157: the buffer of the target becomes FREE. -/
def freeBuffer (t : Target) (s : State) : State :=
  s.onPtp fun p => { p with bufs := p.bufs.filter fun a => a.target != t }

/-- The first n words of an assembly, when all are present. -/
def Assembly.wholeWords (a : Assembly) (n : Nat) : Option (List Word) := (a.words.toList.take n).mapM id

/-- R157: the capture of a record of n words whose closing word is `data`; none is a partial capture. -/
def captureOf (t : Target) (closing : Fin 8) (n : Nat) (data : Word) (clean : Bool) (s : State) : Option (List Word) :=
  match openBuffer t s with
  | none => none
  | some a =>
    let a := a.store closing data clean
    if a.byWord0 && !a.torn then a.wholeWords n else none

/-- The body and the post word of an order slot's eight words. -/
def slotWords : List Word → Option (Body × Word)
  | [a, b, c, d, e, f, g, p] => some (⟨a, b, c, d, e, f, g⟩, p)
  | _ => none

/-- The copy of a segment entry's four words. -/
def entryCopy : List Word → Option Segment
  | [a, b, c, d] => some (segmentOf a b c d)
  | _ => none

/-! ## Watched writes (R153 to R158) -/

/-- R154: a write to word k of slot j ends. -/
def slotWordEnds (j : Fin 64) (k : Fin 7) (be : ByteEnables) (data : Word) (answered : Bool) (s : State) : State :=
  storeWord (.slot j) (k.castLE (by decide)) data (cleanWrite be answered) s

/-- R156: the write of a post word closes nothing: EMPTY is written to the code byte. -/
def emptyPost (be : ByteEnables) (data : Word) : Bool := be.getLsbD 1 && decide (postCode data = emptyCode)

/-- R156, R157: a write of slot j's post word ends. -/
def postWordEnds (j : Fin 64) (be : ByteEnables) (data : Word) (answered : Bool) (s : State) : State :=
  if emptyPost be data then s
  else
    let capture := captureOf (.slot j) 7 8 data (cleanWrite be answered) s
    completion j (capture.bind slotWords) (freeBuffer (.slot j) s)

/-- R154: a write to word k of segment entry i ends. -/
def entryWordEnds (i : Fin 32) (k : Fin 3) (be : ByteEnables) (data : Word) (answered : Bool) (s : State) : State :=
  storeWord (.entry i) (k.castLE (by decide)) data (cleanWrite be answered) s

/-- R156, R157, R59, R60: a write of entry i's word 3 ends. -/
def entryClosingEnds (i : Fin 32) (be : ByteEnables) (data : Word) (answered : Bool) (s : State) : State :=
  let capture := captureOf (.entry i) 3 4 data (cleanWrite be answered) s
  let s := freeBuffer (.entry i) s
  match capture.bind entryCopy with
  | some copy => wholeCapture i copy s
  | none => partialCapture i s

/-! ## Releases (R173) -/

/-- R129: the release of the report with this ring index is told to its lines. -/
def tellRelease (i : Byte) (s : State) : State :=
  match (s.ru.slots.get (slotOf i)).bind SlotRecord.senseId with
  | some id => clearCarried id s
  | none => s

/-- R173: the value is accepted. -/
def releaseAccepted (r : Byte) (s : State) : Bool :=
  decide ((s.ru.writeIdx - r).toNat ≤ if reportUnderWrite s then Config.ringSlots - 1 else Config.ringSlots)

/-- R173: the value lies forward of the read index. -/
def releaseForward (r : Byte) (s : State) : Bool := decide ((r - s.ru.readIdx).toNat ≤ unreleased s)

/-- R173: the ring indices an accepted value releases, oldest first. -/
def releasedIndices (r : Byte) (s : State) : List Byte :=
  if releaseForward r s then
    (List.range (r - s.ru.readIdx).toNat).map fun n => s.ru.readIdx + BitVec.ofNat 8 n
  else []

/-- R174: the line is evaluated again where the mode is LEVEL. -/
def reevaluateLevel (s : State) : State :=
  if s.mc.params.attnPulse then s else s.onRu fun u => { u with attention := attnLevel s }

/-- R173: a captured release word. -/
def takeRelease (w : Word) (s : State) : State :=
  let r := releaseIndex w
  if releaseAccepted r s then
    if r = s.ru.readIdx then reevaluateLevel s
    else
      let told := (releasedIndices r s).foldl (fun s i => tellRelease i s) s
      reevaluateLevel (told.onRu fun u => { u with readIdx := r })
  else s

/-- R158: a captured word: with all four byte enables. -/
def captured (be : ByteEnables) : Bool := decide (be = fullEnables)

/-- R153 to R158: the snoop unit takes a write at this word of the region. -/
def snoopWord (w : RegionWord) (be : ByteEnables) (data : Word) (answered : Bool) (s : State) : State :=
  match w with
  | .slotWord j k => slotWordEnds j k be data answered s
  | .postWord j => postWordEnds j be data answered s
  | .entryWord i k => entryWordEnds i k be data answered s
  | .entryClosing i => entryClosingEnds i be data answered s
  | .release => if captured be then takeRelease data s else s
  | .stop => if captured be then takeStopWord data s else s
  | .unwatched => s

/-- R153: the snoop unit takes a write whose M-side access ends, if it is watched. -/
def snoop (w : RegionWord) (be : ByteEnables) (data : Word) (answered : Bool) (s : State) : State :=
  if watching s then snoopWord w be data answered s else s

/-- R153: what an address names in the region. -/
def addressed (a : BusAddr) (s : State) : RegionWord := (regionOffset s a).elim .unwatched regionWord

/-! ## The U-side (R152, R163) -/

/-- R152, R162: the port takes an access, which waits for the arbiter or is held. -/
def takeAccess (acc : Access) (s : State) : State :=
  let phase : UPhase := if isHeld acc s then .held else .waiting
  s.onPtp fun p => { p with u := some (acc, phase) }

/-- R152: the drive processor presents an access. The port takes it when it holds none. While the one before is on the
M-side it is the access presented at the moment of that completion (log entry 26). -/
def presentAccess (acc : Access) (s : State) : State :=
  match s.ptp.u with
  | none => arbitrate (takeAccess acc s)
  | some (_, .granted) => s.onPtp fun p => { p with coming := p.coming <|> some acc }
  | some (_, .waiting) => s
  | some (_, .held) => s

/-- R152: the access presented at the moment of a completion is taken. -/
def takeComing (s : State) : State :=
  match s.ptp.coming with
  | none => s
  | some acc => takeAccess acc (s.onPtp fun p => { p with coming := none })

/-- R152, R163: the U-side access completes and the M-side becomes FREE. -/
def completeU (busError : Bool) (data : Option Word) (s : State) : State :=
  s.onPtp fun p => { p with u := none, uDone := some ⟨busError, data⟩, mSide := .free }

/-! ## Job starts (R160, R170, R177) -/

/-- R159, R161, R162: a job starts: its first word waits for the arbiter, and waiting reads of its words are
held. A read that the job before has released at this moment is such a read too, where the new job writes its word: the
model's choice (log entry 43). -/
def startJob (kind : JobKind) (out : List Word) (s : State) : State :=
  arbitrate (holdWaiting (s.onMa fun _ => ⟨some ⟨kind, 0, true, out, []⟩⟩))

/-- The Memory Agent is IDLE. -/
def agentIdle (s : State) : Bool := s.ma.job.isNone

/-- R170: REPORT WRITE starts with the oldest pending report. -/
def startReportWrite (s : State) : State :=
  match s.ru.pendingReports with
  | [] => s
  | r :: rest =>
    let seq := s.ru.nextSeq
    let loss := s.ru.loss
    let kind := JobKind.reportWrite (slotOf s.ru.writeIdx) r seq loss
    startJob kind (reportWords r seq loss) (s.onRu fun u => { u with pendingReports := rest, loss := 0 })

/-- R139: ORDER FETCH starts. -/
def startOrderFetch (s : State) : State :=
  match s.oi.fetch with
  | .ordered j => startJob (.orderFetch j) [] (s.onOi fun o => { o with fetch := .inFlight j false false })
  | .none => s
  | .inFlight _ _ _ => s

/-- R61: SEGMENT FETCH starts. -/
def startSegmentFetch (s : State) : State :=
  match s.sc.fetchList with
  | [] => s
  | i :: rest =>
    startJob (.segmentFetch i) [] (s.onSc fun c => { c with fetchList := rest, inFlight := some ⟨i, .none⟩ })

/-- R177: SNAPSHOT WRITE starts. -/
def startSnapshotWrite (s : State) : State :=
  startJob .snapshotWrite (snapshotWords s) (s.onRu fun u => { u with snapDue := false, snapCounter := 0 })

/-- R160: the job of this name is ready. -/
def jobReady (k : AgentJob) (s : State) : Bool :=
  match k with
  | .reportWrite => reportReady s
  | .orderFetch => orderFetchReady s
  | .segmentFetch => segmentFetchReady s
  | .snapshotWrite => snapshotReady s

/-- R160: the job of this name starts. -/
def beginJob (k : AgentJob) (s : State) : State :=
  match k with
  | .reportWrite => startReportWrite s
  | .orderFetch => startOrderFetch s
  | .segmentFetch => startSegmentFetch s
  | .snapshotWrite => startSnapshotWrite s

/-- R160: the job of this name starts, where the agent is IDLE and the job is ready; otherwise `wait` is done. -/
def beginOr (wait : State → State) (k : AgentJob) (s : State) : State :=
  if agentIdle s && jobReady k s then beginJob k s else wait s

/-- Log entry 5: a write is on the M-side, whose end may make a job ready, the access presented at that moment is known,
and the agent is IDLE. -/
def awaitsWriteEnd (s : State) : Bool :=
  agentIdle s && s.ptp.coming.isSome
    && match s.ptp.mSide with
      | .forwarded acc _ => acc.write
      | .free => false
      | .agent _ _ => false
      | .orphan _ _ => false

/-- R161, log entry 5: a start that comes at the moment at which the write on the M-side ends is kept for it; the first
one stands. -/
def keepStart (k : AgentJob) (s : State) : State :=
  if awaitsWriteEnd s then s.onPtp fun p => { p with starting := p.starting <|> some k } else s

/-- R160, R161: a command that starts a job (log entry 5). -/
def takeStart (k : AgentJob) (s : State) : State := beginOr (keepStart k) k s

/-- R160: the agent, IDLE, chooses: the first ready job in order starts. -/
def chooseJob (s : State) : State :=
  if !agentIdle s then s
  else if reportReady s then startReportWrite s
  else if orderFetchReady s then startOrderFetch s
  else if segmentFetchReady s then startSegmentFetch s
  else if snapshotReady s then startSnapshotWrite s
  else s

/-! ## The ends of forwarded accesses (R152, R153, R161, R163) -/

/-- Log entry 5: the job whose start has been kept for the end of this access. -/
def startKept (acc : Access) (s : State) : Option AgentJob :=
  if acc.write && s.ptp.coming.isSome then s.ptp.starting else none

/-- R160, R161: the kept start is taken, where the job can start: its first word then waits at the grant made here. -/
def takeKept (kept : Option AgentJob) (s : State) : State :=
  match kept with
  | none => s
  | some k => beginOr id k (s.onPtp fun p => { p with starting := none })

/-- R152, R161, R163: the end of a forwarded access: the snoop unit takes a watched write, the U-side access completes,
an access presented at that moment is taken, what follows from the write is done (log entry 10), a start kept for this
moment is taken, and the arbiter grants again. -/
def forwardedEnds (acc : Access) (answered : Bool) (data : Word) (s : State) : State :=
  let kept := startKept acc s
  let s := if acc.write then snoop (addressed acc.addr s) acc.be acc.data answered s else s
  let s := takeComing (completeU (!answered) (if answered && !acc.write then some data else none) s)
  arbitrate (takeKept kept (conclude s))

/-- R152, R163: the forwarded access on the M-side ends, answered or timed out. -/
def endForwarded (answered : Bool) (data : Word) (s : State) : State :=
  match s.ptp.mSide with
  | .forwarded acc _ => forwardedEnds acc answered data s
  | .free => s
  | .agent _ _ => s
  | .orphan _ _ => s

/-- Log entry 3: the M-side carries exactly this write. -/
def carriesWrite (off : Nat) (be : ByteEnables) (data : Word) (s : State) : Bool :=
  match s.ptp.mSide with
  | .forwarded acc _ =>
    acc.write && decide (regionOffset s acc.addr = some off) && decide (acc.be = be) && decide (acc.data = data)
  | .free => false
  | .agent _ _ => false
  | .orphan _ _ => false

/-- Log entry 3: a watched write at an offset of the region ends. Where the M-side carries it, its access ends with
it. Otherwise the snoop unit takes it, with what follows (log entry 10). -/
def watchedWrite (off : Nat) (be : ByteEnables) (data : Word) (answered : Bool) (s : State) : State :=
  if carriesWrite off be data s then endForwarded answered 0 s
  else conclude (snoop (regionWord off) be data answered s)

/-! ## Job ends (R171, R172, R177, R140, R141, R62) -/

/-- R171: the attention line at the completion of a REPORT WRITE (R174, R175). -/
def attentionAtCompletion (urgent : Bool) (s : State) : State :=
  if s.mc.params.attnPulse then
    if inAttnMask urgent s then s.onRu fun u => { u with attention := true, pulse := true } else s
  else s.onRu fun u => { u with attention := attnLevel s }

/-- R171: a REPORT WRITE completes. -/
def reportWritten (slot : Fin 128) (r : Report) (s : State) : State :=
  let rec' : SlotRecord := ⟨r.kind.urgent, if r.kind = .senseChange then some r.id else none⟩
  attentionAtCompletion r.kind.urgent <| s.onRu fun u => { u with
    slots := u.slots.set slot.val (some rec') slot.isLt
    writeIdx := u.writeIdx + 1
    nextSeq := u.nextSeq + 1 }

/-- R172: a REPORT WRITE fails. -/
def reportLost (r : Report) (loss : Nat) (s : State) : State :=
  let s := s.onRu fun u => { u with loss := satAdd Config.countMax (loss + 1) u.loss }
  if r.kind = .senseChange then clearCarried r.id s else s

/-- R177: a SNAPSHOT WRITE completes. -/
def snapshotWritten (s : State) : State := s.onRu fun u => { u with snapCount := u.snapCount + 1 }

/-- R159: the owner is told that the job is complete, with the words a fetch has read. -/
def jobComplete (kind : JobKind) (got : List Word) (s : State) : State :=
  match kind with
  | .reportWrite slot r _ _ => reportWritten slot r s
  | .snapshotWrite => snapshotWritten s
  | .orderFetch _ =>
    match slotWords got with
    | some (b, post) => orderFetchComplete b post s
    | none => s
  | .segmentFetch _ =>
    match entryCopy got with
    | some copy => segFetchComplete copy s
    | none => s

/-- R164: the owner is told that the job failed. A failed snapshot is skipped (R177). -/
def jobFailed (kind : JobKind) (s : State) : State :=
  match kind with
  | .reportWrite _ r _ loss => reportLost r loss s
  | .snapshotWrite => s
  | .orderFetch _ => orderFetchFail s
  | .segmentFetch _ => segFetchFail s

def freeMSide (s : State) : State := s.onPtp fun p => { p with mSide := .free }

/-- The agent becomes IDLE. -/
def agentToIdle (s : State) : State := s.onMa fun _ => ⟨none⟩

/-- R159, R162: the agent's word is answered: the next word begins to wait, or the job is complete. -/
def agentAnswered (j : Job) (data : Word) (s : State) : State :=
  let got := if j.kind.writes then j.got else j.got ++ [data]
  if j.pos + 1 < j.kind.words then
    s.onMa fun _ => ⟨some { j with pos := j.pos + 1, waiting := true, got := got }⟩
  else jobComplete j.kind got (releaseHold (agentToIdle s))

/-- R164: the agent's word times out and its job is abandoned. -/
def agentTimedOut (j : Job) (s : State) : State := jobFailed j.kind (releaseHold (agentToIdle s))

/-- R159 to R162, R164, R166: the agent's access on the M-side ends. Where its job ends, the owner is told, with what
follows there (log entry 10), the agent chooses its next job, and the arbiter then grants. A word whose job a line
reset discarded is told to nobody. -/
def endAgentWord (f : Job → State → State) (s : State) : State :=
  match s.ptp.mSide with
  | .agent _ _ =>
    let s := freeMSide s
    match s.ma.job with
    | some j => arbitrate (chooseJob (conclude (f j s)))
    | none => arbitrate s
  | .orphan _ _ => arbitrate (freeMSide s)
  | .free => s
  | .forwarded _ _ => s

end Sys2Proof.Machine
end

