-- ==== Sys2Proof/Machine/Expiry.lean ====
section
/-! DEFINITION. The period expiry (R1): its stages, the Fault Monitor's tests, and which of the named expiries of
the opcode table comes about in it. -/

namespace Sys2Proof.Machine

/-- The steps of the opcode table that are an expiry named by what it brings about (log entry 2). -/
inductive ExpiryEvent where
  | sampleLoss | settleComplete | settleTimeout | speedReduced | haltWaitLimit
  | reelStall (x : Reel)
  | capstanRunaway | vacuumSettled | loadTimeout | unloadTimeout | snapshotInterval
deriving DecidableEq, Repr

/-- An expiry under way: the state so far and the named events that have come about. -/
structure Run where
  state : State
  events : List ExpiryEvent

/-- A stage of the expiry. -/
def Run.andThen (r : Run) (f : State → State) : Run := { r with state := f r.state }

/-- A named event comes about where the test holds before the stage. -/
def Run.noting (r : Run) (e : ExpiryEvent) (comes : State → Bool) : Run :=
  if comes r.state then { r with events := e :: r.events } else r

/-- A stage that may come at this place, as the order says. -/
def Run.whenever (r : Run) (b : Bool) (f : Run → Run) : Run := if b then f r else r

/-- What the expiry found at its start, for the tests that follow. -/
structure Context where
  /-- v_t of the period that the expiry ends (R110) -/
  vt : Int
  /-- the halt wait was active before this expiry (R114) -/
  waiting : Bool
  /-- the transport state at the start of the expiry -/
  state : TState
  /-- P came newly to a bound (R6) -/
  atBound : Bool
  crossings : List Crossing
deriving DecidableEq, Repr

def contextOf (s : State) : Context where
  vt := s.mg.vt
  waiting := s.fm.haltWait.isSome
  state := s.tsq.state
  atBound := (measured s.mu).atBound
  crossings := (measured s.mu).crossings

/-! ## Stages -/

/-- R44: the current pair, if present, is presented again as a held pair. -/
def presentHeld (s : State) : State :=
  match s.mu.pair with
  | some p => present p s
  | none => s

/-- R18, R44, R48, R111: the arrival flag is examined and cleared; a miss counts, presents the held pair or starves
the reels, and may deliver SAMPLE LOSS. -/
def missStage (s : State) : State :=
  if missed s then
    let n := satInc Config.countMax s.mu.missCount
    let loss := lossDelivered s
    let s := s.onMu fun u => { u with missCount := n }
    if n < 3 then presentHeld s
    else
      let s := starveReel .t (starveReel .s s)
      if loss then takeFault .sampleLoss n (s.onMu fun u => { u with lossReported := true }) else s
  else s.onMu fun u => { u with arrival := false }

/-- The phase timer runs at this expiry only for the phase that stood at its start. -/
def timerStage (c : Context) (s : State) : State := if s.tsq.state = c.state then phaseTimer s else s

def loadTimeoutComes (c : Context) (s : State) : Bool := decide (s.tsq.state = c.state) && loadTimesOut s

def unloadTimeoutComes (c : Context) (s : State) : Bool :=
  decide (s.tsq.state = c.state) && !loadTimesOut s && unloadTimesOut s

/-- R20, R35: the generator's step, and the sequencer's take of an end it hands on. -/
def generatorStage (s : State) : State :=
  match generatorStep s with
  | (s, e) => motionEnds e s

/-- R36: the settle step of this expiry is reached, with the requests applied and the speed reduction made. -/
def settleReached (s : State) : Option State :=
  match applyRequests s with
  | (_, some _) => none
  | (s, none) =>
    match (reduceSpeed s).mg.phase with
    | .settle _ => some (reduceSpeed s)
    | .idle => none
    | .run => none
    | .hold => none
    | .ramp => none

def settleCompleteComes (s : State) : Bool := (settleReached s).elim false settleCompletes

def settleTimeoutComes (s : State) : Bool := (settleReached s).elim false settleTimesOut

def speedReducedComes (s : State) : Bool := reductionDue (applyRequests s).1

/-! ## The Fault Monitor's tests (R106, R108 to R111, R114) -/

/-- R106: the vacuum settle timer after this expiry. -/
def vacTimerAfter (s : State) : Nat := if s.tsq.vacuum then satInc Config.timerMax s.fm.vacTimer else 0

/-- R106: the vacuum is settled at this expiry's test. -/
def settledAfter (s : State) : Bool :=
  s.tsq.vacuum && decide (s.mc.params.vacuumSettle * Config.periodsPerMs ≤ vacTimerAfter s)

/-- R106, R189: this expiry is the one at which the vacuum becomes settled. -/
def vacuumSettles (s : State) : Bool := settledAfter s && !s.fm.vacSettled

/-- R106. -/
def vacuumCheck (s : State) : State :=
  let lost := vacuumSettles s && !level .vacuumOk s
  let s := s.onFm fun f => { f with vacTimer := vacTimerAfter s, vacSettled := settledAfter s }
  if lost then takeFault .vacuumLoss s.fm.vacTimer s else s

/-- R109: the high-drive run of reel x after this expiry. -/
def highRunAfter (x : Reel) (s : State) : Nat :=
  if s.mc.params.stallThreshold ≤ (s.rl.get x).d.natAbs then satInc Config.timerMax (s.fm.highRun.get x) else 0

/-- R109: REEL STALL of reel x is taken. -/
def stalls (x : Reel) (s : State) : Bool :=
  !s.tsq.brake && decide (s.mc.params.stallTime ≤ highRunAfter x s)
    && decide (s.mc.params.stallTime ≤ s.mu.silence.get x)

/-- R109. -/
def stallCheck (x : Reel) (s : State) : State :=
  let stall := stalls x s
  let s := s.onFm fun f => { f with highRun := f.highRun.set x (highRunAfter x s) }
  if stall then takeFault (.reelStall x) (s.rl.get x).d s else s

/-- R110: the runaway run after this expiry's comparison. -/
def runawayAfter (c : Context) (s : State) : Nat :=
  if s.cl.run ∧ s.mc.params.runawayLimit < (s.mu.m - c.vt).natAbs then s.fm.runaway + 1 else 0

/-- R110: the runaway run reaches 8. -/
def runsAway (c : Context) (s : State) : Bool := decide (Config.runawayLimit ≤ runawayAfter c s)

/-- R110. -/
def runawayCheck (c : Context) (s : State) : State :=
  if runsAway c s then takeFault .capstanRunaway (s.mu.m - c.vt) (s.onFm fun f => { f with runaway := 0 })
  else s.onFm fun f => { f with runaway := runawayAfter c s }

/-- R111: POSITION RANGE, delivered when P came newly to a bound. -/
def positionCheck (c : Context) (s : State) : State := if c.atBound then takeFault .positionRange s.mu.p s else s

/-- R114: the capstan test of the halt wait. -/
def capstanRests (s : State) : Bool := decide (s.mg.vt = 0) && decide (s.mu.m.natAbs ≤ 1)

/-- R114: the halt wait count after this expiry's test fails. -/
def haltCount (c : Context) (n : Nat) : Nat := if c.waiting then n + 1 else n

/-- R114: the end of the halt. -/
def endHalt (byLimit : Bool) (s : State) : State :=
  let brake := s.tsq.brake || !s.tsq.vacuum || !live s || byLimit
  (enter .fault brake s.tsq.vacuum s).onFm fun f => { f with haltWait := none }

/-- R114: the halt ends by the count of 400. -/
def haltLimitComes (c : Context) (s : State) : Bool :=
  s.tsq.state == .halting
    && s.fm.haltWait.elim false fun n => !capstanRests s && decide (Config.haltWaitMax ≤ haltCount c n)

/-- R114: the test of the halt wait. -/
def haltCheck (c : Context) (s : State) : State :=
  if s.tsq.state = .halting then
    match s.fm.haltWait with
    | none => s
    | some n =>
      if capstanRests s then endHalt false s
      else if Config.haltWaitMax ≤ haltCount c n then endHalt true s
      else s.onFm fun f => { f with haltWait := some (haltCount c n) }
  else s

/-- One of the Fault Monitor's tests. -/
def checkStage (c : Context) (k : ExpiryCheck) (s : State) : State :=
  match k with
  | .position => positionCheck c s
  | .vacuum => vacuumCheck s
  | .stall x => stallCheck x s
  | .runaway => runawayCheck c s
  | .door => evaluateDoor s
  | .halt => haltCheck c s

/-- One test with the named event that may come about in it. -/
def Run.check (c : Context) (r : Run) (k : ExpiryCheck) : Run :=
  let r := match k with
    | .position => r
    | .vacuum => r.noting .vacuumSettled vacuumSettles
    | .stall x => r.noting (.reelStall x) (stalls x)
    | .runaway => r.noting .capstanRunaway (runsAway c)
    | .door => r
    | .halt => r.noting .haltWaitLimit (haltLimitComes c)
  r.andThen (checkStage c k)

/-- The tests in number order. -/
def allChecks : List ExpiryCheck := [.position, .vacuum, .stall .s, .stall .t, .runaway, .door, .halt]

/-- R116: the tests in the order taken: those the command names first, then the others. -/
def checkOrder (o : ExpiryOrder) : List ExpiryCheck := firstPlaces [] (o.checks ++ allChecks)

/-! ## The snapshot interval (R176) -/

/-- R176: the interval counter reaches the interval at this expiry. -/
def intervalReached (s : State) : Bool :=
  decide (s.mc.params.snapInterval ≠ 0) && decide (s.mc.params.snapInterval ≤ s.ru.snapCounter + 1)

/-- R176. -/
def intervalStage (s : State) : State :=
  if s.mc.params.snapInterval = 0 then s
  else s.onRu fun u =>
    if intervalReached s then { u with snapDue := true, snapCounter := 0 }
    else { u with snapCounter := u.snapCounter + 1 }

/-! ## The expiry -/

def Run.timer (c : Context) (r : Run) : Run :=
  ((r.noting .loadTimeout (loadTimeoutComes c)).noting .unloadTimeout (unloadTimeoutComes c)).andThen (timerStage c)

def Run.miss (r : Run) : Run := (r.noting .sampleLoss lossDelivered).andThen missStage

def Run.crossings (c : Context) (r : Run) : Run := r.andThen (takeCrossings c.crossings)

def Run.generator (r : Run) : Run :=
  (((r.noting .speedReduced speedReducedComes).noting .settleComplete settleCompleteComes).noting .settleTimeout
    settleTimeoutComes).andThen generatorStage

/-- The stages before the Fault Monitor's tests, in the order that the command gives (log entry 8). -/
def servoRun (o : ExpiryOrder) (s : State) : Run :=
  let c := contextOf s
  let r : Run := ⟨s.onMu Mu.atExpiry, []⟩
  let r := r.whenever o.crossingsFirst (Run.crossings c)
  let r := r.whenever (o.timerFirst && o.presentFirst) (Run.timer c)
  let r := r.whenever o.presentFirst Run.miss
  let r := (r.generator).andThen computeCapstan
  let r := r.whenever (!o.crossingsFirst) (Run.crossings c)
  let r := r.whenever (o.timerFirst && !o.presentFirst) (Run.timer c)
  let r := r.whenever (!o.presentFirst) Run.miss
  r.whenever (!o.timerFirst) (Run.timer c)

/-- The whole expiry: the servo stages, the Fault Monitor's tests, the sense-change set, the snapshot interval, and
the queue head. -/
def expiryRun (o : ExpiryOrder) (s : State) : Run :=
  let r := (checkOrder o).foldl (Run.check (contextOf s)) (servoRun o s)
  let r := r.andThen senseChange
  let r := (r.noting .snapshotInterval intervalReached).andThen intervalStage
  r.andThen conclude

/-- R1: a period expiry, in SETUP and RUN. -/
def expiry (o : ExpiryOrder) (s : State) : State := if watching s then (expiryRun o s).state else s

/-- Log entry 2: an expiry named by an event is the whole expiry where the event comes about in it, and nothing
otherwise. -/
def namedExpiry (e : ExpiryEvent) (o : ExpiryOrder) (s : State) : State :=
  if watching s ∧ e ∈ (expiryRun o s).events then (expiryRun o s).state else s

end Sys2Proof.Machine
end

