-- ==== Sys2Proof/Machine/Start.lean ====
section
/-! DEFINITION. The resets and the end of initialisation (R180, R181, R166). -/

namespace Sys2Proof.Machine

/-- R180: power-on reset: every block takes its power-on values and the straps are sampled. The pins the part does
not drive stay as they are. -/
def powerOnReset (straps : Straps) (levels : TachLevels) (s : State) : State :=
  { State.powerOn straps levels s.slu.raw s.pending with freeCount := s.freeCount, inputs := s.inputs }

/-- R166: the M-side at a line reset: a word of the Memory Agent is not cut, but its job is discarded. -/
def MSide.afterReset : MSide → MSide
  | .agent acc t => .orphan acc t
  | .forwarded acc t => .forwarded acc t
  | .orphan acc t => .orphan acc t
  | .free => .free

/-- R166: the U-side access at a line reset: a held read becomes waiting. -/
def UPhase.afterReset : UPhase → UPhase
  | .held => .waiting
  | .waiting => .waiting
  | .granted => .granted

/-- R166: the port at a line reset. -/
def Ptp.lineReset (p : Ptp) : Ptp where
  bufs := []
  u := p.u.map fun x => (x.1, x.2.afterReset)
  coming := p.coming
  starting := none
  uDone := p.uDone
  mSide := p.mSide.afterReset
  guard := 0

/-- R181: line reset: as power-on reset, but the straps and the accesses in progress are kept. RESET is asserted,
so the initialisation interval does not run. -/
def lineReset (levels : TachLevels) (s : State) : State :=
  let base := powerOnReset s.mc.straps levels s
  arbitrate
    { base with
      ptp := s.ptp.lineReset
      mc := { base.mc with resetAsserted := true, initRunning := false } }

/-- R181: RESET is released: the initialisation interval starts. -/
def resetRelease (s : State) : State :=
  if s.mc.resetAsserted then s.onMc fun c => { c with resetAsserted := false, initRunning := true } else s

/-- R180: the part mode at the end of initialisation. -/
def modeAfterInit (straps : Straps) : PartMode := if straps.setupSkip then .run else .setup

/-- R16: the frame receiver at the end of initialisation: a frame that is active then is not taken. -/
def receiverAfterInit (frameActive : Bool) : FrameReceiver := if frameActive then .passing else .idle

/-- The initialisation interval is running. -/
def initialising (s : State) : Bool := decide (s.mc.mode = .initialising) && s.mc.initRunning

/-- R180: the initialisation interval ends. -/
def initialisationEnd (frameActive : Bool) (s : State) : State :=
  if initialising s then
    let s := s.onMc fun c => { c with mode := modeAfterInit c.straps, initRunning := false }
    (s.onRu fun u => { u with snapDue := true }).onMu fun u => { u with frame := receiverAfterInit frameActive }
  else s

end Sys2Proof.Machine
end

