-- ==== Sys2Proof/Machine/Commands.lean ====
section
/-! DEFINITION. The meanings of the commands: one definition per row of the opcode table, each over the operations
of the other files. -/

namespace Sys2Proof.Machine

/-- What a command answers: no command of the part stops it, so every meaning is a next state. -/
abbrev Result : Type := Host.Outcome State Fault Refusal

/-! ## Resets and start-up -/

/-- POWER_ON_RESET (R180, R190). -/
def execPowerOnReset (straps : Straps) (levels : TachLevels) (s : State) : Result :=
  .next (powerOnReset straps levels s)

/-- LINE_RESET (R181, R166). -/
def execLineReset (levels : TachLevels) (s : State) : Result := .next (lineReset levels s)

/-- RESET_RELEASE (R181). -/
def execResetRelease (s : State) : Result := .next (resetRelease s)

/-- INITIALISATION_END (R180). -/
def execInitialisationEnd (frameActive : Bool) (s : State) : Result := .next (initialisationEnd frameActive s)

/-! ## The period expiry and the expiries named by an event -/

/-- PERIOD_EXPIRY (R1). -/
def execPeriodExpiry (o : ExpiryOrder) (s : State) : Result := .next (expiry o s)

/-- SAMPLE_LOSS (R18; log entry 2). -/
def execSampleLoss (o : ExpiryOrder) (s : State) : Result := .next (namedExpiry .sampleLoss o s)

/-- SETTLE_COMPLETE (R36; log entry 2). -/
def execSettleComplete (o : ExpiryOrder) (s : State) : Result := .next (namedExpiry .settleComplete o s)

/-- SETTLE_TIMEOUT (R36; log entry 2). -/
def execSettleTimeout (o : ExpiryOrder) (s : State) : Result := .next (namedExpiry .settleTimeout o s)

/-- SPEED_REDUCED (R37; log entry 2). -/
def execSpeedReduced (o : ExpiryOrder) (s : State) : Result := .next (namedExpiry .speedReduced o s)

/-- HALT_WAIT_LIMIT (R114; log entry 2). -/
def execHaltWaitLimit (o : ExpiryOrder) (s : State) : Result := .next (namedExpiry .haltWaitLimit o s)

/-- REEL_STALL (R109; log entry 2). -/
def execReelStall (x : Reel) (o : ExpiryOrder) (s : State) : Result := .next (namedExpiry (.reelStall x) o s)

/-- CAPSTAN_RUNAWAY (R110; log entry 2). -/
def execCapstanRunaway (o : ExpiryOrder) (s : State) : Result := .next (namedExpiry .capstanRunaway o s)

/-- VACUUM_SETTLED (R106; log entry 2). -/
def execVacuumSettled (o : ExpiryOrder) (s : State) : Result := .next (namedExpiry .vacuumSettled o s)

/-- LOAD_TIMEOUT (R90; log entry 2). -/
def execLoadTimeout (o : ExpiryOrder) (s : State) : Result := .next (namedExpiry .loadTimeout o s)

/-- UNLOAD_TIMEOUT (R95; log entry 2). -/
def execUnloadTimeout (o : ExpiryOrder) (s : State) : Result := .next (namedExpiry .unloadTimeout o s)

/-- SNAPSHOT_INTERVAL (R176; log entry 2). -/
def execSnapshotInterval (o : ExpiryOrder) (s : State) : Result := .next (namedExpiry .snapshotInterval o s)

/-! ## Measurements -/

/-- CAPSTAN_TACH_COUNT (R2, R13). -/
def execCapstanTachCount (ph : Phase) (s : State) : Result := .next (capstanCount ph s)

/-- REEL_TACH_COUNT (R4, R5, R13). -/
def execReelTachCount (x : Reel) (ph : Phase) (s : State) : Result := .next (reelCount x ph s)

/-- WINDOW_COMPLETE (R14; log entry 2): the reel count that completes the window. -/
def execWindowComplete (x : Reel) (ph : Phase) (s : State) : Result :=
  .next (if windowCompletes x ph s then reelCount x ph s else s)

/-- SAMPLE_FRAME (R16, R17): a frame that was active at the end of INITIALISING is passed over. -/
def execSampleFrame (bits : List Bool) (s : State) : Result :=
  .next <|
    if !watching s then s
    else match s.mu.frame with
      | .passing => s.onMu fun u => { u with frame := .idle }
      | .idle => (framePair bits).elim s fun p => pairArrival p s

/-- CONVERT_PULSE_END (R16). -/
def execConvertPulseEnd (s : State) : Result := .next (s.onMu fun u => { u with convert := false })

/-- BOTH_PHASES_CHANGE (R2, R4). -/
def execBothPhasesChange (t : Tach) (s : State) : Result := .next (bothChange t s)

/-! ## Sense lines -/

/-- DEBOUNCE_TICK (R121). -/
def execDebounceTick (raw : BitVec 12) (order : List (Fin 12)) (s : State) : Result :=
  .next (conclude (tick raw order s))

/-- ACCEPTED_CHANGE (R121; log entry 2): the tick that accepts a change of the line. -/
def execAcceptedChange (line : Fin 12) (raw : BitVec 12) (order : List (Fin 12)) (s : State) : Result :=
  .next (if accepts line raw s then conclude (tick raw order s) else s)

/-! ## The port and the watched writes -/

/-- U_SIDE_ACCESS (R152, R162). -/
def execUSideAccess (acc : Access) (s : State) : Result := .next (presentAccess acc s)

/-- FORWARDED_ACCESS_END (R152). -/
def execForwardedAccessEnd (data : Word) (s : State) : Result := .next (endForwarded true data s)

/-- MEMORY_RESPONSE_TIMEOUT (R163). -/
def execMemoryResponseTimeout (s : State) : Result := .next (endForwarded false 0 s)

/-- ORDER_SLOT_WORD_WRITE (R154; log entry 3). -/
def execOrderSlotWordWrite (slot : Fin 64) (k : Fin 7) (be : ByteEnables) (data : Word) (answered : Bool) (s : State) :
    Result :=
  .next (watchedWrite (slotOffset slot k.val) be data answered s)

/-- ORDER_POST_WORD_WRITE (R134, R156, R157; log entry 3). -/
def execOrderPostWordWrite (slot : Fin 64) (be : ByteEnables) (data : Word) (answered : Bool) (s : State) : Result :=
  .next (watchedWrite (slotOffset slot 7) be data answered s)

/-- SEGMENT_WORD_WRITE (R154; log entry 3). -/
def execSegmentWordWrite (entry : Fin 32) (k : Fin 3) (be : ByteEnables) (data : Word) (answered : Bool) (s : State) :
    Result :=
  .next (watchedWrite (entryOffset entry k.val) be data answered s)

/-- SEGMENT_CLOSING_WRITE (R157, R59, R60; log entry 3). -/
def execSegmentClosingWrite (entry : Fin 32) (be : ByteEnables) (data : Word) (answered : Bool) (s : State) : Result :=
  .next (watchedWrite (entryOffset entry 3) be data answered s)

/-- RELEASE_WORD (R158, R173; log entry 3). -/
def execReleaseWord (data : Word) (answered : Bool) (s : State) : Result :=
  .next (watchedWrite releaseOffset fullEnables data answered s)

/-- STOP_WORD (R145; log entry 3). -/
def execStopWord (data : Word) (answered : Bool) (s : State) : Result :=
  .next (watchedWrite stopOffset fullEnables data answered s)

/-! ## Orders and setup records -/

/-- Log entry 4: a whole record of this code, sequence and words reaches Order Intake, and the head is taken as far
as it may be. -/
def recordArrives (c : Code) (seq : Byte) (b : Body) (s : State) : State :=
  if watching s then conclude (completion (seqSlot seq) (some (b, postWord seq c)) s) else s

/-- LOAD (R88; log entry 4). -/
def execLoad (seq : Byte) (body : Body) (s : State) : Result := .next (recordArrives .load seq body s)

/-- UNLOAD (R94, R96; log entry 4). -/
def execUnload (seq : Byte) (body : Body) (s : State) : Result := .next (recordArrives .unload seq body s)

/-- REWIND (R92; log entry 4). -/
def execRewind (seq : Byte) (body : Body) (s : State) : Result := .next (recordArrives .rewind seq body s)

/-- RUN_CHAIN (R82; log entry 4). -/
def execRunChain (seq : Byte) (body : Body) (s : State) : Result := .next (recordArrives .runChain seq body s)

/-- SPACE (R81; log entry 4). -/
def execSpace (seq : Byte) (body : Body) (s : State) : Result := .next (recordArrives .space seq body s)

/-- MARKER (R80; log entry 4). -/
def execMarker (seq : Byte) (body : Body) (s : State) : Result := .next (recordArrives .marker seq body s)

/-- CLEAR_FAULT (R97; log entry 4). -/
def execClearFault (seq : Byte) (body : Body) (s : State) : Result := .next (recordArrives .clearFault seq body s)

/-- RETURN_TO_SETUP (R98; log entry 4). -/
def execReturnToSetup (seq : Byte) (body : Body) (s : State) : Result := .next (recordArrives .returnToSetup seq body s)

/-- TRANSPORT_RESET (R99; log entry 4). -/
def execTransportReset (seq : Byte) (body : Body) (s : State) : Result := .next (recordArrives .transportReset seq body s)

/-- SET_REEL_GAINS (R184; log entry 4). -/
def execSetReelGains (seq : Byte) (body : Body) (s : State) : Result := .next (recordArrives .setReelGains seq body s)

/-- SET_CAPSTAN_GAINS (R184; log entry 4). -/
def execSetCapstanGains (seq : Byte) (body : Body) (s : State) : Result := .next (recordArrives .setCapstanGains seq body s)

/-- SET_COLUMNS (R185; log entry 4). -/
def execSetColumns (seq : Byte) (body : Body) (s : State) : Result := .next (recordArrives .setColumns seq body s)

/-- SET_SPEEDS (R184; log entry 4). -/
def execSetSpeeds (seq : Byte) (body : Body) (s : State) : Result := .next (recordArrives .setSpeeds seq body s)

/-- SET_LIMITS (R184; log entry 4). -/
def execSetLimits (seq : Byte) (body : Body) (s : State) : Result := .next (recordArrives .setLimits seq body s)

/-- SET_SENSE_LINE (R131, R132; log entry 4). -/
def execSetSenseLine (seq : Byte) (body : Body) (s : State) : Result := .next (recordArrives .setSenseLine seq body s)

/-- SET_REPORTING (R186; log entry 4). -/
def execSetReporting (seq : Byte) (body : Body) (s : State) : Result := .next (recordArrives .setReporting seq body s)

/-- SET_DEFAULT_CIRCUMFERENCE (R184; log entry 4). -/
def execSetDefaultCircumference (seq : Byte) (body : Body) (s : State) : Result := .next (recordArrives .setDefaultCircumference seq body s)

/-- ENTER_RUN (R187; log entry 4). -/
def execEnterRun (seq : Byte) (body : Body) (s : State) : Result := .next (recordArrives .enterRun seq body s)

/-! ## The Memory Agent -/

/-- REPORT_WRITE_START (R160, R170): a start taken while the agent is IDLE, or kept for the end of the write on the
M-side (log entry 5). -/
def execReportWriteStart (s : State) : Result := .next (takeStart .reportWrite s)

/-- ORDER_FETCH_START (R160, R139; log entry 5). -/
def execOrderFetchStart (s : State) : Result := .next (takeStart .orderFetch s)

/-- SEGMENT_FETCH_START (R160, R61; log entry 5). -/
def execSegmentFetchStart (s : State) : Result := .next (takeStart .segmentFetch s)

/-- SNAPSHOT_WRITE_START (R160, R177; log entry 5). -/
def execSnapshotWriteStart (s : State) : Result := .next (takeStart .snapshotWrite s)

/-- AGENT_WORD_END (R159 to R162). -/
def execAgentWordEnd (data : Word) (s : State) : Result := .next (endAgentWord (fun j => agentAnswered j data) s)

/-- AGENT_WORD_TIMEOUT (R164). -/
def execAgentWordTimeout (s : State) : Result := .next (endAgentWord agentTimedOut s)

/-! ## Attention -/

/-- ATTENTION_PULSE_END (R175). -/
def execAttentionPulseEnd (s : State) : Result :=
  .next (if s.ru.pulse then s.onRu fun u => { u with attention := false, pulse := false } else s)

end Sys2Proof.Machine
end

