-- ==== Sys2Proof/Machine/Dispatch.lean ====
section
/-! DEFINITION. One arm per command: its meaning. -/

namespace Sys2Proof.Machine

/-- The effect of a command on everything but the queue. -/
def exec (i : Instr) (s : State) : Host.Outcome State Fault Refusal :=
  match i with
  | .powerOnReset straps levels => Sys2Proof.Machine.execPowerOnReset straps levels s
  | .lineReset levels => Sys2Proof.Machine.execLineReset levels s
  | .resetRelease => Sys2Proof.Machine.execResetRelease s
  | .initialisationEnd frameActive => Sys2Proof.Machine.execInitialisationEnd frameActive s
  | .periodExpiry o => Sys2Proof.Machine.execPeriodExpiry o s
  | .sampleLoss o => Sys2Proof.Machine.execSampleLoss o s
  | .settleComplete o => Sys2Proof.Machine.execSettleComplete o s
  | .settleTimeout o => Sys2Proof.Machine.execSettleTimeout o s
  | .speedReduced o => Sys2Proof.Machine.execSpeedReduced o s
  | .haltWaitLimit o => Sys2Proof.Machine.execHaltWaitLimit o s
  | .reelStall x o => Sys2Proof.Machine.execReelStall x o s
  | .capstanRunaway o => Sys2Proof.Machine.execCapstanRunaway o s
  | .vacuumSettled o => Sys2Proof.Machine.execVacuumSettled o s
  | .loadTimeout o => Sys2Proof.Machine.execLoadTimeout o s
  | .unloadTimeout o => Sys2Proof.Machine.execUnloadTimeout o s
  | .snapshotInterval o => Sys2Proof.Machine.execSnapshotInterval o s
  | .capstanTachCount ph => Sys2Proof.Machine.execCapstanTachCount ph s
  | .reelTachCount x ph => Sys2Proof.Machine.execReelTachCount x ph s
  | .windowComplete x ph => Sys2Proof.Machine.execWindowComplete x ph s
  | .sampleFrame bits => Sys2Proof.Machine.execSampleFrame bits s
  | .debounceTick raw order => Sys2Proof.Machine.execDebounceTick raw order s
  | .acceptedChange line raw order => Sys2Proof.Machine.execAcceptedChange line raw order s
  | .uSideAccess acc => Sys2Proof.Machine.execUSideAccess acc s
  | .forwardedAccessEnd data => Sys2Proof.Machine.execForwardedAccessEnd data s
  | .memoryResponseTimeout => Sys2Proof.Machine.execMemoryResponseTimeout s
  | .orderSlotWordWrite slot k be data answered => Sys2Proof.Machine.execOrderSlotWordWrite slot k be data answered s
  | .orderPostWordWrite slot be data answered => Sys2Proof.Machine.execOrderPostWordWrite slot be data answered s
  | .segmentWordWrite entry k be data answered => Sys2Proof.Machine.execSegmentWordWrite entry k be data answered s
  | .segmentClosingWrite entry be data answered => Sys2Proof.Machine.execSegmentClosingWrite entry be data answered s
  | .releaseWord data answered => Sys2Proof.Machine.execReleaseWord data answered s
  | .stopWord data answered => Sys2Proof.Machine.execStopWord data answered s
  | .load seq body => Sys2Proof.Machine.execLoad seq body s
  | .unload seq body => Sys2Proof.Machine.execUnload seq body s
  | .rewind seq body => Sys2Proof.Machine.execRewind seq body s
  | .runChain seq body => Sys2Proof.Machine.execRunChain seq body s
  | .space seq body => Sys2Proof.Machine.execSpace seq body s
  | .marker seq body => Sys2Proof.Machine.execMarker seq body s
  | .clearFault seq body => Sys2Proof.Machine.execClearFault seq body s
  | .returnToSetup seq body => Sys2Proof.Machine.execReturnToSetup seq body s
  | .transportReset seq body => Sys2Proof.Machine.execTransportReset seq body s
  | .setReelGains seq body => Sys2Proof.Machine.execSetReelGains seq body s
  | .setCapstanGains seq body => Sys2Proof.Machine.execSetCapstanGains seq body s
  | .setColumns seq body => Sys2Proof.Machine.execSetColumns seq body s
  | .setSpeeds seq body => Sys2Proof.Machine.execSetSpeeds seq body s
  | .setLimits seq body => Sys2Proof.Machine.execSetLimits seq body s
  | .setSenseLine seq body => Sys2Proof.Machine.execSetSenseLine seq body s
  | .setReporting seq body => Sys2Proof.Machine.execSetReporting seq body s
  | .setDefaultCircumference seq body => Sys2Proof.Machine.execSetDefaultCircumference seq body s
  | .enterRun seq body => Sys2Proof.Machine.execEnterRun seq body s
  | .reportWriteStart => Sys2Proof.Machine.execReportWriteStart s
  | .orderFetchStart => Sys2Proof.Machine.execOrderFetchStart s
  | .segmentFetchStart => Sys2Proof.Machine.execSegmentFetchStart s
  | .snapshotWriteStart => Sys2Proof.Machine.execSnapshotWriteStart s
  | .agentWordEnd data => Sys2Proof.Machine.execAgentWordEnd data s
  | .agentWordTimeout => Sys2Proof.Machine.execAgentWordTimeout s
  | .attentionPulseEnd => Sys2Proof.Machine.execAttentionPulseEnd s
  | .convertPulseEnd => Sys2Proof.Machine.execConvertPulseEnd s
  | .bothPhasesChange t => Sys2Proof.Machine.execBothPhasesChange t s

end Sys2Proof.Machine
end

