-- ==== Sys2Proof/Safety.lean ====
section
/-! DEFINITION. What statements about the part speak of: which commands carry records, when a record is served at
once, what has been reported, which parts of the state are kept, and the laws that the spec states of the part. -/

namespace Sys2Proof.Machine

/-! ## Reports -/

/-- What a rule says of a report: kind, detail code, detail value before clamping, order sequence, and the transport
state at generation (R167). -/
structure Said where
  kind : ReportKind
  code : Nat
  value : Int
  seq : Option Byte
  state : TState
deriving DecidableEq, Repr

/-- The reports that say this, generated one after the other with P and the period count of t; the first is named
`id` (R167). -/
def reportsSaying (t : State) (id : Nat) : List Said → List Report
  | [] => []
  | x :: xs =>
    ⟨id, x.kind, x.state, t.mu.p, t.mu.periodCount, x.code, clampI (-8388608) 8388607 x.value, x.seq⟩
      :: reportsSaying t (id + 1) xs

/-- Between s and t exactly these reports have been generated, and each has joined the pending list; the ring, its
indices, the loss count, the attention line and the snapshot count are as they were. -/
structure Reports (s t : State) (l : List Said) : Prop where
  list : t.ru.pendingReports = s.ru.pendingReports ++ reportsSaying t s.ru.nextId l
  names : t.ru.nextId = s.ru.nextId + l.length
  ring : t.ru.writeIdx = s.ru.writeIdx ∧ t.ru.readIdx = s.ru.readIdx ∧ t.ru.nextSeq = s.ru.nextSeq ∧
    t.ru.slots = s.ru.slots
  loss : t.ru.loss = s.ru.loss
  line : t.ru.attention = s.ru.attention ∧ t.ru.pulse = s.ru.pulse
  count : t.ru.snapCount = s.ru.snapCount

/-- R176, away from an expiry: a snapshot becomes due when the transport state changes. -/
def SnapshotByState (s t : State) : Prop :=
  t.ru.snapDue = (s.ru.snapDue || decide (t.tsq.state ≠ s.tsq.state)) ∧ t.ru.snapCounter = s.ru.snapCounter

/-- R176, at an expiry: a snapshot also becomes due when the interval counter reaches the interval. -/
def SnapshotByExpiry (s t : State) : Prop :=
  let interval := s.mc.params.snapInterval
  let reached := decide (interval ≠ 0 ∧ interval ≤ s.ru.snapCounter + 1)
  t.ru.snapDue = (s.ru.snapDue || decide (t.tsq.state ≠ s.tsq.state) || reached) ∧
    t.ru.snapCounter = if interval = 0 then s.ru.snapCounter else if reached then 0 else s.ru.snapCounter + 1

/-- The pending list has room for n more reports (R169). -/
def Room (n : Nat) (s : State) : Prop := s.ru.pendingReports.length + n ≤ 4

/-! ## Frames -/

/-- The transport, its measurements, its motion, its loops, its faults and its chains are as they were. -/
def SameTransport (s t : State) : Prop :=
  t.mu = s.mu ∧ t.mg = s.mg ∧ t.cl = s.cl ∧ t.rl = s.rl ∧ t.sc = s.sc ∧ t.wk = s.wk ∧ t.tsq = s.tsq ∧ t.fm = s.fm

/-- The port and the Memory Agent are as they were. -/
def SameBus (s t : State) : Prop := t.ptp = s.ptp ∧ t.ma = s.ma

/-- The sense lines, the parameter set and part mode, and the model's own fields are as they were. -/
def SameSetup (s t : State) : Prop :=
  t.slu = s.slu ∧ t.mc = s.mc ∧ t.freeCount = s.freeCount ∧ t.inputs = s.inputs ∧ t.pending = s.pending

/-- All but the Report Unit, Order Intake, the transport and the setup is kept. -/
def SameSurroundings (s t : State) : Prop := SameBus s t ∧ SameSetup s t

/-! ## Records -/

/-- The command that carries a record of this code. -/
def recordInstr : Code → Byte → Body → Instr
  | .load, q, b => .load q b
  | .unload, q, b => .unload q b
  | .rewind, q, b => .rewind q b
  | .runChain, q, b => .runChain q b
  | .space, q, b => .space q b
  | .marker, q, b => .marker q b
  | .clearFault, q, b => .clearFault q b
  | .returnToSetup, q, b => .returnToSetup q b
  | .transportReset, q, b => .transportReset q b
  | .setReelGains, q, b => .setReelGains q b
  | .setCapstanGains, q, b => .setCapstanGains q b
  | .setColumns, q, b => .setColumns q b
  | .setSpeeds, q, b => .setSpeeds q b
  | .setLimits, q, b => .setLimits q b
  | .setSenseLine, q, b => .setSenseLine q b
  | .setReporting, q, b => .setReporting q b
  | .setDefaultCircumference, q, b => .setDefaultCircumference q b
  | .enterRun, q, b => .enterRun q b

/-- The head is served in this transport state (R76). -/
def Serving (s : State) : Prop := s.tsq.state = .ready ∨ s.tsq.state = .unloaded ∨ s.tsq.state = .fault

/-- A whole record of this sequence is the expected one and is taken directly (R137). -/
structure TakenDirectly (seq : Byte) (s : State) : Prop where
  watching : watching s = true
  expected : s.oi.expected = seq
  space : s.oi.queue.length < 8
  noFetch : s.oi.fetch = .none

/-- A whole record of this sequence is taken directly and reaches the head at once (R76, R137, R143). -/
structure HeadFree (seq : Byte) (s : State) : Prop where
  direct : TakenDirectly seq s
  empty : s.oi.queue = []
  noHand : s.tsq.inHand = none
  serving : Serving s

/-- R139: what the fetch record becomes when it was NONE and the queue has room. -/
def nextFetch (expected : Byte) (ready : BitVec 64) : FetchRec :=
  if ready.getLsbD (seqSlot expected).val then .ordered (seqSlot expected) else .none

/-- R137, R142, R139: the sequence has been consumed, its slot's ready flag is clear, the queue holds these records,
and a fetch of the next slot has been ordered where its flag is set. -/
def IntakeAfter (seq : Byte) (queue : List Record) (s t : State) : Prop :=
  t.oi.expected = seq + 1 ∧ t.oi.queue = queue ∧ t.oi.ready = s.oi.ready &&& ~~~(1#64 <<< (seqSlot seq).val) ∧
    t.oi.fetch = if queue.length < 8 then nextFetch (seq + 1) s.oi.ready else .none

/-- The record of this sequence was taken and answered at its take: what it changed is said beside this. -/
def Taken (seq : Byte) (s t : State) : Prop := IntakeAfter seq [] s t ∧ SnapshotByState s t

/-- R77: the record was refused for this reason, with no other effect. -/
def Refused (reason : Nat) (value : Int) (seq : Byte) (s t : State) : Prop :=
  Taken seq s t ∧ SameTransport s t ∧ SameSurroundings s t ∧
    Reports s t [⟨.orderRefused, reason, value, some seq, s.tsq.state⟩]

/-- The order in hand at its take (R75). -/
def handAtTake (seq : Byte) (c : Code) (b : Body) (clamped : Bool) (leg : Leg) (s : State) : InHand :=
  ⟨seq, c, orderFields b, clamped, s.mu.p, leg, false, false⟩

/-- No step is followed by a take of the head or by an ORDER FETCH becoming ordered (R76, R139). -/
def NothingDue (s : State) : Prop := s.oi.queue = [] ∧ fetchDue s = false

/-- A U-side access is on the M-side. -/
def forwarding (s : State) : Bool :=
  match s.ptp.mSide with
  | .forwarded _ _ => true
  | .free => false
  | .agent _ _ => false
  | .orphan _ _ => false

/-- The snoop unit watches, no forwarded access is on the M-side, and nothing is due behind the write: a watched
write's own effect is all that happens. -/
structure Snooping (s : State) : Prop where
  watching : watching s = true
  apart : forwarding s = false
  due : NothingDue s

/-! ## Expiries in which nothing else comes about -/

/-- The new m of the next expiry (R3). -/
def newM (s : State) : Int := clampI (-255) 255 s.mu.accum

/-- P after the next expiry's sum (R6). -/
def newP (s : State) : Int := clampI (-33554432) 33554431 (s.mu.p + newM s)

/-- R3: the last direction after the next expiry. -/
def newDirection (s : State) : Bool := if newM s = 0 then s.mu.lastForward else decide (0 < newM s)

/-- The Measurement Unit after an expiry that finds the arrival flag set and no notice (R1, R3, R5, R6, R16, R18). -/
def measuredMu (s : State) : Mu :=
  { s.mu with
    periodCount := s.mu.periodCount + 1
    accum := 0
    m := newM s
    lastForward := newDirection s
    p := newP s
    silence := ⟨min 65535 (s.mu.silence.s + 1), min 65535 (s.mu.silence.t + 1)⟩
    arrival := false
    convert := true }

/-- R110: m stays within the runaway limit of v_t at the next expiry. -/
def SpeedFollows (s : State) : Prop := (newM s - s.mg.vt).natAbs ≤ s.mc.params.runawayLimit

/-- R109: the drive of reel x is below the stall threshold. -/
def DriveLow (x : Reel) (s : State) : Prop := (s.rl.get x).d.natAbs < s.mc.params.stallThreshold

/-- R6: P does not come to a bound at the next expiry. -/
def WithinBounds (s : State) : Prop :=
  -33554432 < s.mu.p + newM s ∧ s.mu.p + newM s < 33554431

/-- The door reads closed (R108), and P does not come to a bound (R6). -/
def DoorAndRange (s : State) : Prop := level .doorClosed s = true ∧ WithinBounds s

/-- No test of the Fault Monitor at the next expiry finds a fault. -/
structure Faultless (s : State) : Prop where
  stallTime : 1 ≤ s.mc.params.stallTime
  drives : ∀ x : Reel, DriveLow x s
  speed : SpeedFollows s
  door : DoorAndRange s
  vacuum : level .vacuumOk s = true

/-- R109: no reel stall comes about at the next expiry. A drive at or above the threshold is no stall while its run or
the silence of its tachometer is short. -/
def StallFree (s : State) : Prop :=
  1 ≤ s.mc.params.stallTime ∧ ∀ x : Reel, DriveLow x s ∨ s.fm.highRun.get x + 1 < s.mc.params.stallTime ∨
    s.mu.silence.get x + 1 < s.mc.params.stallTime

/-- As Faultless, with the drives free: no test of the Fault Monitor at the next expiry finds a fault. -/
structure Unfaulted (s : State) : Prop where
  stalls : StallFree s
  speed : SpeedFollows s
  door : DoorAndRange s
  vacuum : level .vacuumOk s = true

/-- Nothing waits for the next expiry: no mark notice, no request to the generator, no sense change. -/
structure Undisturbed (s : State) : Prop where
  watching : watching s = true
  notices : s.mu.notices = []
  stops : s.mg.pendStops = []
  markStop : s.mg.pendMarkStop = false
  reaim : s.mg.pendReaim = none
  halt : s.mg.pendHalt = false
  request : s.slu.request = false

/-- The next expiry finds the arrival flag set, no request, no notice, no fault and nothing due: what the generator's
phase does, and what follows from it, is all that comes about. -/
structure OnlyMotion (s : State) : Prop where
  quiet : Undisturbed s
  due : NothingDue s
  unfaulted : Unfaulted s
  pair : s.mu.arrival = true

/-- The transport is READY with the tape at rest: no order in hand, no fault, the generator IDLE, nothing due. -/
structure Resting (s : State) : Prop where
  quiet : Undisturbed s
  due : NothingDue s
  ready : s.tsq.state = .ready
  brake : s.tsq.brake = false
  pump : s.tsq.vacuum = true
  noHand : s.tsq.inHand = none
  noFault : s.fm.first = none ∧ s.fm.later = []
  idle : s.mg.phase = .idle
  running : s.cl.run = true
  looping : ∀ x : Reel, (s.rl.get x).mode = .loop
  noChain : s.wk.active = false
  room : Room 1 s

/-- A SPACE is in its FINAL settle, with no stop word taken, and nothing disturbs the next expiry (R36). -/
structure FinalSettle (h : InHand) (s : State) : Prop where
  quiet : Undisturbed s
  faultless : Faultless s
  pair : s.mu.arrival = true
  settling : s.tsq.state = .settling
  pump : s.tsq.vacuum = true
  phase : s.mg.phase = .settle false
  hand : s.tsq.inHand = some h
  leg : h.leg = .space ∧ h.code = .space ∧ h.stopping = false
  noChain : s.wk.active = false ∧ s.wk.chainLimit = false ∧ s.wk.adjusted = false

/-- pe of the next expiry in SETTLE (R36, step 2). -/
def settleError (s : State) : Int := s.mg.settle.target - newP s

/-- R36, steps 3 and 5: the settle completes at the next expiry. -/
def SettlesNow (s : State) : Prop :=
  (settleError s).natAbs ≤ s.mc.params.settleWindow ∧ s.mc.params.settleCount ≤ s.mg.settle.inWindow + 1

/-- BRAKE is on and all three drive commands are 0 (R53). -/
def Braked (t : State) : Prop := t.tsq.brake = true ∧ t.cl.dc = 0 ∧ ∀ x : Reel, (t.rl.get x).d = 0

/-- R79, R75: the order in hand has ended; with it the phase timer stops and WRITE ENABLE is off. -/
def Tsq.ended (q : Tsq) (st : TState) (brake vacuum : Bool) : Tsq :=
  { q with state := st, brake := brake, vacuum := vacuum, inHand := none, timer := 0, timerOn := false,
           writeEnable := false }

/-! ## Motions and loops -/

/-- R21: between s and t a motion has been started: this description, this distance, from P. -/
structure Started (m : Motion) (distance : Int) (s t : State) : Prop where
  run : t.mg.phase = .run
  motion : t.mg.motion = some m
  stretch : t.mg.l = distance ∧ t.mg.r = distance ∧ t.mg.w = 0 ∧ t.mg.d = 0 ∧ t.mg.v = 0 ∧ t.mg.q = t.mu.p
  speed : t.mg.vt = s.mg.vt ∧ t.mg.prevVt = 0 ∧ t.mg.accel = m.accel
  marks : t.mg.stopped = false ∧ t.mg.clamped = false ∧ t.mg.overrun = none
  ceiling : t.mg.reduction = none ∧ t.mg.satRun = 0

/-- R40, R45: the integrator after an error, by the saturation record left before. -/
def integrated (bound : Int) (sat : Sat) (acc err : Int) : Int :=
  if sat = .positive ∧ 0 < err then acc
  else if sat = .negative ∧ err < 0 then acc
  else max (-bound) (min bound (acc + err))

/-- R41, R47: the drive and the saturation record of a sum. -/
def driven (sum : Int) : Int × Sat :=
  if 2047 < sum then (2047, .positive) else if sum < -2047 then (-2047, .negative) else (sum, .none)

/-- R40, R41: the capstan loop after a computation with this v_t and this m. -/
def capstanAfter (p : Params) (c : Cl) (vt m : Int) : Cl :=
  let ev := vt - m
  let ic := integrated 4095 c.sat c.ic ev
  let x := driven ((vt * p.kcf).tdiv 4 + (ev * p.kcp).tdiv 2 + (ic * p.kci).tdiv 64)
  ⟨c.run, x.1, ic, x.2⟩

/-- R23: the effective ceiling of a motion with this ceiling term. -/
def topSpeed (ceiling : Nat) (s : State) : Nat :=
  match s.mg.reduction with
  | none => min ceiling s.mc.params.globalLimit
  | some c => min (min ceiling s.mc.params.globalLimit) c

/-- R22, steps 1 to 3: c is the largest speed in reach of v, at or below the ceiling, whose braking distance fits in
r. -/
abbrev Fits (v a top w : Nat) (r : Int) (c : Nat) : Prop :=
  (v ≤ c + a ∧ c ≤ v + a ∧ c ≤ top ∧ ((c + brakingDistance a w c : Nat) : Int) ≤ r) ∧
    ∀ c' : Nat, c' ≤ v + a → c < c' → c' ≤ top → r < ((c' + brakingDistance a w c' : Nat) : Int)

/-- R22, step 4 (and step 2, log entry 12): not even the slowest speed in reach of v fits in r. -/
abbrev NothingFits (v a top w : Nat) (r : Int) : Prop :=
  r < (((v - a) + brakingDistance a w (v - a) : Nat) : Int) ∧
    ∀ c' : Nat, c' ≤ v + a → v - a < c' → c' ≤ top → r < ((c' + brakingDistance a w c' : Nat) : Int)

/-- R20, R22: the generator after an expiry that commits c and hands on v_t = dir × c. -/
def Mg.committed (g : Mg) (dir : Int) (c : Nat) : Mg :=
  { g with
    v := c, d := g.d + c, r := g.r - c, q := g.q + dir * c, vt := dir * c, prevVt := dir * c
    delta := dir * c - g.prevVt, satRun := 0 }

/-- The measurements, the reels, Order Intake and all outside the motion after an expiry that finds only the motion at
work; the capstan loop computes from the new v_t (R20, R40). -/
def AroundMotion (s t : State) : Prop :=
  t.mu = measuredMu s ∧ t.rl = s.rl ∧ t.fm.first = s.fm.first ∧ t.fm.later = s.fm.later ∧ t.oi = s.oi ∧
    t.cl = (if s.cl.run then capstanAfter s.mc.params s.cl t.mg.vt (newM s) else s.cl) ∧ SameSurroundings s t

/-- R45 to R47: reel x after a computation in LOOP with this sample, V, change of V and circumference. -/
def reelAfter (x : Reel) (p : Params) (l : ReelLoop) (n v delta c : Int) : ReelLoop :=
  let sign : Int := if x = .s then -1 else 1
  let g := p.gains.get x
  let e := n - p.setpoint.get x
  let a := integrated 32767 l.sat l.a e
  let y := driven ((sign * v * g.kff * 64).tdiv c + sign * delta * g.ka + (e * g.kp).tdiv 8 + (a * g.ki).tdiv 1024)
  { l with d := y.1, a := a, sat := y.2 }

/-- R46: the circumference that reel x's computation uses. -/
def circumference (x : Reel) (s : State) : Int :=
  match (s.mu.est.get x).circ with
  | some c => c
  | none => s.mc.params.defaultCirc

/-- R50: the sample lies in the ready band of column x. -/
abbrev InBand (x : Reel) (n : Nat) (s : State) : Prop :=
  s.mc.params.setpoint.get x ≤ n + s.mc.params.halfWidth ∧ n ≤ s.mc.params.setpoint.get x + s.mc.params.halfWidth

/-- The transport is READY at rest with its outputs and its loops as READY has them (R39, R43, R74). -/
structure ReadyAtRest (s : State) : Prop where
  ready : s.tsq.state = .ready
  brake : s.tsq.brake = false
  pump : s.tsq.vacuum = true
  idle : s.mg.phase = .idle
  running : s.cl.run = true
  looping : ∀ x : Reel, (s.rl.get x).mode = .loop

/-! ## Sense lines -/

/-- R121: line k's sample of these raw inputs. -/
def sampled (k : Fin 12) (raw : BitVec 12) (s : State) : Bool := raw.getLsbD k.val != (s.slu.lines.get k).invert

/-- R121: a tick with these raw inputs accepts a change of line k. -/
abbrev Changes (k : Fin 12) (raw : BitVec 12) (s : State) : Prop :=
  (s.slu.lines.get k).func ≠ .none ∧ sampled k raw s ≠ (s.slu.lines.get k).level ∧
    2 ^ (s.slu.lines.get k).exponent.toNat ≤ (s.slu.lines.get k).timer + 1

/-- R124, R125: at the tick that accepts its change, the line notices. -/
abbrev Notices (l : Line) : Prop :=
  (l.mode = .rising ∧ l.level = false) ∨ (l.mode = .falling ∧ l.level = true) ∨ l.mode = .both ∨
    (l.mode = .high ∧ l.level = false ∧ l.pending = false) ∨ (l.mode = .low ∧ l.level = true ∧ l.pending = false)

/-- R121, R125: a tick with these raw inputs neither changes line k's level nor makes it notice. -/
abbrev Quiet (k : Fin 12) (raw : BitVec 12) (s : State) : Prop :=
  ¬ Changes k raw s ∧
    ((s.slu.lines.get k).func ≠ .none → (s.slu.lines.get k).pending = false →
      ¬ ((s.slu.lines.get k).mode = .high ∧ (s.slu.lines.get k).level = true) ∧
      ¬ ((s.slu.lines.get k).mode = .low ∧ (s.slu.lines.get k).level = false))

/-- Line k alone carries the function f, and its change is all that a tick with these raw inputs brings. -/
structure LineChange (k : Fin 12) (f : Func) (raw : BitVec 12) (s : State) : Prop where
  carries : ∀ j : Fin 12, (s.slu.lines.get j).func = f ↔ j = k
  changes : Changes k raw s
  others : ∀ j : Fin 12, j ≠ k → Quiet j raw s
  due : NothingDue s

/-- R121, R126, R128: line k after its change, and the sense-change set, where `member` stands for its function. -/
def LineFollowed (k : Fin 12) (member : BitVec 10) (s t : State) : Prop :=
  let l := s.slu.lines.get k
  t.slu.lines.get k =
      { l with
        level := !l.level, timer := 0
        pending := decide (Notices l) || l.pending
        carry := if Notices l then .notYet else l.carry } ∧
    t.slu.changeSet = (if Notices l then s.slu.changeSet ||| member else s.slu.changeSet) ∧
    t.slu.request = (decide (Notices l) || s.slu.request)

/-! ## The port -/

/-- R159, R162: the region offsets of the words that a write job protects; a fetch job protects none. -/
def protectedWords : JobKind → List Nat
  | .reportWrite slot _ _ _ => (List.range 4).map fun j => 0x0A00 + 16 * slot.val + 4 * j
  | .snapshotWrite => (List.range 4).map fun j => 0x1210 + 4 * j
  | .orderFetch _ => []
  | .segmentFetch _ => []

/-- R153: the access addresses the word at this offset of the region. -/
abbrev AtOffset (acc : Access) (off : Nat) (s : State) : Prop :=
  acc.addr.toNat / 4 * 4 = s.mc.straps.region.toNat * 0x100000 + off

/-- R162: the access reads a word that the job in progress writes. -/
abbrev ReadsProtected (acc : Access) (s : State) : Prop :=
  acc.write = false ∧ ∃ off ∈ (match s.ma.job with
    | some j => protectedWords j.kind
    | none => []), AtOffset acc off s

/-- The Memory Agent has no word that waits for the arbiter. -/
abbrev NoAgentWord (s : State) : Prop := ∀ j : Job, s.ma.job = some j → j.waiting = false

/-- The address of the word at an offset of the region (R153). -/
def wordAt (s : State) (off : Nat) : BusAddr := BitVec.ofNat 24 (s.mc.straps.region.toNat * 0x100000 + off)

/-- R159: the indices of a job's words in the order it takes them. -/
def wordsInOrder : JobKind → List Nat
  | .reportWrite _ _ _ _ => [1, 2, 3, 0]
  | .snapshotWrite => [1, 2, 3, 0]
  | .orderFetch _ => [0, 1, 2, 3, 4, 5, 6, 7]
  | .segmentFetch _ => [0, 1, 2, 3]

/-- R153: the region offset of word 0 of a job's target. -/
def targetOffset : JobKind → Nat
  | .reportWrite slot _ _ _ => 0x0A00 + 16 * slot.val
  | .snapshotWrite => 0x1210
  | .orderFetch slot => 32 * slot.val
  | .segmentFetch i => 0x0800 + 16 * i.val

/-- R159: a job that writes. -/
def JobKind.isWrite : JobKind → Bool
  | .reportWrite _ _ _ _ => true
  | .snapshotWrite => true
  | .orderFetch _ => false
  | .segmentFetch _ => false

/-- R159: the access of a job's word in progress: a whole word of the target, with the job's data where it writes. -/
def agentAccess (j : Job) (s : State) : Access :=
  let k := (wordsInOrder j.kind).getD j.pos 0
  ⟨wordAt s (targetOffset j.kind + 4 * k), 0xF#4, j.kind.isWrite, if j.kind.isWrite then j.out.getD k 0 else 0⟩

/-- R159: the job has a word in progress. -/
abbrev InProgress (j : Job) : Prop := j.pos < (wordsInOrder j.kind).length

/-- R162: a held read becomes waiting when the job that holds it ends. -/
def releasedU : Option (Access × UPhase) → Option (Access × UPhase)
  | some (acc, .held) => some (acc, .waiting)
  | u => u

/-- R159, R161, R162: between s and t a job of this kind, with these words, begins. Where the M-side is BUSY its first
word waits, and a waiting read of its words is held. Where the M-side is FREE its first word goes there, unless a
U-side access that waits and is not held comes first. -/
structure JobBegins (kind : JobKind) (out : List Word) (s t : State) : Prop where
  busy : s.ptp.mSide ≠ .free → t.ma = ⟨some ⟨kind, 0, true, out, []⟩⟩ ∧
    t.ptp = { s.ptp with
      u := match s.ptp.u with
        | some (acc, .waiting) => some (acc, if ReadsProtected acc t then .held else .waiting)
        | u => u }
  alone : s.ptp.mSide = .free → (∀ acc : Access, s.ptp.u = some (acc, .waiting) → ReadsProtected acc t) →
    t.ma = ⟨some ⟨kind, 0, false, out, []⟩⟩ ∧
      t.ptp = { s.ptp with
        u := match s.ptp.u with
          | some (acc, .waiting) => some (acc, .held)
          | u => u
        mSide := .agent (agentAccess ⟨kind, 0, false, out, []⟩ s) s.mc.params.memTimeout, guard := 0 }
  passed : ∀ acc : Access, s.ptp.mSide = .free → s.ptp.u = some (acc, .waiting) → ¬ ReadsProtected acc t →
    s.ptp.guard < 4 → t.ma = ⟨some ⟨kind, 0, true, out, []⟩⟩ ∧
      t.ptp = { s.ptp with
        u := some (acc, .granted), mSide := .forwarded acc s.mc.params.memTimeout, guard := s.ptp.guard + 1 }
  guarded : ∀ acc : Access, s.ptp.mSide = .free → s.ptp.u = some (acc, .waiting) → ¬ ReadsProtected acc t →
    4 ≤ s.ptp.guard → t.ma = ⟨some ⟨kind, 0, false, out, []⟩⟩ ∧
      t.ptp = { s.ptp with
        mSide := .agent (agentAccess ⟨kind, 0, false, out, []⟩ s) s.mc.params.memTimeout, guard := 0 }

/-- R160: a REPORT WRITE is ready: a report is pending and the ring has room. -/
abbrev ReportReady (s : State) : Prop := s.ru.pendingReports ≠ [] ∧ (s.ru.writeIdx - s.ru.readIdx).toNat < 128

/-- R160: an ORDER FETCH is ready. -/
abbrev OrderReady (s : State) : Prop := ∃ j : Fin 64, s.oi.fetch = .ordered j

/-- R160: a SEGMENT FETCH is ready. -/
abbrev SegmentReady (s : State) : Prop := s.sc.fetchList ≠ [] ∧ s.sc.inFlight = none

/-- R160, R161: what a step answers whose job has ended in s, its owner told, the agent IDLE and the M-side FREE: it
answers as the start of the first ready job does in s. Where none is ready, a waiting U-side access is granted. -/
structure ThenChooses (answer : Host.Outcome State Fault Refusal) (s : State) : Prop where
  completes : ∃ t : State, answer = .next t
  report : ReportReady s → answer = exec .reportWriteStart s
  order : ¬ ReportReady s → OrderReady s → answer = exec .orderFetchStart s
  segment : ¬ ReportReady s → ¬ OrderReady s → SegmentReady s → answer = exec .segmentFetchStart s
  snapshot : ¬ ReportReady s → ¬ OrderReady s → ¬ SegmentReady s → s.ru.snapDue = true →
    answer = exec .snapshotWriteStart s
  none : ¬ ReportReady s → ¬ OrderReady s → ¬ SegmentReady s → s.ru.snapDue = false →
    answer = .next { s with
      ptp := match s.ptp.u with
        | some (acc, .waiting) =>
          { s.ptp with u := some (acc, .granted), mSide := .forwarded acc s.mc.params.memTimeout }
        | _ => s.ptp }

/-- R153: the command that is the end of this write's access, by the word it addresses. -/
inductive EndsWrite (acc : Access) (answered : Bool) (s : State) : Instr → Prop where
  | slotWord (j : Fin 64) (k : Fin 7) (at_ : AtOffset acc (32 * j.val + 4 * k.val) s) :
    EndsWrite acc answered s (.orderSlotWordWrite j k acc.be acc.data answered)
  | postWord (j : Fin 64) (at_ : AtOffset acc (32 * j.val + 28) s) :
    EndsWrite acc answered s (.orderPostWordWrite j acc.be acc.data answered)
  | segmentWord (i : Fin 32) (k : Fin 3) (at_ : AtOffset acc (0x0800 + 16 * i.val + 4 * k.val) s) :
    EndsWrite acc answered s (.segmentWordWrite i k acc.be acc.data answered)
  | segmentClosing (i : Fin 32) (at_ : AtOffset acc (0x0800 + 16 * i.val + 12) s) :
    EndsWrite acc answered s (.segmentClosingWrite i acc.be acc.data answered)
  | release (at_ : AtOffset acc 0x1200 s) (whole : acc.be = 0xF#4) :
    EndsWrite acc answered s (.releaseWord acc.data answered)
  | stop (at_ : AtOffset acc 0x1204 s) (whole : acc.be = 0xF#4) :
    EndsWrite acc answered s (.stopWord acc.data answered)

/-- R152: the U-side access has completed with this answer, and the M-side is FREE. -/
def completedU (busError : Bool) (data : Option Word) (s : State) : State :=
  { s with ptp := { s.ptp with u := none, uDone := some ⟨busError, data⟩, mSide := .free } }

/-- R160: the job of this name can start: the agent is IDLE and the job is ready. -/
abbrev CanStart (k : AgentJob) (s : State) : Prop :=
  s.ma.job = none ∧ (k = .reportWrite → ReportReady s) ∧ (k = .orderFetch → OrderReady s) ∧
    (k = .segmentFetch → SegmentReady s) ∧ (k = .snapshotWrite → s.ru.snapDue = true)

/-- The command that starts the job of this name. -/
def startCommand : AgentJob → Instr
  | .reportWrite => .reportWriteStart
  | .orderFetch => .orderFetchStart
  | .segmentFetch => .segmentFetchStart
  | .snapshotWrite => .snapshotWriteStart

/-- R161: a start that comes now is one that comes at the moment at which the write on the M-side ends: the agent is
IDLE, a write is on the M-side, and the access presented at that moment is known (log entry 5). -/
abbrev KeepsStarts (s : State) : Prop :=
  s.ma.job = none ∧ s.ptp.coming ≠ none ∧ (match s.ptp.mSide with
    | .forwarded acc _ => acc.write
    | _ => false) = true

/-- R161, R162: what a step answers whose forwarded write has ended in s, with the M-side FREE and the access that was
presented at that moment waiting or held. Where a start was kept for that moment and its job can start, the step answers
as that start does in s, where the job's first word competes with the access. Otherwise the grant is made first. -/
structure ThenGrants (answer : Host.Outcome State Fault Refusal) (start : Option AgentJob) (s : State) : Prop where
  completes : ∃ t : State, answer = .next t
  startFirst : ∀ k : AgentJob, start = some k → CanStart k s → answer = exec (startCommand k) s
  alone : (∀ k : AgentJob, start = some k → ¬ CanStart k s) → NoAgentWord s →
    answer = .next { s with
      ptp := match s.ptp.u with
        | some (acc, .waiting) =>
          { s.ptp with u := some (acc, .granted), mSide := .forwarded acc s.mc.params.memTimeout }
        | _ => s.ptp }
  passed : ∀ (acc : Access) (j : Job), s.ma.job = some j → j.waiting = true → s.ptp.u = some (acc, .waiting) →
    s.ptp.guard < 4 →
    answer = .next { s with ptp := { s.ptp with
      u := some (acc, .granted), mSide := .forwarded acc s.mc.params.memTimeout, guard := s.ptp.guard + 1 } }
  yields : ∀ j : Job, s.ma.job = some j → j.waiting = true → InProgress j →
    (∀ acc : Access, s.ptp.u = some (acc, .waiting) → 4 ≤ s.ptp.guard) →
    answer = .next { s with
      ptp := { s.ptp with mSide := .agent (agentAccess j s) s.mc.params.memTimeout, guard := 0 }
      ma := ⟨some { j with waiting := false }⟩ }

/-- R152: the access presented at the moment of a write's completion has been taken: it waits, or is held (R162). A
start kept for that moment is no longer kept (log entry 5). -/
def presented (acc : Access) (s : State) : State :=
  { s with ptp := { s.ptp with
    u := some (acc, if ReadsProtected acc s then .held else .waiting), coming := none, starting := none } }

/-- R154: a write of a record's word leaves these OPEN buffers. -/
def Assembled (target : Target) (k : Fin 8) (be : ByteEnables) (data : Word) (answered : Bool) (s t : State) : Prop :=
  let clean := decide (be = 0xF#4) && answered
  let fresh : Assembly :=
    ⟨target, (Vector.replicate 8 none).set k.val (some data) k.isLt, decide (k = 0), !clean⟩
  t.ptp.bufs =
    if ∃ a ∈ s.ptp.bufs, a.target = target then
      s.ptp.bufs.map fun a =>
        if a.target = target then
          { a with words := a.words.set k.val (some data) k.isLt, torn := a.torn || !clean }
        else a
    else if s.ptp.bufs.length < 2 then s.ptp.bufs ++ [fresh]
    else s.ptp.bufs.drop 1 ++ [fresh]

/-- R157: with its closing word the OPEN buffer holds a whole record. -/
structure Completed (a : Assembly) (target : Target) (words : List Word) (s : State) : Prop where
  is : s.ptp.bufs.find? (fun b => b.target = target) = some a
  byWord0 : a.byWord0 = true
  clean : a.torn = false
  holds : a.words.toList.take words.length = words.map some

/-- The OPEN buffers that are not the target's. -/
def buffersBut (target : Target) (s : State) : List Assembly := s.ptp.bufs.filter fun a => a.target ≠ target

/-- R57: the copy that the words of a segment entry give. -/
def copyOf (w0 w1 w2 w3 : Word) : Segment where
  reverse := w3.getLsbD 0
  distance := w0.toNat % 16777216
  vmax := max 1 (w1.toNat % 128)
  accel := max 1 (w1.toNat / 256 % 16)
  next := Fin.ofNat 32 (w1.toNat / 65536)
  last := w3.getLsbD 1
  flow := w3.getLsbD 2
  write := w3.getLsbD 3
  approach := w2.toNat % 65536
  adjusted := decide (w1.toNat % 128 = 0) || decide (w1.toNat / 256 % 16 = 0)

/-- R174: the ring holds an unreleased report of a class in this mask. -/
abbrev MaskedReport (urgent routine : Bool) (u : Ru) : Prop :=
  ∃ n : Fin 256, n.val < (u.writeIdx - u.readIdx).toNat ∧
    (u.slots.get (slotOf (u.readIdx + BitVec.ofNat 8 n.val))).any (fun r => if r.urgent then urgent else routine) = true

/-- R145 to R147: the number of records and ready flags that a flush discards. -/
def discarded (queue : List Record) (ready : BitVec 64) : Nat :=
  queue.length + ((List.finRange 64).filter fun j => ready.getLsbD j.val).length

/-! ## Setup records -/

/-- A number held within a range (R183). -/
def held (lo hi n : Nat) : Nat := max lo (min hi n)

/-- R182, R183: the setup record of this code number was applied with these parameters, and COMPLETE CLAMPED where
they differ from the values as written. -/
def AppliedSetup (number : Nat) (written p : Params) (seq : Byte) (s t : State) : Prop :=
  Taken seq s t ∧ SameTransport s t ∧ SameBus s t ∧ t.slu = s.slu ∧ t.freeCount = s.freeCount ∧
    t.inputs = s.inputs ∧ t.mc = { s.mc with params := p } ∧
    Reports s t [⟨.setupApplied, if p = written then 0 else 1, number, some seq, s.tsq.state⟩]

/-! ## Power-on values -/

/-- What every block holds after power-on and line reset, by the reset tables of the chapters (R19, R38, R56, R72,
R103, R119, R133, R151, R166, R178, R190), with the tachometer levels of the moment. -/
structure ResetValues (levels : TachLevels) (t : State) : Prop where
  counts : t.mu.periodCount = 0 ∧ t.mu.accum = 0 ∧ t.mu.m = 0 ∧ t.mu.lastForward = true ∧ t.mu.p = 0 ∧
    t.mu.notices = [] ∧ t.mu.eot = none
  references : t.mu.capRef = levels.capstan ∧ t.mu.reelRef = levels.reels
  reels : ∀ x : Reel, t.mu.silence.get x = 0 ∧ (t.mu.est.get x).tally = 0 ∧ (t.mu.est.get x).sum = 0 ∧
    (t.mu.est.get x).circ = none
  samples : t.mu.pair = none ∧ t.mu.missCount = 0 ∧ t.mu.arrival = false ∧ t.mu.lossReported = false ∧
    t.mu.frame = .idle
  generator : t.mg.phase = .idle ∧ t.mg.vt = 0 ∧ t.mg.prevVt = 0 ∧ t.mg.delta = 0 ∧ t.mg.motion = none ∧ t.mg.v = 0 ∧
    t.mg.d = 0 ∧ t.mg.l = 0 ∧ t.mg.r = 0 ∧ t.mg.w = 0 ∧ t.mg.q = 0 ∧ t.mg.lookAhead = none
  marks : t.mg.stopped = false ∧ t.mg.clamped = false ∧ t.mg.overrun = none ∧ t.mg.pendStops = [] ∧
    t.mg.pendMarkStop = false ∧ t.mg.pendReaim = none ∧ t.mg.pendHalt = false ∧ t.mg.reduction = none ∧
    t.mg.satRun = 0 ∧ t.mg.settle = ⟨0, 0, 0⟩
  loops : t.cl = ⟨false, 0, 0, .none⟩ ∧ ∀ x : Reel, t.rl.get x = ⟨.off, 0, 0, .none, false⟩
  cache : (∀ i : Fin 32, t.sc.entries.get i = .invalid) ∧ t.sc.fetchList = [] ∧ t.sc.inFlight = none
  walker : t.wk.active = false ∧ t.wk.current = none ∧ t.wk.awaited = none ∧ t.wk.inUse = [] ∧ t.wk.visits = 0 ∧
    t.wk.g = 0 ∧ t.wk.approachDone = false ∧ t.wk.chainLimit = false ∧ t.wk.adjusted = false
  transport : t.tsq = ⟨.unloaded, true, false, false, false, none, 0, false⟩
  faults : t.fm.first = none ∧ t.fm.later = [] ∧ t.fm.further = 0 ∧ t.fm.haltWait = none ∧ t.fm.runaway = 0 ∧
    t.fm.doorCond = false ∧ t.fm.highRun = ⟨0, 0⟩ ∧ t.fm.vacTimer = 0
  lines : (∀ k : Fin 12, t.slu.lines.get k = ⟨.none, .rising, false, 0, false, 0, false, .none⟩) ∧
    t.slu.changeSet = 0 ∧ t.slu.request = false
  intake : t.oi = ⟨0, 0, [], .none⟩
  agent : t.ptp.bufs = [] ∧ t.ptp.guard = 0 ∧ t.ma.job = none
  ring : t.ru.pendingReports = [] ∧ t.ru.writeIdx = 0 ∧ t.ru.readIdx = 0 ∧ t.ru.nextSeq = 0 ∧ t.ru.loss = 0 ∧
    ∀ k : Fin 128, t.ru.slots.get k = none
  lineAndSnapshot : t.ru.attention = false ∧ t.ru.snapDue = false ∧ t.ru.snapCounter = 0 ∧ t.ru.snapCount = 0
  mode : t.mc.mode = .initialising
  gains : (∀ x : Reel, t.mc.params.gains.get x = ⟨6000, 60, 40, 16⟩) ∧ t.mc.params.kcf = 80 ∧ t.mc.params.kcp = 40 ∧
    t.mc.params.kci = 8
  columns : (∀ x : Reel, t.mc.params.setpoint.get x = 512) ∧ t.mc.params.halfWidth = 96 ∧
    t.mc.params.fillDrive = 300 ∧ t.mc.params.unloadDrive = 250 ∧ t.mc.params.defaultCirc = 11000
  speeds : t.mc.params.normalSpeed = 25 ∧ t.mc.params.searchSpeed = 4 ∧ t.mc.params.rewindSpeed = 62 ∧
    t.mc.params.globalLimit = 62 ∧ t.mc.params.accel = 4 ∧ t.mc.params.emergencyAccel = 8 ∧ t.mc.params.creep = 1
  limits : t.mc.params.searchLimit = 600000 ∧ t.mc.params.botMargin = 1500 ∧ t.mc.params.eotOverrun = 4000 ∧
    t.mc.params.loadOffset = 3000 ∧ t.mc.params.settleWindow = 4 ∧ t.mc.params.settleCount = 4 ∧
    t.mc.params.settleTimeout = 200 ∧ t.mc.params.loadTimeout = 4 ∧ t.mc.params.unloadTime = 8 ∧
    t.mc.params.vacuumSettle = 500 ∧ t.mc.params.stallThreshold = 512 ∧ t.mc.params.stallTime = 800 ∧
    t.mc.params.runawayLimit = 16 ∧ t.mc.params.memTimeout = 32
  reporting : t.mc.params.mask = ⟨true, true, true, true, true⟩ ∧ t.mc.params.attnPulse = t.mc.straps.attnDefault ∧
    t.mc.params.attnUrgent = true ∧ t.mc.params.attnRoutine = true ∧ t.mc.params.snapInterval = 40

/-! ## A column sample frame (R16) -/

/-- The ten bits of a sample, most significant first. -/
def sampleBits (a : BitVec 10) : List Bool := (List.range 10).map fun k => a.getLsbD (9 - k)

/-- The frame that carries a pair: both samples and the parity bit that makes the number of ones even. -/
def frameBits (p : PerReel (BitVec 10)) : List Bool :=
  let l := sampleBits p.s ++ sampleBits p.t
  l ++ [decide ((l.filter id).length % 2 = 1)]

/-! ## The laws of the part -/

/-- Section 11.5, R185: every parameter lies in its range, and both bands lie within 0..1023. -/
structure ParameterLaw (p : Params) : Prop where
  reelGains : ∀ x : Reel, (p.gains.get x).kff ≤ 8191 ∧ (p.gains.get x).ka ≤ 255 ∧ (p.gains.get x).kp ≤ 255 ∧
    (p.gains.get x).ki ≤ 255
  capstanGains : p.kcf ≤ 255 ∧ p.kcp ≤ 255 ∧ p.kci ≤ 255
  setpoints : ∀ x : Reel, 128 ≤ p.setpoint.get x ∧ p.setpoint.get x ≤ 896
  halfWidth : 16 ≤ p.halfWidth ∧ p.halfWidth ≤ 255
  bands : ∀ x : Reel, p.halfWidth ≤ p.setpoint.get x ∧ p.setpoint.get x + p.halfWidth ≤ 1023
  drives : p.fillDrive ≤ 1023 ∧ p.unloadDrive ≤ 1023
  speeds : 1 ≤ p.normalSpeed ∧ p.normalSpeed ≤ 127 ∧ 1 ≤ p.searchSpeed ∧ p.searchSpeed ≤ 127 ∧ 1 ≤ p.rewindSpeed ∧
    p.rewindSpeed ≤ 127 ∧ 1 ≤ p.globalLimit ∧ p.globalLimit ≤ 127
  accelerations : 1 ≤ p.accel ∧ p.accel ≤ 15 ∧ 1 ≤ p.emergencyAccel ∧ p.emergencyAccel ≤ 31 ∧ 1 ≤ p.creep ∧
    p.creep ≤ 8
  distances : 1000 ≤ p.searchLimit ∧ p.searchLimit ≤ 16000000 ∧ p.botMargin ≤ 65535 ∧ p.eotOverrun ≤ 65535 ∧
    p.loadOffset ≤ 65535
  settling : p.settleWindow ≤ 63 ∧ 1 ≤ p.settleCount ∧ p.settleCount ≤ 15 ∧ 8 ≤ p.settleTimeout ∧
    p.settleTimeout ≤ 2000
  times : 1 ≤ p.loadTimeout ∧ p.loadTimeout ≤ 15 ∧ 1 ≤ p.unloadTime ∧ p.unloadTime ≤ 30 ∧ 50 ≤ p.vacuumSettle ∧
    p.vacuumSettle ≤ 2000 ∧ 8 ≤ p.memTimeout ∧ p.memTimeout ≤ 255
  faults : 1 ≤ p.stallThreshold ∧ p.stallThreshold ≤ 2047 ∧ 8 ≤ p.stallTime ∧ p.stallTime ≤ 65535 ∧
    1 ≤ p.runawayLimit ∧ p.runawayLimit ≤ 255
  circumference : 6000 ≤ p.defaultCirc ∧ p.defaultCirc ≤ 17000
  interval : p.snapInterval ≤ 255

/-- R23: no speed exceeds 127, with the parameters in their ranges. -/
structure SpeedLaw (s : State) : Prop where
  params : ParameterLaw s.mc.params
  inHand : s.mg.v ≤ 127
  target : s.mg.vt.natAbs ≤ 127
  previous : s.mg.prevVt.natAbs ≤ 127

/-- R24, as the generator keeps it: in RUN the remaining distance is L - D and not negative, and a boundary that may
be passed has its look-ahead copy and a visit left to count; in RAMP, L - D covers the stopping distance of the
speed in hand, which in RUN is never above the magnitude of v_t (R33); in every other phase all that was commanded has
been given. Wherever the chain may still be asked for a next
segment, a visit is left (R70). -/
structure DistanceLaw (s : State) : Prop where
  params : ParameterLaw s.mc.params
  visits : s.wk.visits ≤ 32
  run : s.mg.phase = .run → s.mg.r = s.mg.l - s.mg.d ∧ 0 ≤ s.mg.r ∧
    (0 < s.mg.w → s.mg.lookAhead.isSome = true ∧ s.wk.visits < 32)
  speed : s.mg.phase = .run → s.mg.v ≤ s.mg.vt.natAbs
  ramp : s.mg.phase = .ramp → (brakingDistance s.mg.accel 0 s.mg.v : Int) ≤ s.mg.l - s.mg.d ∧ 1 ≤ s.mg.accel
  rest : s.mg.phase ≠ .run → s.mg.phase ≠ .ramp → s.mg.l = s.mg.d
  visitLeft : (s.mg.phase = .run ∧ s.mg.finalStop = false) ∨ (s.mg.phase = .hold ∧ s.mg.chainEnd = none) ∨
    s.mg.phase = .settle true → s.wk.visits < 32
  missed : s.mg.overrun.isSome = true → s.mg.phase = .run ∧ s.mg.w = 0 ∧
    (s.mg.overrun.any Overrun.boundary = true → s.mg.stopped = false → s.wk.visits < 32)

/-- Chapter 1: the ranges of the measurements. -/
structure MeasurementLaw (u : Mu) : Prop where
  position : -33554432 ≤ u.p ∧ u.p ≤ 33554431
  speed : -255 ≤ u.m ∧ u.m ≤ 255
  notices : u.notices.length ≤ 4
  silence : ∀ x : Reel, u.silence.get x ≤ 65535
  tally : ∀ x : Reel, (u.est.get x).tally < 64
  sum : ∀ x : Reel, -65535 ≤ (u.est.get x).sum ∧ (u.est.get x).sum ≤ 65535
  circumference : ∀ (x : Reel) (c : Nat), (u.est.get x).circ = some c → 6000 ≤ c ∧ c ≤ 17000
  misses : u.missCount ≤ 255

/-- R136, with what keeps it: a fetch that is ordered or in flight and not cancelled is of the expected slot, and
the queue has room for its record (R139). -/
structure IntakeLaw (s : State) : Prop where
  room : s.oi.queue.length ≤ 8
  ordered : ∀ j : Fin 64, s.oi.fetch = .ordered j → j = expectedSlot s ∧ s.oi.queue.length < 8
  inFlight : ∀ (j : Fin 64) (reseen : Bool), s.oi.fetch = .inFlight j reseen false →
    j = expectedSlot s ∧ s.oi.queue.length < 8

/-- R169, R171, section 12.5: the pending list holds at most 4 reports, the ring at most 128 unreleased ones (127
while one is under write), and the write index is the next report sequence modulo 256. -/
structure RingLaw (s : State) : Prop where
  pending : s.ru.pendingReports.length ≤ 4
  unreleased : (s.ru.writeIdx - s.ru.readIdx).toNat ≤ (if reportUnderWrite s = true then 127 else 128)
  index : s.ru.writeIdx = s.ru.nextSeq.setWidth 8
  loss : s.ru.loss ≤ 255

/-- R39, R43, R53, R54, R74: in UNLOADED the brake is on and the vacuum off; each loop is in the mode its state and
the outputs call for; a loop in OFF has drive, integrator and record at 0; every drive is within its range, and at the
end of it that a saturation record names (R41, R47). -/
structure OutputLaw (s : State) : Prop where
  params : ParameterLaw s.mc.params
  unloaded : s.tsq.state = .unloaded → s.tsq.brake = true ∧ s.tsq.vacuum = false
  capstan : s.cl.run = capstanToRun s
  capstanOff : s.cl.run = false → s.cl.dc = 0 ∧ s.cl.ic = 0 ∧ s.cl.sat = .none
  reel : ∀ x : Reel, (s.rl.get x).mode = reelModeFor x s
  reelOff : ∀ x : Reel, (s.rl.get x).mode = .off → (s.rl.get x).d = 0 ∧ (s.rl.get x).a = 0 ∧ (s.rl.get x).sat = .none
  capstanDrive : -2047 ≤ s.cl.dc ∧ s.cl.dc ≤ 2047
  reelDrive : ∀ x : Reel, -2047 ≤ (s.rl.get x).d ∧ (s.rl.get x).d ≤ 2047
  capstanRecord : (s.cl.sat = .positive → s.cl.dc = 2047) ∧ (s.cl.sat = .negative → s.cl.dc = -2047)
  reelRecord : ∀ x : Reel, ((s.rl.get x).sat ≠ .none → (s.rl.get x).mode = .loop) ∧
    ((s.rl.get x).sat = .positive → (s.rl.get x).d = 2047) ∧ ((s.rl.get x).sat = .negative → (s.rl.get x).d = -2047)

/-- Section 6.4, R75: the fault record is not empty exactly in HALTING and FAULT, and no order is in hand in
HALTING, FAULT, READY or UNLOADED. -/
structure FaultLaw (s : State) : Prop where
  first : s.fm.first ≠ none ↔ s.tsq.state = .halting ∨ s.tsq.state = .fault
  later : s.fm.first = none → s.fm.later = [] ∧ s.fm.further = 0
  bound : s.fm.later.length ≤ 3 ∧ s.fm.further ≤ 255
  noHand : s.tsq.state = .halting ∨ s.tsq.state = .fault ∨ s.tsq.state = .ready ∨ s.tsq.state = .unloaded →
    s.tsq.inHand = none

/-- R84: WRITE ENABLE is asserted only while a RUN CHAIN with write intent executes a forward write-marked segment
and WRITE RING reads present. -/
def WriteEnableLaw (s : State) : Prop :=
  s.tsq.writeEnable = true →
    level .writeRing s = true ∧
    (∃ h : InHand, s.tsq.inHand = some h ∧ h.code = .runChain ∧ h.fields.writeIntent = true ∧ h.stopping = false) ∧
    ∃ (k : Fin 32) (seg : Segment), s.wk.current = some (k, seg) ∧ seg.reverse = false ∧ seg.write = true

end Sys2Proof.Machine
end

