-- ==== Sys2Proof/Certificates/Slice0/Obligations.lean ====
section
/-! DEFINITION. The statements about the part, for the provers. OBLIGATIONS.json says of each which rules it states
and which choices of the model it rests on. -/

section

open Sys2Proof Sys2Proof.Machine

/-! ## The machine -/

/-- A step runs the command at the front of the queue with the queue's rest; on an empty queue the part idles (log
entry 1). -/
def Obligations.StepRunsTheFrontCommand : Prop :=
  (∀ (c : Instr) (rest : List Instr) (s : State), s.pending = c :: rest → step s = exec c { s with pending := rest }) ∧
  ∀ s : State, s.pending = [] → step s = .next s

/-- Every command, in every state, answers a next state, and its effect leaves the queue of commands as it is. -/
def Obligations.EveryCommandAnswersNext : Prop :=
  ∀ (c : Instr) (s : State), ∃ t, exec c s = .next t ∧ t.pending = s.pending

/-- State.reset holds the values that the reset tables give; every tachometer level is low there (log entry 6). -/
def Obligations.ResetHoldsSpecValues : Prop :=
  ResetValues ⟨⟨false, false⟩, ⟨⟨false, false⟩, ⟨false, false⟩⟩⟩ State.reset ∧ State.reset.pending = [] ∧
    transportReady State.reset = false

/-- The laws of the part hold right after reset. -/
def Obligations.LawsHoldAtReset : Prop :=
  ParameterLaw State.reset.mc.params ∧ SpeedLaw State.reset ∧ DistanceLaw State.reset ∧
    MeasurementLaw State.reset.mu ∧ IntakeLaw State.reset ∧ RingLaw State.reset ∧ OutputLaw State.reset ∧
    FaultLaw State.reset ∧ WriteEnableLaw State.reset

/-! ## The laws of the part, kept by every step -/

/-- R183, R185, section 11.5. -/
def Obligations.ParametersStayInRange : Prop :=
  ∀ s t : State, ParameterLaw s.mc.params → step s = .next t → ParameterLaw t.mc.params

/-- R23: no speed in hand and no target exceeds 127. -/
def Obligations.SpeedsStayWithin127 : Prop := ∀ s t : State, SpeedLaw s → step s = .next t → SpeedLaw t

/-- R24: D never exceeds L. -/
def Obligations.DistanceNeverExceedsLimit : Prop := ∀ s t : State, DistanceLaw s → step s = .next t → DistanceLaw t

/-- R3, R5, R6, R8, R13, R14, R18. -/
def Obligations.MeasurementsStayInRange : Prop :=
  ∀ s t : State, MeasurementLaw s.mu → step s = .next t → MeasurementLaw t.mu

/-- R136: the order queue holds at most 8 records. -/
def Obligations.QueueNeverHoldsMoreThanEight : Prop := ∀ s t : State, IntakeLaw s → step s = .next t → IntakeLaw t

/-- R169, R171: at most 4 pending reports, at most 128 unreleased ones. -/
def Obligations.RingNeverOverflows : Prop := ∀ s t : State, RingLaw s → step s = .next t → RingLaw t

/-- R39, R43, R53, R54, R74: the outputs and the loops follow the transport state. -/
def Obligations.OutputsFollowState : Prop := ∀ s t : State, OutputLaw s → step s = .next t → OutputLaw t

/-- R112, R75: the fault record is not empty exactly in HALTING and FAULT. -/
def Obligations.FaultRecordFollowsState : Prop := ∀ s t : State, FaultLaw s → step s = .next t → FaultLaw t

/-- R84: WRITE ENABLE is asserted only while a RUN CHAIN with write intent executes a forward write-marked segment
with the ring present. -/
def Obligations.WriteEnableOnlyWhileWriting : Prop :=
  ∀ s t : State, WriteEnableLaw s → step s = .next t → WriteEnableLaw t

/-! ## Resets and start-up -/

/-- POWER_ON_RESET, LINE_RESET, RESET_RELEASE and INITIALISATION_END (R180, R181, R166, R165). That a release with
RESET not asserted, and an end of an interval that does not run, have no effect is the model's reading (log entries
2, 34). -/
def Obligations.ResetsAndStartUp : Prop :=
  (∀ (s : State) (straps : Straps) (levels : TachLevels),
    ∃ t, exec (.powerOnReset straps levels) s = .next t ∧ ResetValues levels t ∧ t.mc.straps = straps ∧
      t.mc.resetAsserted = false ∧ t.mc.initRunning = true ∧ t.ptp.u = none ∧ t.ptp.mSide = .free ∧
      transportReady t = false ∧ t.pending = s.pending) ∧
  (∀ (s : State) (levels : TachLevels),
    ∃ t, exec (.lineReset levels) s = .next t ∧ ResetValues levels t ∧ t.mc.straps = s.mc.straps ∧
      t.mc.resetAsserted = true ∧ t.mc.initRunning = false ∧ transportReady t = false ∧ t.pending = s.pending) ∧
  (∀ (s : State) (levels : TachLevels) (acc : Access) (n : Nat), s.ptp.mSide = .agent acc n →
    ∃ t, exec (.lineReset levels) s = .next t ∧ t.ptp.mSide = .orphan acc n) ∧
  (∀ (s : State) (levels : TachLevels) (acc : Access) (n : Nat), s.ptp.mSide = .forwarded acc n →
    ∃ t, exec (.lineReset levels) s = .next t ∧ t.ptp.mSide = .forwarded acc n) ∧
  (∀ (s : State) (levels : TachLevels) (acc : Access), s.ptp.mSide ≠ .free → s.ptp.u = some (acc, .held) →
    ∃ t, exec (.lineReset levels) s = .next t ∧ t.ptp.u = some (acc, .waiting)) ∧
  (∀ s : State, s.mc.resetAsserted = true →
    exec .resetRelease s = .next { s with mc := { s.mc with resetAsserted := false, initRunning := true } }) ∧
  (∀ s : State, s.mc.resetAsserted = false → exec .resetRelease s = .next s) ∧
  (∀ (s : State) (active : Bool), s.mc.mode = .initialising → s.mc.initRunning = true →
    ∃ t, exec (.initialisationEnd active) s = .next t ∧
      t = { s with
        mc := { s.mc with mode := if s.mc.straps.setupSkip then .run else .setup, initRunning := false }
        ru := { s.ru with snapDue := true }
        mu := { s.mu with frame := if active then .passing else .idle } } ∧
      transportReady t = true) ∧
  (∀ (s : State) (active : Bool), s.mc.mode ≠ .initialising ∨ s.mc.initRunning = false →
    exec (.initialisationEnd active) s = .next s)

/-! ## The period expiry -/

/-- PERIOD_EXPIRY and SNAPSHOT_INTERVAL in every state (R1, R3, R16, R18, R176): what the Measurement Unit hands on,
and the snapshot that becomes due. In READY at rest: a mark crossing is resolved and reported (R9, R10), and the
sense-change set is reported, or emptied where the mask stops the report (R128). -/
def Obligations.ExpiryMeasuresAndCounts : Prop :=
  (∀ (s : State) (o : ExpiryOrder), watching s = true →
    ∃ t, exec (.periodExpiry o) s = .next t ∧ t.mu.periodCount = s.mu.periodCount + 1 ∧ t.mu.m = newM s ∧
      t.mu.accum = 0 ∧ t.mu.lastForward = newDirection s ∧ t.mu.notices = [] ∧ t.mu.arrival = false ∧
      t.mu.convert = true) ∧
  (∀ (s : State) (o : ExpiryOrder), watching s = true → s.mc.params.snapInterval ≠ 0 →
    s.mc.params.snapInterval ≤ s.ru.snapCounter + 1 →
    ∃ t, exec (.snapshotInterval o) s = .next t ∧ exec (.periodExpiry o) s = .next t ∧ t.ru.snapDue = true ∧
      t.ru.snapCounter = 0) ∧
  (∀ (s : State) (o : ExpiryOrder), watching s = false → exec (.periodExpiry o) s = .next s) ∧
  (∀ (s : State) (o : ExpiryOrder) (mark : Mark) (pos : Int),
    Resting { s with mu := { s.mu with notices := [] } } → s.mu.notices = [⟨mark, pos⟩] → Unfaulted s →
    s.mu.arrival = true → s.mc.params.mask.markCrossed = true →
    ∃ t, exec (.periodExpiry o) s = .next t ∧
      t.mu = { measuredMu s with
        notices := []
        eot := match mark with
          | .bot => s.mu.eot
          | .eot => some ⟨.eot, newDirection s, pos⟩ } ∧
      Reports s t [⟨.markCrossed, (match mark with
          | .bot => 1
          | .eot => 3) + (if newDirection s then 0 else 1), pos, none, .ready⟩] ∧
      t.mg.vt = 0 ∧ t.mg.phase = .idle ∧ t.tsq = s.tsq ∧ t.fm.first = none ∧ t.rl = s.rl ∧ t.sc = s.sc ∧ t.wk = s.wk ∧
      t.oi = s.oi ∧ SameSurroundings s t ∧ SnapshotByExpiry s t) ∧
  (∀ (s : State) (o : ExpiryOrder), Resting { s with slu := { s.slu with request := false } } → s.slu.request = true →
    Unfaulted s → s.mu.arrival = true →
    ∃ t, exec (.periodExpiry o) s = .next t ∧
      t.slu = { s.slu with changeSet := 0, request := false, lines := t.slu.lines } ∧
      (∀ k : Fin 12, t.slu.lines.get k =
        if (s.slu.lines.get k).carry = .notYet then
          if s.mc.params.mask.senseChange then { s.slu.lines.get k with carry := .report s.ru.nextId }
          else { s.slu.lines.get k with pending := false, carry := .none }
        else s.slu.lines.get k) ∧
      (s.mc.params.mask.senseChange = true →
        ∃ levels : Nat, levels < 1024 ∧
          (∀ f : Func, f ≠ .none → levels.testBit (f.number - 1) = level f s) ∧
          Reports s t [⟨.senseChange, levels, s.slu.changeSet.toNat, none, .ready⟩]) ∧
      (s.mc.params.mask.senseChange = false → t.ru.pendingReports = s.ru.pendingReports) ∧
      t.mu = measuredMu s ∧ t.tsq = s.tsq ∧ t.fm.first = none ∧ t.rl = s.rl ∧ t.sc = s.sc ∧ t.wk = s.wk ∧ t.oi = s.oi ∧
      SameBus s t ∧ t.mc = s.mc ∧ SnapshotByExpiry s t)

/-- PERIOD_EXPIRY with the transport READY and nothing to find (R20, R40, R41, R109, R110): v_t is 0, the capstan loop
computes from the new m, and all else is kept. -/
def Obligations.RestingExpiryHoldsTheTape : Prop :=
  ∀ (s : State) (o : ExpiryOrder), Resting s → Faultless s → s.mu.arrival = true →
    ∃ t, exec (.periodExpiry o) s = .next t ∧ t.mu = measuredMu s ∧
      t.mg = { s.mg with vt := 0, prevVt := 0, delta := -s.mg.prevVt, satRun := 0 } ∧
      t.cl = capstanAfter s.mc.params s.cl 0 (newM s) ∧ t.rl = s.rl ∧ t.sc = s.sc ∧ t.wk = s.wk ∧ t.tsq = s.tsq ∧
      t.fm.first = none ∧ t.fm.runaway = 0 ∧ t.fm.doorCond = false ∧ (∀ x : Reel, t.fm.highRun.get x = 0) ∧
      t.oi = s.oi ∧ SameSurroundings s t ∧ Reports s t [] ∧ SnapshotByExpiry s t

/-- R22, R20: the braking distance, and the expiry of a SPACE in RUN whose choice is c: the largest of the speeds
that the acceleration and the ceiling allow whose braking distance still fits. Then the other expiries in RUN: one at
which nothing fits begins an overrun (R28; log entry 12); a boundary of a chain is passed into its last segment (R26, R65, R84), and
where the surplus reaches beyond that segment an overrun begins (R28; log entries 13 and 36); the end-of-tape clamp
moves the final stop, or cannot be met (R32); the period of rest at the final stop begins the settle (R27, R35, R36), and
so does an overrun of the surplus, beyond an empty last segment too (R68), whose speed one period takes to 0 (R28). -/
def Obligations.RunCommitsTheFittingSpeed : Prop :=
  (∀ a w c : Nat, 1 ≤ a →
    brakingDistance a w c = if c ≤ w + a then 0 else (c - a) + brakingDistance a w (c - a)) ∧
  (∀ (s : State) (o : ExpiryOrder) (m : Motion) (c : Nat), Undisturbed s → NothingDue s → Faultless s →
    s.mu.arrival = true → s.tsq.state = .moving → s.mg.phase = .run → s.mg.motion = some m → s.mg.w = 0 →
    s.mu.eot = none → s.wk.active = false → s.fm.first = none → satFlag .s s = false → satFlag .t s = false →
    1 ≤ c → s.mg.v ≤ c + s.mg.accel → c ≤ s.mg.v + s.mg.accel → c ≤ m.ceiling → c ≤ s.mc.params.globalLimit →
    c ≤ s.mg.reduction.getD c →
    ((c + brakingDistance s.mg.accel 0 c : Nat) : Int) ≤ s.mg.r →
    (∀ c' : Nat, c' ≤ s.mg.v + s.mg.accel → c < c' → c' ≤ m.ceiling → c' ≤ s.mc.params.globalLimit →
      c' ≤ s.mg.reduction.getD c' → s.mg.r < ((c' + brakingDistance s.mg.accel 0 c' : Nat) : Int)) →
    ∃ t, exec (.periodExpiry o) s = .next t ∧
      (let x : Int := (if m.forward then 1 else -1) * c
       t.mg = { s.mg with
        v := c, d := s.mg.d + c, r := s.mg.r - c, q := s.mg.q + x, vt := x, prevVt := x, delta := x - s.mg.prevVt,
        satRun := 0 }) ∧
      t.mu = measuredMu s ∧ t.rl = s.rl ∧
      t.cl = (if s.cl.run then
        capstanAfter s.mc.params s.cl ((if m.forward then 1 else -1) * c) (newM s) else s.cl) ∧
      t.tsq = s.tsq ∧ t.wk = s.wk ∧ t.sc = s.sc ∧ t.fm.first = none ∧ t.oi = s.oi ∧
      SameSurroundings s t ∧ Reports s t []) ∧
  (∀ (s : State) (o : ExpiryOrder) (m : Motion), OnlyMotion s → s.tsq.state = .moving → s.mg.phase = .run →
    s.mg.motion = some m → s.mg.w = 0 → s.mu.eot = none → s.wk.active = false → satFlag .s s = false →
    satFlag .t s = false → s.mg.accel < s.mg.v →
    NothingFits s.mg.v s.mg.accel (topSpeed m.ceiling s) 0 s.mg.r →
    ∃ t, exec (.periodExpiry o) s = .next t ∧
      (let dir : Int := if m.forward then 1 else -1
       let b : Nat := brakingDistance s.mg.accel 0 s.mg.v
       t.mg = { s.mg with
         overrun := some ⟨s.mg.q + dir * s.mg.r, !s.mg.finalStop⟩, l := s.mg.d + b, r := b }.committed dir
           (s.mg.v - s.mg.accel)) ∧
      t.tsq = s.tsq ∧ t.wk = s.wk ∧ t.sc = s.sc ∧ AroundMotion s t ∧ Reports s t [] ∧ SnapshotByExpiry s t) ∧
  (∀ (s : State) (o : ExpiryOrder) (m : Motion) (h : InHand) (k : Fin 32) (n : Segment) (c : Nat), OnlyMotion s →
    s.tsq.state = .moving → s.mg.phase = .run → s.mg.motion = some m → s.tsq.inHand = some h → s.wk.active = true →
    s.wk.approachReports = false → s.mg.stopped = false → s.mg.overrun = none → s.mu.eot = none →
    satFlag .s s = false → satFlag .t s = false → s.mg.lookAhead = some (k, n) → s.sc.entries.get k = .valid n →
    n.reverse = !m.forward → n.last = true → n.distance ≠ 0 → 0 < s.mg.w → s.mg.w ≤ topSpeed m.ceiling s →
    Fits s.mg.v s.mg.accel (topSpeed m.ceiling s) s.mg.w s.mg.r c ∨
      (NothingFits s.mg.v s.mg.accel (topSpeed m.ceiling s) s.mg.w s.mg.r ∧ c = s.mg.v - s.mg.accel) →
    s.mg.r ≤ c → (c : Int) < s.mg.r + n.distance ∨ n.accel < s.mg.v →
    ∃ t, exec (.periodExpiry o) s = .next t ∧
      (let dir : Int := if m.forward then 1 else -1
       let b : Nat := brakingDistance n.accel 0 s.mg.v
       let g : Mg := { s.mg with
         motion := some { m with accel := n.accel, ceiling := n.vmax }, accel := n.accel, w := 0, lookAhead := none
         finalStop := true }
       t.mg =
         if (c : Int) < s.mg.r + n.distance then
           { g with l := s.mg.l + n.distance, r := s.mg.r + n.distance }.committed dir c
         else
           { g with
             overrun := some ⟨s.mg.q + dir * (s.mg.r + n.distance), false⟩, l := s.mg.d + b, r := b }.committed dir
               (s.mg.v - n.accel)) ∧
      t.wk = { s.wk with
        visits := s.wk.visits + 1, inUse := if k ∈ s.wk.inUse then s.wk.inUse else k :: s.wk.inUse
        current := some (k, n), awaited := none, g := s.mg.r + n.distance - c, approachDone := false
        adjusted := s.wk.adjusted || n.adjusted } ∧
      t.tsq = { s.tsq with
        writeEnable := decide (h.code = .runChain) && h.fields.writeIntent && !h.stopping && !n.reverse && n.write &&
          level .writeRing s } ∧
      t.sc = s.sc ∧ AroundMotion s t ∧ Reports s t [] ∧ SnapshotByExpiry s t) ∧
  (∀ (s : State) (o : ExpiryOrder) (m : Motion) (pos : Int) (c : Nat), OnlyMotion s → s.tsq.state = .moving →
    s.mg.phase = .run → s.mg.motion = some m → m.forward = true → s.mu.eot = some ⟨.eot, true, pos⟩ →
    s.wk.active = false → satFlag .s s = false → satFlag .t s = false →
    (let k : Int := pos + s.mc.params.eotOverrun - s.mg.q
     k < s.mg.r ∧ 0 ≤ k ∧ (brakingDistance m.accel 0 s.mg.v : Int) ≤ k ∧
       Fits s.mg.v s.mg.accel (topSpeed m.ceiling s) 0 k c) → 1 ≤ c →
    ∃ t, exec (.periodExpiry o) s = .next t ∧
      (let x : Int := pos + s.mc.params.eotOverrun
       t.mg = { s.mg with
         r := x - s.mg.q, l := s.mg.d + (x - s.mg.q), w := 0, lookAhead := none, finalStop := true, clamped := true
         aim := some x }.committed 1 c) ∧
      t.tsq = s.tsq ∧ t.wk = s.wk ∧ t.sc = s.sc ∧ AroundMotion s t ∧ Reports s t [] ∧ SnapshotByExpiry s t) ∧
  (∀ (s : State) (o : ExpiryOrder) (m : Motion) (pos : Int), OnlyMotion s → s.tsq.state = .moving →
    s.mg.phase = .run → s.mg.motion = some m → m.forward = true → s.mu.eot = some ⟨.eot, true, pos⟩ →
    s.wk.active = false → satFlag .s s = false → satFlag .t s = false → 1 ≤ s.mg.accel → s.mg.accel < s.mg.v →
    (let k : Int := pos + s.mc.params.eotOverrun - s.mg.q
     k < s.mg.r ∧ (k < 0 ∨ k < (brakingDistance m.accel 0 s.mg.v : Int))) →
    ∃ t, exec (.periodExpiry o) s = .next t ∧
      (let b : Nat := brakingDistance s.mg.accel 0 s.mg.v
       t.mg = { s.mg with
         r := b, l := s.mg.d + b, w := 0, lookAhead := none, finalStop := true, clamped := true
         overrun := some ⟨pos + s.mc.params.eotOverrun, false⟩ }.committed 1 (s.mg.v - s.mg.accel)) ∧
      t.tsq = s.tsq ∧ t.wk = s.wk ∧ t.sc = s.sc ∧ AroundMotion s t ∧ Reports s t [] ∧ SnapshotByExpiry s t) ∧
  (∀ (s : State) (o : ExpiryOrder) (m : Motion) (h : InHand), OnlyMotion s → OutputLaw s → s.tsq.state = .moving →
    s.tsq.vacuum = true → s.mg.phase = .run → s.mg.motion = some m → m.settles = true → s.tsq.inHand = some h →
    s.mg.w = 0 → s.mg.r = 0 → s.mg.v ≤ s.mg.accel → s.mg.finalStop = true → s.mg.stopped = false →
    s.mg.overrun.any Overrun.boundary = false → s.mu.eot = none → s.wk.active = false → satFlag .s s = false → satFlag .t s = false →
    ∃ t, exec (.periodExpiry o) s = .next t ∧ t.tsq = { s.tsq with state := .settling, writeEnable := false } ∧
      t.mg = { s.mg with
        phase := .settle false, v := 0, vt := 0, prevVt := 0, delta := -s.mg.prevVt, satRun := 0, overrun := none
        lookAhead := none
        settle := ⟨match s.mg.overrun with
          | some x => x.point
          | none => s.mg.aim.getD s.mg.q, 0, 0⟩ } ∧
      t.wk = s.wk ∧ t.sc = s.sc ∧ AroundMotion s t ∧ Reports s t [] ∧ SnapshotByExpiry s t) ∧
  (∀ (s : State) (o : ExpiryOrder) (m : Motion) (h : InHand) (k : Fin 32) (n : Segment) (c : Nat), OnlyMotion s →
    OutputLaw s → s.tsq.state = .moving → s.tsq.vacuum = true → s.mg.phase = .run → s.mg.motion = some m →
    s.tsq.inHand = some h → s.wk.active = true → s.wk.approachReports = false → s.mg.stopped = false →
    s.mg.overrun = none → s.mu.eot = none → satFlag .s s = false → satFlag .t s = false →
    s.mg.lookAhead = some (k, n) → s.sc.entries.get k = .valid n → n.reverse = !m.forward → n.last = true →
    0 < s.mg.w → s.mg.w ≤ topSpeed m.ceiling s →
    Fits s.mg.v s.mg.accel (topSpeed m.ceiling s) s.mg.w s.mg.r c ∨
      (NothingFits s.mg.v s.mg.accel (topSpeed m.ceiling s) s.mg.w s.mg.r ∧ c = s.mg.v - s.mg.accel) →
    s.mg.r + n.distance ≤ c → s.mg.v ≤ n.accel → Room 1 s → s.mc.params.mask.segmentEmpty = true →
    ∃ t, exec (.periodExpiry o) s = .next t ∧
      t.mg = { s.mg with
        phase := .settle false, motion := some { m with accel := n.accel, ceiling := n.vmax }, v := 0, vt := 0, prevVt := 0
        delta := -s.mg.prevVt, accel := n.accel, l := s.mg.d, r := 0, w := 0, lookAhead := none, finalStop := true
        satRun := 0, settle := ⟨s.mg.q + (if m.forward then 1 else -1) * (s.mg.r + n.distance), 0, 0⟩ } ∧
      t.wk = { s.wk with
        visits := s.wk.visits + 1, inUse := if k ∈ s.wk.inUse then s.wk.inUse else k :: s.wk.inUse
        current := some (k, n), awaited := none, g := s.mg.r + n.distance - c, approachDone := false
        adjusted := s.wk.adjusted || n.adjusted } ∧
      t.tsq = { s.tsq with state := .settling, writeEnable := false } ∧ t.sc = s.sc ∧ AroundMotion s t ∧
      Reports s t
        (if n.distance = 0 then [⟨.segmentEmpty, k.val, s.wk.visits + 1, some s.wk.seq, .moving⟩] else []) ∧
      SnapshotByExpiry s t)

/-- SAMPLE_LOSS (R18, R48, R111, R112, R115): the third consecutive miss with the vacuum on takes the fault and
applies the brake. -/
def Obligations.SampleLossBrakes : Prop :=
  ∀ (s : State) (o : ExpiryOrder), Resting s → Faultless s → s.mu.arrival = false → 2 ≤ s.mu.missCount →
    s.mu.lossReported = false →
    ∃ t, exec (.sampleLoss o) s = .next t ∧ exec (.periodExpiry o) s = .next t ∧
      t.fm.first = some .sampleLoss ∧ t.fm.later = [] ∧ t.fm.haltWait = none ∧
      t.tsq = { s.tsq with state := .fault, brake := true, writeEnable := false } ∧ Braked t ∧ t.mg = Mg.reset ∧
      t.mu = { measuredMu s with lossReported := true, missCount := min 255 (s.mu.missCount + 1) } ∧ t.sc = s.sc ∧
      t.wk = s.wk ∧
      t.oi = s.oi ∧ SameSurroundings s t ∧
      Reports s t [⟨.fault, 9, (min 255 (s.mu.missCount + 1) : Nat), none, .fault⟩] ∧ SnapshotByExpiry s t

/-- SETTLE_COMPLETE and SETTLE_TIMEOUT of a SPACE (R35, R36, R79, R83). -/
def Obligations.SettleEndsTheOrder : Prop :=
  (∀ (h : InHand) (s : State) (o : ExpiryOrder), FinalSettle h s → OutputLaw s → NothingDue s → Room 1 s → SettlesNow s →
    ∃ t, exec (.settleComplete o) s = .next t ∧ exec (.periodExpiry o) s = .next t ∧
      t.tsq = s.tsq.ended .ready s.tsq.brake s.tsq.vacuum ∧ t.mg.phase = .idle ∧ t.mg.motion = none ∧
      t.mu = measuredMu s ∧ t.rl = s.rl ∧ t.sc = s.sc ∧ t.wk = s.wk ∧ t.fm.first = s.fm.first ∧
      t.fm.later = s.fm.later ∧
      Reports s t [⟨.orderDone, if s.mg.clamped then 4 else if h.clamped then 1 else 0, newP s - h.pAtTake,
        some h.seq, .ready⟩] ∧
      t.oi = s.oi ∧ SameSurroundings s t ∧ SnapshotByExpiry s t) ∧
  (∀ (h : InHand) (s : State) (o : ExpiryOrder), FinalSettle h s → OutputLaw s → NothingDue s → Room 1 s → ¬ SettlesNow s →
    1 ≤ s.mc.params.settleCount → s.mc.params.settleTimeout ≤ s.mg.settle.elapsed + 1 →
    ∃ t, exec (.settleTimeout o) s = .next t ∧ exec (.periodExpiry o) s = .next t ∧
      t.tsq = s.tsq.ended .ready s.tsq.brake s.tsq.vacuum ∧ t.mg.phase = .idle ∧ t.mg.motion = none ∧
      t.mu = measuredMu s ∧ t.rl = s.rl ∧ t.sc = s.sc ∧ t.wk = s.wk ∧ t.fm.first = s.fm.first ∧
      t.fm.later = s.fm.later ∧ Reports s t [⟨.orderDone, 2, settleError s, some h.seq, .ready⟩] ∧ t.oi = s.oi ∧
      SameSurroundings s t ∧ SnapshotByExpiry s t)

/-- SPEED_REDUCED (R37): at the 40th saturated expiry in MOVING and RUN the reduction ceiling is halved, and the speed
chosen at that expiry keeps to it as far as the acceleration allows. A saturated reel is at full drive (OutputLaw), so
only the stall time, or the count of its tachometer, stands between it and REEL STALL. -/
def Obligations.SaturationReducesSpeed : Prop :=
  ∀ (s : State) (o : ExpiryOrder) (m : Motion) (h : InHand), OnlyMotion s → OutputLaw s →
    s.tsq.state = .moving → s.mg.phase = .run → s.mg.motion = some m → s.tsq.inHand = some h →
    h.leg = .space ∨ h.leg = .chain → satFlag .s s = true ∨ satFlag .t s = true → 39 ≤ s.mg.satRun →
    ∃ t, exec (.speedReduced o) s = .next t ∧ exec (.periodExpiry o) s = .next t ∧
      (let c : Nat := match s.mg.reduction with
         | none => max 1 (min m.ceiling s.mc.params.globalLimit / 2)
         | some c => max 1 (c / 2)
       let code : Nat := (if satFlag .s s then 1 else 0) + if satFlag .t s then 2 else 0
       t.mg.satRun = 0 ∧ (s.mg.w = 0 → t.mg.vt.natAbs ≤ max c (s.mg.v - s.mg.accel)) ∧
       (t.mg.phase ≠ .idle → t.mg.reduction = some c) ∧ (t.mg.phase = .idle → t.mg.reduction = none) ∧
       t.mu.p = newP s ∧ t.mu.m = newM s ∧ SameSurroundings s t ∧
       (s.mc.params.mask.speedReduced = true → Room 1 s →
         s.ru.pendingReports ++ [⟨s.ru.nextId, .speedReduced, .moving, newP s, s.mu.periodCount + 1, code,
           clampI (-8388608) 8388607 c, some h.seq⟩] <+: t.ru.pendingReports))

/-- HALT_WAIT_LIMIT (R114): the count of 400 ends the halt with BRAKE on. The halt before it (R33, R113): the request is
applied in RUN and begins the RAMP, a step of the RAMP, its end with RAMP DONE, and the end of the halt by the speed
test, with BRAKE on only where VACUUM PUMP is off or the pairs are not live. -/
def Obligations.HaltWaitLimitBrakes : Prop :=
  (∀ (s : State) (o : ExpiryOrder) (n : Nat), Undisturbed s → NothingDue s → Faultless s → OutputLaw s →
    s.mu.arrival = true → s.tsq.state = .halting → s.mg.phase = .idle → s.fm.haltWait = some n → 399 ≤ n →
    1 < (newM s).natAbs →
    ∃ t, exec (.haltWaitLimit o) s = .next t ∧ exec (.periodExpiry o) s = .next t ∧
      t.tsq = { s.tsq with state := .fault, brake := true } ∧ t.fm.haltWait = none ∧ Braked t ∧
      t.fm.first = s.fm.first ∧ t.fm.later = s.fm.later ∧ t.mu.p = newP s ∧ t.mg.phase = .idle ∧ t.mg.vt = 0 ∧
      t.sc = s.sc ∧
      t.wk = s.wk ∧ t.oi = s.oi ∧ SameSurroundings s t ∧ Reports s t [] ∧ SnapshotByExpiry s t) ∧
  (∀ (s : State) (o : ExpiryOrder) (m : Motion), OnlyMotion { s with mg := { s.mg with pendHalt := false } } →
    s.mg.pendHalt = true → s.tsq.state = .halting → s.mg.phase = .run → s.mg.motion = some m →
    s.mc.params.emergencyAccel < s.mg.v → s.fm.haltWait = none →
    ∃ t, exec (.periodExpiry o) s = .next t ∧
      (let a := s.mc.params.emergencyAccel
       let x : Int := (if m.forward then 1 else -1) * ((s.mg.v - a : Nat) : Int)
       t.mg.phase = .ramp ∧ t.mg.accel = a ∧ t.mg.v = s.mg.v - a ∧ t.mg.d = s.mg.d + (s.mg.v - a : Nat) ∧
       t.mg.l = s.mg.d + brakingDistance a 0 s.mg.vt.natAbs ∧ t.mg.q = s.mg.q + x ∧ t.mg.vt = x ∧
       t.mg.prevVt = x ∧ t.mg.delta = x - s.mg.prevVt) ∧
      t.mg.pendHalt = false ∧ t.mg.pendStops = [] ∧ t.mg.overrun = none ∧ t.mg.lookAhead = none ∧
      t.mg.clamped = false ∧ t.mg.stopped = false ∧ t.fm.haltWait = none ∧ t.tsq = s.tsq ∧ t.wk = s.wk ∧ t.sc = s.sc ∧
      AroundMotion s t ∧ Reports s t [] ∧ SnapshotByExpiry s t) ∧
  (∀ (s : State) (o : ExpiryOrder) (m : Motion), OnlyMotion s → s.tsq.state = .halting → s.mg.phase = .ramp →
    s.mg.motion = some m → s.mg.accel < s.mg.v → s.fm.haltWait = none →
    ∃ t, exec (.periodExpiry o) s = .next t ∧
      (let x : Int := (if m.forward then 1 else -1) * ((s.mg.v - s.mg.accel : Nat) : Int)
       t.mg = { s.mg with
         v := s.mg.v - s.mg.accel, d := s.mg.d + (s.mg.v - s.mg.accel : Nat), q := s.mg.q + x, vt := x, prevVt := x
         delta := x - s.mg.prevVt, satRun := 0 }) ∧
      t.fm.haltWait = none ∧ t.tsq = s.tsq ∧ t.wk = s.wk ∧ t.sc = s.sc ∧ AroundMotion s t ∧ Reports s t [] ∧
      SnapshotByExpiry s t) ∧
  (∀ (s : State) (o : ExpiryOrder), OnlyMotion s → s.tsq.state = .halting → s.mg.phase = .ramp →
    s.mg.v ≤ s.mg.accel → s.fm.haltWait = none → 1 < (newM s).natAbs →
    ∃ t, exec (.periodExpiry o) s = .next t ∧ t.mg.phase = .idle ∧ t.mg.motion = none ∧ t.mg.vt = 0 ∧
      t.mg.delta = -s.mg.prevVt ∧ t.fm.haltWait = some 0 ∧ t.tsq = s.tsq ∧ t.wk = s.wk ∧ t.sc = s.sc ∧
      AroundMotion s t ∧ Reports s t [] ∧ SnapshotByExpiry s t) ∧
  (∀ (s : State) (o : ExpiryOrder) (n : Nat), OnlyMotion s → OutputLaw s → s.tsq.state = .halting →
    s.mg.phase = .idle → s.fm.haltWait = some n → (newM s).natAbs ≤ 1 →
    ∃ t, exec (.periodExpiry o) s = .next t ∧
      t.tsq = { s.tsq with
        state := .fault
        brake := s.tsq.brake || !s.tsq.vacuum || !(s.mu.pair.isSome && decide (s.mu.missCount < 3)) } ∧
      t.fm.haltWait = none ∧ t.fm.first = s.fm.first ∧ t.fm.later = s.fm.later ∧ (t.tsq.brake = true → Braked t) ∧
      (t.tsq.brake = false → t.cl = ⟨false, 0, 0, .none⟩ ∧ t.rl = s.rl) ∧ t.mg.phase = .idle ∧ t.mg.vt = 0 ∧
      t.mu.p = newP s ∧ t.sc = s.sc ∧ t.wk = s.wk ∧ t.oi = s.oi ∧ SameSurroundings s t ∧ Reports s t [] ∧
      SnapshotByExpiry s t)

/-- REEL_STALL (R109, R112, R115). -/
def Obligations.ReelStallBrakes : Prop :=
  ∀ (s : State) (x y : Reel) (o : ExpiryOrder), Resting s → ParameterLaw s.mc.params → s.mu.arrival = true → x ≠ y →
    s.mc.params.stallThreshold ≤ (s.rl.get x).d.natAbs → s.mc.params.stallTime ≤ s.fm.highRun.get x + 1 →
    s.mc.params.stallTime ≤ s.mu.silence.get x + 1 → DriveLow y s → SpeedFollows s → DoorAndRange s →
    level .vacuumOk s = true →
    ∃ t, exec (.reelStall x o) s = .next t ∧ exec (.periodExpiry o) s = .next t ∧
      t.fm.first = some (.reelStall x) ∧ t.fm.later = [] ∧ t.fm.haltWait = none ∧ t.fm.highRun = ⟨0, 0⟩ ∧
      t.tsq = { s.tsq with state := .fault, brake := true, writeEnable := false } ∧ Braked t ∧ t.mg = Mg.reset ∧
      t.mu = measuredMu s ∧ t.sc = s.sc ∧ t.wk = s.wk ∧ t.oi = s.oi ∧ SameSurroundings s t ∧
      Reports s t [⟨.fault, if x = .s then 7 else 8, (s.rl.get x).d, none, .fault⟩] ∧ SnapshotByExpiry s t

/-- CAPSTAN_RUNAWAY (R110, R112, R113): the eighth runaway expiry begins the halt. So does POSITION RANGE, at the expiry
at which P comes newly to a bound (R6, R111). -/
def Obligations.CapstanRunawayHalts : Prop :=
  (∀ (s : State) (o : ExpiryOrder), Resting s → s.mu.arrival = true → 7 ≤ s.fm.runaway → ¬ SpeedFollows s →
    1 ≤ s.mc.params.stallTime → (∀ x : Reel, DriveLow x s) → DoorAndRange s → level .vacuumOk s = true →
    ∃ t, exec (.capstanRunaway o) s = .next t ∧ exec (.periodExpiry o) s = .next t ∧
      t.fm.first = some .capstanRunaway ∧ t.fm.later = [] ∧ t.fm.runaway = 0 ∧ t.fm.haltWait = none ∧
      t.tsq = { s.tsq with state := .halting, writeEnable := false } ∧ t.mg.pendHalt = true ∧
      t.cl = capstanAfter s.mc.params s.cl 0 (newM s) ∧ t.mu = measuredMu s ∧ t.rl = s.rl ∧ t.sc = s.sc ∧ t.wk = s.wk ∧ t.oi = s.oi ∧ SameSurroundings s t ∧
      Reports s t [⟨.fault, 10, newM s - s.mg.vt, none, .halting⟩] ∧ SnapshotByExpiry s t) ∧
  (∀ (s : State) (o : ExpiryOrder), Resting s → s.mu.arrival = true → newP s = -33554432 ∨ newP s = 33554431 →
    newP s ≠ s.mu.p → StallFree s → SpeedFollows s → level .doorClosed s = true → level .vacuumOk s = true →
    ∃ t, exec (.periodExpiry o) s = .next t ∧ t.fm.first = some .positionRange ∧ t.fm.later = [] ∧
      t.fm.haltWait = none ∧ t.tsq = { s.tsq with state := .halting, writeEnable := false } ∧
      t.mg.pendHalt = true ∧ t.mg.vt = 0 ∧ t.mu = measuredMu s ∧ t.rl = s.rl ∧ t.sc = s.sc ∧ t.wk = s.wk ∧
      t.oi = s.oi ∧ SameSurroundings s t ∧ Reports s t [⟨.fault, 12, newP s, none, .halting⟩] ∧
      SnapshotByExpiry s t)

/-- VACUUM_SETTLED (R106): with VACUUM OK present the vacuum is settled and nothing else happens; with VACUUM OK absent
VACUUM LOSS is taken. -/
def Obligations.VacuumSettlesOrIsLost : Prop :=
  (∀ (s : State) (o : ExpiryOrder), Resting s → Faultless s → s.mu.arrival = true → s.fm.vacSettled = false →
    s.fm.vacTimer < 65535 → s.mc.params.vacuumSettle * 4 ≤ s.fm.vacTimer + 1 →
    ∃ t, exec (.vacuumSettled o) s = .next t ∧ exec (.periodExpiry o) s = .next t ∧ t.fm.vacSettled = true ∧
      t.fm.vacTimer = s.fm.vacTimer + 1 ∧ t.fm.first = none ∧ t.mu = measuredMu s ∧
      t.cl = capstanAfter s.mc.params s.cl 0 (newM s) ∧ t.tsq = s.tsq ∧ t.rl = s.rl ∧ t.sc = s.sc ∧ t.wk = s.wk ∧
      t.oi = s.oi ∧ SameSurroundings s t ∧ Reports s t []) ∧
  (∀ (s : State) (o : ExpiryOrder), Resting s → s.mu.arrival = true → s.fm.vacSettled = false →
    s.fm.vacTimer < 65535 → s.mc.params.vacuumSettle * 4 ≤ s.fm.vacTimer + 1 → 1 ≤ s.mc.params.stallTime →
    (∀ x : Reel, DriveLow x s) → SpeedFollows s → DoorAndRange s → level .vacuumOk s = false →
    ∃ t, exec (.vacuumSettled o) s = .next t ∧ exec (.periodExpiry o) s = .next t ∧
      t.fm.first = some .vacuumLoss ∧ t.fm.later = [] ∧
      t.tsq = { s.tsq with state := .fault, brake := true, vacuum := false, writeEnable := false } ∧ Braked t ∧
      t.mg = Mg.reset ∧ t.mu.p = newP s ∧ t.sc = s.sc ∧ t.wk = s.wk ∧ t.oi = s.oi ∧ SameSurroundings s t ∧
      Reports s t [⟨.fault, 5, (s.fm.vacTimer + 1 : Nat), none, .fault⟩] ∧ SnapshotByExpiry s t)

/-- LOAD_TIMEOUT and UNLOAD_TIMEOUT (R90, R95). -/
def Obligations.PhaseTimeoutsUnload : Prop :=
  (∀ (s : State) (o : ExpiryOrder) (h : InHand), Undisturbed s → NothingDue s → OutputLaw s → Room 1 s →
    s.mu.arrival = true → s.tsq.state = .loadingFill → s.mg.phase = .idle → s.tsq.inHand = some h → h.code = .load →
    s.mc.params.loadTimeout * 4000 ≤ s.tsq.timer + 1 →
    ∃ t, exec (.loadTimeout o) s = .next t ∧ exec (.periodExpiry o) s = .next t ∧
      t.tsq = s.tsq.ended .unloaded true false ∧ Braked t ∧ t.mu.p = newP s ∧ t.mu.eot = s.mu.eot ∧
      t.fm.first = s.fm.first ∧ t.sc = s.sc ∧ t.wk = s.wk ∧ t.oi = s.oi ∧ SameSurroundings s t ∧
      Reports s t [⟨.orderDone, 9, 0, some h.seq, .unloaded⟩] ∧ SnapshotByExpiry s t) ∧
  (∀ (s : State) (o : ExpiryOrder) (h : InHand), Undisturbed s → NothingDue s → OutputLaw s → Room 1 s →
    s.mu.arrival = true → s.tsq.state = .unloadingWindOff → s.mg.phase = .idle → s.tsq.inHand = some h →
    h.code = .unload → s.mc.params.unloadTime * 4000 ≤ s.tsq.timer + 1 →
    ∃ t, exec (.unloadTimeout o) s = .next t ∧ exec (.periodExpiry o) s = .next t ∧
      t.tsq = s.tsq.ended .unloaded true false ∧ Braked t ∧ t.mu.p = newP s ∧ t.fm.first = s.fm.first ∧
      t.sc = s.sc ∧ t.wk = s.wk ∧ t.oi = s.oi ∧ SameSurroundings s t ∧
      Reports s t [⟨.orderDone, if ∃ k : Fin 12, (s.slu.lines.get k).func = .tapeInPath then 10 else 0, 0,
        some h.seq, .unloaded⟩] ∧
      SnapshotByExpiry s t)

/-! ## Tachometers, samples and pulses -/

/-- CAPSTAN_TACH_COUNT, and BOTH_PHASES_CHANGE of the capstan tachometer (R2, R13, R15). That a change while RESET is
asserted is followed and not counted is the model's reading (log entry 22). -/
def Obligations.CapstanCountsAreDecoded : Prop :=
  (∀ (s : State) (ph : Phase), s.mc.resetAsserted = false →
    ∃ t, exec (.capstanTachCount ph) s = .next t ∧
      (let a := s.mu.capRef.a
       let b := s.mu.capRef.b
       let forward : Bool := match ph with
         | .a => decide ((!a) ≠ b)
         | .b => decide ((!b) = a)
       let n : Int := if forward then 1 else -1
       t.mu.accum = s.mu.accum + n ∧
       t.mu.capRef = (match ph with
         | .a => ⟨!a, b⟩
         | .b => ⟨a, !b⟩) ∧
       ∀ x : Reel, t.mu.est.get x =
        if s.tsq.vacuum = true ∧ (s.rl.get x).mode ≠ .fill then
          { s.mu.est.get x with sum := max (-65535) (min 65535 ((s.mu.est.get x).sum + n)) }
        else s.mu.est.get x) ∧
      t = { s with mu := { s.mu with accum := t.mu.accum, capRef := t.mu.capRef, est := t.mu.est } }) ∧
  (∀ (s : State) (ph : Phase), s.mc.resetAsserted = true →
    exec (.capstanTachCount ph) s =
      .next { s with mu := { s.mu with
        capRef := match ph with
          | .a => ⟨!s.mu.capRef.a, s.mu.capRef.b⟩
          | .b => ⟨s.mu.capRef.a, !s.mu.capRef.b⟩ } }) ∧
  (∀ s : State,
    exec (.bothPhasesChange .capstan) s =
      .next { s with mu := { s.mu with capRef := ⟨!s.mu.capRef.a, !s.mu.capRef.b⟩ } })

/-- REEL_TACH_COUNT, and BOTH_PHASES_CHANGE of a reel tachometer (R4, R5, R13, R15), for every count but the one that
completes a window; WINDOW_COMPLETE (R13, R14): the 64th count of the tally's direction completes the window and
filters the estimate, which stays in its range; the snapshot shows it. That WINDOW_COMPLETE is the whole of that reel
count, with its reference and its silence timer, is the model's reading (log entry 2); so is that a change while RESET
is asserted is followed and not counted (log entry 22). -/
def Obligations.ReelCountsMeasureTheReels : Prop :=
  (∀ (s : State) (x : Reel) (ph : Phase), s.mc.resetAsserted = false →
    ∃ t, exec (.reelTachCount x ph) s = .next t ∧
      (let r := s.mu.reelRef.get x
       let e := s.mu.est.get x
       let winding : Bool := match ph with
         | .a => decide ((!r.a) ≠ r.b)
         | .b => decide ((!r.b) = r.a)
       t.mu.reelRef = s.mu.reelRef.set x (match ph with
         | .a => ⟨!r.a, r.b⟩
         | .b => ⟨r.a, !r.b⟩) ∧
       t.mu.silence = s.mu.silence.set x 0 ∧
       (s.tsq.vacuum = false ∨ (s.rl.get x).mode = .fill → t.mu.est = s.mu.est) ∧
       (s.tsq.vacuum = true → (s.rl.get x).mode ≠ .fill → e.tally = 0 →
         t.mu.est = s.mu.est.set x { e with tally := 1, winding := winding }) ∧
       (s.tsq.vacuum = true → (s.rl.get x).mode ≠ .fill → e.tally ≠ 0 → e.tally ≠ 63 → e.winding = winding →
         t.mu.est = s.mu.est.set x { e with tally := e.tally + 1 }) ∧
       (s.tsq.vacuum = true → (s.rl.get x).mode ≠ .fill → e.tally ≠ 0 → e.winding ≠ winding →
         t.mu.est = s.mu.est.set x { e with tally := 1, winding := winding, sum := 0 })) ∧
      t = { s with mu := { s.mu with reelRef := t.mu.reelRef, silence := t.mu.silence, est := t.mu.est } }) ∧
  (∀ (s : State) (x : Reel),
    exec (.bothPhasesChange (.reel x)) s =
      .next { s with mu := { s.mu with
        reelRef := s.mu.reelRef.set x ⟨!(s.mu.reelRef.get x).a, !(s.mu.reelRef.get x).b⟩ } }) ∧
  (∀ (s : State) (x : Reel) (ph : Phase), MeasurementLaw s.mu → s.mc.resetAsserted = false → s.tsq.vacuum = true →
    (s.rl.get x).mode ≠ .fill → (s.mu.est.get x).tally = 63 →
    ((s.mu.est.get x).winding = match ph with
      | .a => decide ((!(s.mu.reelRef.get x).a) ≠ (s.mu.reelRef.get x).b)
      | .b => decide ((!(s.mu.reelRef.get x).b) = (s.mu.reelRef.get x).a)) →
    ∃ t, exec (.windowComplete x ph) s = .next t ∧ exec (.reelTachCount x ph) s = .next t ∧
      (let e := s.mu.est.get x
       let m : Nat := max 6000 (min 17000 e.sum.natAbs)
       let c : Nat := match e.circ with
         | none => m
         | some old => (3 * old + m + 2) / 4
       t.mu.est = s.mu.est.set x { e with tally := 0, sum := 0, circ := some c } ∧ 6000 ≤ c ∧ c ≤ 17000 ∧
       (x = .s → bits ((snapshotWords t).getD 3 0) 13 0 = c - 5999) ∧
       (x = .t → bits ((snapshotWords t).getD 3 0) 27 14 = c - 5999)) ∧
      t.mu.reelRef = s.mu.reelRef.set x (match ph with
        | .a => ⟨!(s.mu.reelRef.get x).a, (s.mu.reelRef.get x).b⟩
        | .b => ⟨(s.mu.reelRef.get x).a, !(s.mu.reelRef.get x).b⟩) ∧
      t.mu.silence = s.mu.silence.set x 0 ∧
      t = { s with mu := { s.mu with reelRef := t.mu.reelRef, silence := t.mu.silence, est := t.mu.est } }) ∧
  (∀ (s : State) (x : Reel) (ph : Phase), s.mc.resetAsserted = true →
    exec (.reelTachCount x ph) s =
      .next { s with mu := { s.mu with
        reelRef := s.mu.reelRef.set x (match ph with
          | .a => ⟨!(s.mu.reelRef.get x).a, (s.mu.reelRef.get x).b⟩
          | .b => ⟨(s.mu.reelRef.get x).a, !(s.mu.reelRef.get x).b⟩) } })

/-- CONVERT_PULSE_END and ATTENTION_PULSE_END (R16, R175). That the pulses stand until these commands, and that
ATTENTION_PULSE_END with no pulse given changes nothing, is the model's reading (log entries 2 and 25). -/
def Obligations.PulsesEnd : Prop :=
  (∀ s : State, exec .convertPulseEnd s = .next { s with mu := { s.mu with convert := false } }) ∧
  (∀ s : State, s.ru.pulse = true →
    exec .attentionPulseEnd s = .next { s with ru := { s.ru with attention := false, pulse := false } }) ∧
  (∀ s : State, s.ru.pulse = false → exec .attentionPulseEnd s = .next s)

/-- SAMPLE_FRAME outside LOADING FILL (R16, R17, R44 to R47): a whole frame is a pair arrival, and each reel in LOOP
computes on it; any other frame is discarded. -/
def Obligations.FramesDriveTheReels : Prop :=
  (∀ (s : State) (p : PerReel (BitVec 10)), watching s = true → s.mu.frame = .idle → s.tsq.state ≠ .loadingFill →
    (∀ x : Reel, (s.rl.get x).mode ≠ .fill) →
    ∃ t, exec (.sampleFrame (frameBits p)) s = .next t ∧
      t = { s with
        mu := { s.mu with pair := some p, arrival := true, missCount := 0, lossReported := false }, rl := t.rl } ∧
      ∀ x : Reel, t.rl.get x =
        if (s.rl.get x).mode = .loop then
          reelAfter x s.mc.params (s.rl.get x) (p.get x).toNat s.mg.vt s.mg.delta (circumference x s)
        else s.rl.get x) ∧
  (∀ (s : State) (l : List Bool), watching s = true → s.mu.frame = .idle →
    l.length ≠ 21 ∨ (l.filter id).length % 2 = 1 → exec (.sampleFrame l) s = .next s) ∧
  (∀ (s : State) (l : List Bool), watching s = true → s.mu.frame = .passing →
    exec (.sampleFrame l) s = .next { s with mu := { s.mu with frame := .idle } }) ∧
  (∀ (s : State) (l : List Bool), watching s = false → exec (.sampleFrame l) s = .next s)

/-- SAMPLE_FRAME in LOADING FILL (R49, R50, R89): a reel out of its band keeps paying out, one in its band enters LOOP,
and with both in band the SEEK begins. -/
def Obligations.FillEndsInBand : Prop :=
  (∀ (s : State) (p : PerReel (BitVec 10)), watching s = true → s.mu.frame = .idle → s.tsq.state = .loadingFill →
    (∀ x : Reel, (s.rl.get x).mode = .fill ∧ (s.rl.get x).band = false) →
    (∀ (x : Reel) (upper : Bool), level (.limit x upper) s = false) →
    ¬ (InBand .s (p.get .s).toNat s ∧ InBand .t (p.get .t).toNat s) →
    ∃ t, exec (.sampleFrame (frameBits p)) s = .next t ∧
      t = { s with
        mu := { s.mu with pair := some p, arrival := true, missCount := 0, lossReported := false }, rl := t.rl } ∧
      ∀ x : Reel, t.rl.get x =
        if InBand x (p.get x).toNat s then
          reelAfter x s.mc.params { s.rl.get x with mode := .loop, band := true, a := 0, sat := .none }
            (p.get x).toNat s.mg.vt s.mg.delta (circumference x s)
        else { s.rl.get x with d := -(s.mc.params.fillDrive : Int) }) ∧
  (∀ (s : State) (p : PerReel (BitVec 10)) (h : InHand), watching s = true → s.mu.frame = .idle →
    s.tsq.state = .loadingFill → (∀ x : Reel, (s.rl.get x).mode = .fill ∧ (s.rl.get x).band = false) →
    (∀ (x : Reel) (upper : Bool), level (.limit x upper) s = false) → s.tsq.inHand = some h →
    s.tsq.brake = false → s.tsq.vacuum = true → s.mg.phase = .idle →
    InBand .s (p.get .s).toNat s → InBand .t (p.get .t).toNat s →
    ∃ t, exec (.sampleFrame (frameBits p)) s = .next t ∧
      t.tsq = { s.tsq with
        state := .loadingSeek, timerOn := false
        inHand := some { h with
          leg := if h.fields.seekReverse then .searchReverse else .searchForward, crossingSeen := false } } ∧
      t.mu.p = 0 ∧ t.mu.eot = none ∧
      Started ⟨.search, !h.fields.seekReverse, s.mc.params.accel, s.mc.params.searchSpeed, false⟩
        s.mc.params.searchLimit s t ∧
      (∀ x : Reel, t.rl.get x =
        reelAfter x s.mc.params { s.rl.get x with mode := .loop, band := true, a := 0, sat := .none } (p.get x).toNat
          s.mg.vt s.mg.delta (circumference x s)) ∧
      t.cl.run = true ∧ t.fm.first = s.fm.first ∧ t.sc = s.sc ∧ t.wk = s.wk ∧ t.oi = s.oi ∧ SameSurroundings s t ∧
      Reports s t [] ∧ SnapshotByState s t)

/-! ## Sense lines -/

/-- DEBOUNCE_TICK (R121, R125): what a tick does to every line's level and timer, and a tick at which no line changes
or notices. -/
def Obligations.TicksDebounceTheLines : Prop :=
  (∀ (s : State) (raw : BitVec 12) (order : List (Fin 12)), s.oi.queue = [] →
    ∃ t, exec (.debounceTick raw order) s = .next t ∧ t.slu.raw = raw ∧
      ∀ k : Fin 12,
        (t.slu.lines.get k).func = (s.slu.lines.get k).func ∧ (t.slu.lines.get k).mode = (s.slu.lines.get k).mode ∧
        (t.slu.lines.get k).invert = (s.slu.lines.get k).invert ∧
        (t.slu.lines.get k).exponent = (s.slu.lines.get k).exponent ∧
        (t.slu.lines.get k).level = (if Changes k raw s then !(s.slu.lines.get k).level else (s.slu.lines.get k).level) ∧
        (t.slu.lines.get k).timer =
          if (s.slu.lines.get k).func = .none then (s.slu.lines.get k).timer
          else if sampled k raw s = (s.slu.lines.get k).level ∨ Changes k raw s then 0
          else (s.slu.lines.get k).timer + 1) ∧
  (∀ (s : State) (raw : BitVec 12) (order : List (Fin 12)), NothingDue s → (∀ k : Fin 12, Quiet k raw s) →
    ∃ t, exec (.debounceTick raw order) s = .next t ∧
      t = { s with slu := { s.slu with raw := raw, lines := t.slu.lines } } ∧
      ∀ k : Fin 12, (t.slu.lines.get k).pending = (s.slu.lines.get k).pending ∧
        (t.slu.lines.get k).carry = (s.slu.lines.get k).carry)

/-- ACCEPTED_CHANGE (R121, R124 to R126, R128) of a mark line (R8), of WRITE RING in a RUN CHAIN (R85) and of TAPE IN
PATH in WIND-OFF (R95). -/
def Obligations.AcceptedChangesAreFollowed : Prop :=
  (∀ (s : State) (k : Fin 12) (mark : Mark) (raw : BitVec 12) (order : List (Fin 12)),
    LineChange k (match mark with
      | .bot => .botMark
      | .eot => .eotMark) raw s →
    ∃ t, exec (.acceptedChange k raw order) s = .next t ∧ exec (.debounceTick raw order) s = .next t ∧
      LineFollowed k (match mark with
        | .bot => 16
        | .eot => 32) s t ∧
      t.mu.notices =
        (if Notices (s.slu.lines.get k) then s.mu.notices.take 3 ++ [⟨mark, s.mu.p + s.mu.accum⟩]
         else s.mu.notices) ∧
      t = { s with slu := t.slu, mu := { s.mu with notices := t.mu.notices } }) ∧
  (∀ (s : State) (k : Fin 12) (raw : BitVec 12) (order : List (Fin 12)) (h : InHand) (i : Fin 32) (seg : Segment),
    LineChange k .writeRing raw s → (s.slu.lines.get k).level = true → s.tsq.inHand = some h → h.code = .runChain →
    h.fields.writeIntent = true → s.wk.current = some (i, seg) → Room 1 s → s.mc.params.mask.markCrossed = true →
    ∃ t, exec (.acceptedChange k raw order) s = .next t ∧ exec (.debounceTick raw order) s = .next t ∧
      LineFollowed k 512 s t ∧ t.tsq = { s.tsq with writeEnable := false } ∧
      Reports s t [⟨.markCrossed, 5, i.val, some h.seq, s.tsq.state⟩] ∧
      t = { s with slu := t.slu, tsq := t.tsq, ru := t.ru }) ∧
  (∀ (s : State) (k : Fin 12) (raw : BitVec 12) (order : List (Fin 12)) (h : InHand),
    LineChange k .tapeInPath raw s → (s.slu.lines.get k).level = true → OutputLaw s →
    s.tsq.state = .unloadingWindOff → s.tsq.vacuum = false → s.tsq.inHand = some h → h.code = .unload → Room 1 s →
    ∃ t, exec (.acceptedChange k raw order) s = .next t ∧ exec (.debounceTick raw order) s = .next t ∧
      LineFollowed k 256 s t ∧ t.tsq = s.tsq.ended .unloaded true false ∧ Braked t ∧ SnapshotByState s t ∧
      Reports s t [⟨.orderDone, 0, 0, some h.seq, .unloaded⟩] ∧ t.mg = s.mg ∧ t.sc = s.sc ∧ t.wk = s.wk ∧
      t.fm.first = s.fm.first ∧ t.oi = s.oi ∧ SameBus s t ∧ t.mc = s.mc)

/-- Faults that a sense line brings (R102, R104, R105, R107, R108, R112, R113, R115, R116): a column limit in MOVING, a tape
break in READY, a tape break in HALTING, and a column limit in FAULT, new, beyond the list, and repeated; the door that opens on moving tape,
and at rest. -/
def Obligations.LineFaultsAreTaken : Prop :=
  (∀ (s : State) (k : Fin 12) (x : Reel) (upper : Bool) (raw : BitVec 12) (order : List (Fin 12)) (h : InHand),
    watching s = true → LineChange k (.limit x upper) raw s → (s.slu.lines.get k).level = false →
    (s.slu.lines.get k).mode = .rising → OutputLaw s → s.tsq.state = .moving → s.tsq.brake = false →
    s.tsq.vacuum = true → s.tsq.inHand = some h → h.code = .space ∨ h.code = .runChain → s.fm.first = none →
    Room 2 s →
    ∃ t, exec (.acceptedChange k raw order) s = .next t ∧ t.fm.first = some (.columnLimit x upper) ∧
      t.fm.later = s.fm.later ∧ t.fm.haltWait = none ∧ t.tsq = s.tsq.ended .halting false true ∧
      t.mg = { s.mg with pendHalt := true } ∧ t.wk.active = false ∧ t.mu = s.mu ∧ t.cl = s.cl ∧ t.rl = s.rl ∧
      t.oi = s.oi ∧ SnapshotByState s t ∧
      Reports s t
        [⟨.fault, (match x with
            | .s => 1
            | .t => 3) + (if upper then 0 else 1),
          (match s.mu.pair with
            | some p => ((p.get x).toNat : Int)
            | none => -1), some h.seq, .halting⟩,
         ⟨.orderDone, 11, s.mu.p - h.pAtTake, some h.seq, .halting⟩]) ∧
  (∀ (s : State) (k : Fin 12) (raw : BitVec 12) (order : List (Fin 12)),
    watching s = true → LineChange k .tapeInPath raw s → (s.slu.lines.get k).level = true → OutputLaw s →
    s.tsq.state = .ready → s.tsq.brake = false → s.tsq.vacuum = true → s.tsq.inHand = none → s.fm.first = none →
    Room 1 s →
    ∃ t, exec (.acceptedChange k raw order) s = .next t ∧ t.fm.first = some .tapeBreak ∧ t.fm.later = s.fm.later ∧
      t.fm.haltWait = none ∧
      t.tsq = { s.tsq with state := .fault, brake := true, vacuum := false, writeEnable := false } ∧ Braked t ∧
      t.mg = Mg.reset ∧ t.oi = s.oi ∧ SnapshotByState s t ∧ Reports s t [⟨.fault, 6, 0, none, .fault⟩]) ∧
  (∀ (s : State) (k : Fin 12) (raw : BitVec 12) (order : List (Fin 12)) (f : FaultKind),
    watching s = true → LineChange k .tapeInPath raw s → (s.slu.lines.get k).level = true → OutputLaw s →
    s.tsq.state = .halting → s.tsq.brake = false → s.tsq.vacuum = true → s.tsq.inHand = none →
    s.fm.first = some f → f ≠ .tapeBreak → FaultKind.tapeBreak ∉ s.fm.later → s.fm.later.length < 3 → Room 1 s →
    ∃ t, exec (.acceptedChange k raw order) s = .next t ∧ t.fm.first = some f ∧
      t.fm.later = s.fm.later ++ [.tapeBreak] ∧ t.fm.further = s.fm.further ∧ t.fm.haltWait = none ∧
      t.tsq.state = .fault ∧ t.tsq.vacuum = false ∧ t.tsq.writeEnable = false ∧ Braked t ∧ t.mg = Mg.reset ∧
      t.oi = s.oi ∧ SnapshotByState s t ∧ Reports s t [⟨.fault, 6, 0, none, .fault⟩]) ∧
  (∀ (s : State) (k : Fin 12) (x : Reel) (upper : Bool) (raw : BitVec 12) (order : List (Fin 12)) (f : FaultKind),
    watching s = true → LineChange k (.limit x upper) raw s → (s.slu.lines.get k).level = false →
    (s.slu.lines.get k).mode = .rising → s.tsq.state = .fault → s.tsq.vacuum = true → s.tsq.inHand = none →
    s.fm.first = some f → Room 1 s →
    ∃ t, exec (.acceptedChange k raw order) s = .next t ∧ t.fm.first = some f ∧ t.tsq = { s.tsq with
        timer := t.tsq.timer, timerOn := t.tsq.timerOn, writeEnable := t.tsq.writeEnable } ∧
      t.mg = s.mg ∧ t.mu = s.mu ∧ t.cl = s.cl ∧ t.rl = s.rl ∧ t.oi = s.oi ∧
      (f = .columnLimit x upper ∨ .columnLimit x upper ∈ s.fm.later → t.fm = s.fm ∧ Reports s t []) ∧
      (f ≠ .columnLimit x upper → .columnLimit x upper ∉ s.fm.later →
        (s.fm.later.length < 3 → t.fm.later = s.fm.later ++ [.columnLimit x upper] ∧ t.fm.further = s.fm.further) ∧
        (3 ≤ s.fm.later.length → t.fm.later = s.fm.later ∧ t.fm.further = min 255 (s.fm.further + 1)) ∧
        Reports s t [⟨.fault, (match x with
            | .s => 1
            | .t => 3) + (if upper then 0 else 1),
          (match s.mu.pair with
            | some p => ((p.get x).toNat : Int)
            | none => -1), none, .fault⟩])) ∧
  (∀ (s : State) (k : Fin 12) (raw : BitVec 12) (order : List (Fin 12)) (h : InHand),
    watching s = true → LineChange k .doorClosed raw s → (s.slu.lines.get k).level = true →
    (s.slu.lines.get k).mode = .falling → OutputLaw s → s.tsq.state = .moving → s.tsq.brake = false →
    s.tsq.vacuum = true → s.tsq.inHand = some h → h.code = .space ∨ h.code = .runChain → s.fm.first = none →
    s.fm.doorCond = false → Room 2 s →
    ∃ t, exec (.acceptedChange k raw order) s = .next t ∧
      (s.mg.vt ≠ 0 ∨ s.mu.m ≠ 0 → t.fm.first = some .doorOpen ∧ t.fm.doorCond = true ∧ t.fm.haltWait = none ∧
        t.tsq = s.tsq.ended .halting false true ∧ t.mg = { s.mg with pendHalt := true } ∧ t.wk.active = false ∧
        t.mu = s.mu ∧ t.cl = s.cl ∧ t.rl = s.rl ∧ t.oi = s.oi ∧ SnapshotByState s t ∧
        Reports s t [⟨.fault, 11, s.mu.m, some h.seq, .halting⟩,
          ⟨.orderDone, 11, s.mu.p - h.pAtTake, some h.seq, .halting⟩]) ∧
      (s.mg.vt = 0 → s.mu.m = 0 → LineFollowed k 128 s t ∧ t = { s with slu := t.slu }))

/-! ## The port and the watched writes -/

/-- U_SIDE_ACCESS (R152, R161, R162, R189): granted, waiting, held, or passed for the Memory Agent's word. An access
presented while the one before is on the M-side is the one presented at the moment of its completion; that one
presented earlier, or beside it, changes nothing is the model's reading (log entry 26). The byte enables and the data
of the word that goes first, where it is a fetch's read, are the model's choice (log entry 41). -/
def Obligations.USideAccessesAreArbitrated : Prop :=
  (∀ (s : State) (acc : Access), s.ptp.u = none → ¬ ReadsProtected acc s → s.ptp.mSide = .free → NoAgentWord s →
    exec (.uSideAccess acc) s =
      .next { s with ptp := { s.ptp with
        u := some (acc, .granted), mSide := .forwarded acc s.mc.params.memTimeout } }) ∧
  (∀ (s : State) (acc : Access), s.ptp.u = none → ¬ ReadsProtected acc s → s.ptp.mSide ≠ .free →
    exec (.uSideAccess acc) s = .next { s with ptp := { s.ptp with u := some (acc, .waiting) } }) ∧
  (∀ (s : State) (acc : Access), s.ptp.u = none → ReadsProtected acc s → s.ptp.mSide ≠ .free ∨ NoAgentWord s →
    exec (.uSideAccess acc) s = .next { s with ptp := { s.ptp with u := some (acc, .held) } }) ∧
  (∀ (s : State) (acc : Access) (j : Job), s.ptp.u = none → ¬ ReadsProtected acc s → s.ptp.mSide = .free →
    s.ma.job = some j → j.waiting = true → s.ptp.guard < 4 →
    exec (.uSideAccess acc) s =
      .next { s with ptp := { s.ptp with
        u := some (acc, .granted), mSide := .forwarded acc s.mc.params.memTimeout, guard := s.ptp.guard + 1 } }) ∧
  (∀ (s : State) (acc : Access) (j : Job), s.ptp.u = none → ¬ ReadsProtected acc s → s.ptp.mSide = .free →
    s.ma.job = some j → j.waiting = true → InProgress j → 4 ≤ s.ptp.guard →
    exec (.uSideAccess acc) s =
      .next { s with
        ptp := { s.ptp with
          u := some (acc, .waiting), mSide := .agent (agentAccess j s) s.mc.params.memTimeout, guard := 0 }
        ma := ⟨some { j with waiting := false }⟩ }) ∧
  (∀ (s : State) (acc acc' : Access), s.ptp.u = some (acc', .granted) →
    exec (.uSideAccess acc) s =
      .next { s with ptp := { s.ptp with coming := match s.ptp.coming with
        | none => some acc
        | some first => some first } }) ∧
  (∀ (s : State) (acc acc' : Access), s.ptp.u = some (acc', .waiting) ∨ s.ptp.u = some (acc', .held) →
    exec (.uSideAccess acc) s = .next s)

/-- FORWARDED_ACCESS_END and MEMORY_RESPONSE_TIMEOUT (R152, R161, R163): the end of an access that is not watched,
and of one that is: the watched write's own command (log entry 3: the model's choice). An access presented at that
moment competes in the grant made there; that it is the one that Ptp.coming keeps is the model's reading (log entry 26).
The end of a watched write's own access does all that the snoop unit does with the write (the statements of the watched
writes say it of the state without the access), completes the access, and frees the M-side for the Memory Agent's word.
A job that becomes ready at a write's end may start before the grant, and its first word then competes with the
presented access, or after it (R161): before it where its start's command came before the end's and was kept for it (log
entry 5: the model's choice of the form).
That all that follows from the write, the head that is taken among it, comes before the start and the grant, so that the
access granted has the memory response timeout that it leaves, is the model's reading (log entry 10). The byte enables
and the data of the word that goes to the M-side, where it is a fetch's read, are the model's choice (log entry 41). -/
def Obligations.ForwardedAccessesEnd : Prop :=
  (∀ (s : State) (acc : Access) (n : Nat) (data : Word), s.ptp.mSide = .forwarded acc n → NothingDue s →
    acc.write = false → NoAgentWord s → s.ptp.coming = none →
    exec (.forwardedAccessEnd data) s =
      .next { s with ptp := { s.ptp with u := none, uDone := some ⟨false, some data⟩, mSide := .free } } ∧
    exec .memoryResponseTimeout s =
      .next { s with ptp := { s.ptp with u := none, uDone := some ⟨true, none⟩, mSide := .free } }) ∧
  (∀ (s : State) (acc : Access) (n : Nat) (data : Word), s.ptp.mSide = .forwarded acc n → NothingDue s →
    acc.write = true → NoAgentWord s → s.ptp.coming = none →
    (∀ off : Fin 2048, AtOffset acc (4 * off.val) s →
      640 ≤ off.val ∧ (off.val = 1152 ∨ off.val = 1153 → acc.be ≠ 0xF#4)) →
    exec (.forwardedAccessEnd data) s =
      .next { s with ptp := { s.ptp with u := none, uDone := some ⟨false, none⟩, mSide := .free } } ∧
    exec .memoryResponseTimeout s =
      .next { s with ptp := { s.ptp with u := none, uDone := some ⟨true, none⟩, mSide := .free } }) ∧
  (∀ (s : State) (acc : Access) (n : Nat) (data : Word) (j : Job), s.ptp.mSide = .forwarded acc n → NothingDue s →
    acc.write = false → s.ma.job = some j → j.waiting = true → InProgress j → s.ptp.coming = none →
    exec (.forwardedAccessEnd data) s =
      .next { s with
        ptp := { s.ptp with
          u := none, uDone := some ⟨false, some data⟩
          mSide := .agent (agentAccess j s) s.mc.params.memTimeout, guard := 0 }
        ma := ⟨some { j with waiting := false }⟩ }) ∧
  (∀ (s : State) (acc : Access) (n : Nat) (data : Word) (j : Fin 64) (k : Fin 7),
    s.ptp.mSide = .forwarded acc n → acc.write = true → AtOffset acc (32 * j.val + 4 * k.val) s →
    exec (.forwardedAccessEnd data) s = exec (.orderSlotWordWrite j k acc.be acc.data true) s ∧
    exec .memoryResponseTimeout s = exec (.orderSlotWordWrite j k acc.be acc.data false) s) ∧
  (∀ (s : State) (acc : Access) (n : Nat) (data : Word) (j : Fin 64),
    s.ptp.mSide = .forwarded acc n → acc.write = true → AtOffset acc (32 * j.val + 28) s →
    exec (.forwardedAccessEnd data) s = exec (.orderPostWordWrite j acc.be acc.data true) s ∧
    exec .memoryResponseTimeout s = exec (.orderPostWordWrite j acc.be acc.data false) s) ∧
  (∀ (s : State) (acc : Access) (n : Nat) (data : Word) (i : Fin 32) (k : Fin 3),
    s.ptp.mSide = .forwarded acc n → acc.write = true → AtOffset acc (0x0800 + 16 * i.val + 4 * k.val) s →
    exec (.forwardedAccessEnd data) s = exec (.segmentWordWrite i k acc.be acc.data true) s ∧
    exec .memoryResponseTimeout s = exec (.segmentWordWrite i k acc.be acc.data false) s) ∧
  (∀ (s : State) (acc : Access) (n : Nat) (data : Word) (i : Fin 32),
    s.ptp.mSide = .forwarded acc n → acc.write = true → AtOffset acc (0x0800 + 16 * i.val + 12) s →
    exec (.forwardedAccessEnd data) s = exec (.segmentClosingWrite i acc.be acc.data true) s ∧
    exec .memoryResponseTimeout s = exec (.segmentClosingWrite i acc.be acc.data false) s) ∧
  (∀ (s : State) (acc : Access) (n : Nat) (data : Word), s.ptp.mSide = .forwarded acc n → acc.write = true →
    acc.be = 0xF#4 →
    (AtOffset acc 0x1200 s → exec (.forwardedAccessEnd data) s = exec (.releaseWord acc.data true) s ∧
      exec .memoryResponseTimeout s = exec (.releaseWord acc.data false) s) ∧
    (AtOffset acc 0x1204 s → exec (.forwardedAccessEnd data) s = exec (.stopWord acc.data true) s ∧
      exec .memoryResponseTimeout s = exec (.stopWord acc.data false) s)) ∧
  (∀ (s : State) (acc next : Access) (n : Nat) (data : Word), s.ptp.mSide = .forwarded acc n → NothingDue s →
    acc.write = false → s.ptp.coming = some next → ¬ ReadsProtected next s →
    ∃ t, exec (.forwardedAccessEnd data) s = .next t ∧
      (NoAgentWord s →
        t = { s with ptp := { s.ptp with
          u := some (next, .granted), coming := none, uDone := some ⟨false, some data⟩
          mSide := .forwarded next s.mc.params.memTimeout } }) ∧
      ∀ j : Job, s.ma.job = some j → j.waiting = true → InProgress j →
        t = if s.ptp.guard < 4 then
            { s with ptp := { s.ptp with
              u := some (next, .granted), coming := none, uDone := some ⟨false, some data⟩
              mSide := .forwarded next s.mc.params.memTimeout, guard := s.ptp.guard + 1 } }
          else
            { s with
              ptp := { s.ptp with
                u := some (next, .waiting), coming := none, uDone := some ⟨false, some data⟩
                mSide := .agent (agentAccess j s) s.mc.params.memTimeout, guard := 0 }
              ma := ⟨some { j with waiting := false }⟩ }) ∧
  (∀ (s : State) (acc next : Access) (n : Nat) (data : Word) (j : Job), s.ptp.mSide = .forwarded acc n →
    NothingDue s → acc.write = false → s.ptp.coming = some next → ReadsProtected next s → s.ma.job = some j →
    j.waiting = true → InProgress j →
    exec (.forwardedAccessEnd data) s =
      .next { s with
        ptp := { s.ptp with
          u := some (next, .held), coming := none, uDone := some ⟨false, some data⟩
          mSide := .agent (agentAccess j s) s.mc.params.memTimeout, guard := 0 }
        ma := ⟨some { j with waiting := false }⟩ }) ∧
  (∀ (s : State) (acc : Access) (n : Nat) (answered : Bool) (c : Instr), s.ptp.mSide = .forwarded acc n →
    acc.write = true → s.ptp.coming = none → EndsWrite acc answered s c →
    ∃ t, exec c (completedU (!answered) none s) = .next t ∧
      (NoAgentWord s → exec c s = .next t) ∧
      ∀ j : Job, s.ma.job = some j → j.waiting = true → InProgress j →
        exec c s = .next { t with
          ptp := { t.ptp with mSide := .agent (agentAccess j s) t.mc.params.memTimeout, guard := 0 }
          ma := ⟨some { j with waiting := false }⟩ }) ∧
  (∀ (s : State) (acc next : Access) (n : Nat) (answered : Bool) (c : Instr),
    s.ptp.mSide = .forwarded acc n → acc.write = true → s.ptp.coming = some next → EndsWrite acc answered s c →
    ∃ t, exec c (completedU (!answered) none s) = .next t ∧ ThenGrants (exec c s) s.ptp.starting (presented next t)) ∧
  (∀ (s : State) (acc next : Access) (n : Nat) (data : Word),
    s.ptp.mSide = .forwarded acc n → NothingDue s → acc.write = true → s.ptp.coming = some next →
    (∀ off : Fin 2048, AtOffset acc (4 * off.val) s →
      640 ≤ off.val ∧ (off.val = 1152 ∨ off.val = 1153 → acc.be ≠ 0xF#4)) →
    ThenGrants (exec (.forwardedAccessEnd data) s) s.ptp.starting (presented next (completedU false none s)) ∧
    ThenGrants (exec .memoryResponseTimeout s) s.ptp.starting (presented next (completedU true none s))) ∧
  (∀ (s : State) (acc : Access) (n : Nat) (answered : Bool) (slot : Fin 64) (k : Fin 7),
    s.ptp.mSide = .forwarded acc n → acc.write = true → AtOffset acc (32 * slot.val + 4 * k.val) s →
    watching s = true → NothingDue s → s.ptp.coming = none → NoAgentWord s →
    ∃ t, exec (.orderSlotWordWrite slot k acc.be acc.data answered) s = .next t ∧
      Assembled (.slot slot) (k.castLE (by decide)) acc.be acc.data answered s t ∧
      t = { s with ptp := { s.ptp with
        bufs := t.ptp.bufs, u := none, uDone := some ⟨!answered, none⟩, mSide := .free } })

/-- ORDER_SLOT_WORD_WRITE and SEGMENT_WORD_WRITE (R154, R155): the word joins its record's buffer; nothing else. That
the command is the snoop unit's take alone where the M-side does not carry the write is log entry 3; where it does,
ForwardedAccessesEnd says what it is. -/
def Obligations.RecordWordsAreAssembled : Prop :=
  (∀ (s : State) (j : Fin 64) (k : Fin 7) (be : ByteEnables) (data : Word) (answered : Bool), Snooping s →
    ∃ t, exec (.orderSlotWordWrite j k be data answered) s = .next t ∧
      Assembled (.slot j) (k.castLE (by decide)) be data answered s t ∧
      t = { s with ptp := { s.ptp with bufs := t.ptp.bufs } }) ∧
  (∀ (s : State) (i : Fin 32) (k : Fin 3) (be : ByteEnables) (data : Word) (answered : Bool), Snooping s →
    ∃ t, exec (.segmentWordWrite i k be data answered) s = .next t ∧
      Assembled (.entry i) (k.castLE (by decide)) be data answered s t ∧
      t = { s with ptp := { s.ptp with bufs := t.ptp.bufs } })

/-- ORDER_POST_WORD_WRITE (R134, R137, R138, R139, R142, R156, R157): EMPTY; a whole capture, with a code and without
one; a capture that is not whole. As with the other watched writes, this is the snoop unit's take of the write, with no
access of it on the M-side (log entry 3). -/
def Obligations.PostWordsComplete : Prop :=
  (∀ (s : State) (j : Fin 64) (be : ByteEnables) (data : Word) (answered : Bool), Snooping s →
    be.getLsbD 1 = true → bits data 15 8 = 0 → exec (.orderPostWordWrite j be data answered) s = .next s) ∧
  (∀ (s : State) (j : Fin 64) (a : Assembly) (c : Code) (b : Body) (data : Word), Snooping s →
    Completed a (.slot j) [b.w0, b.w1, b.w2, b.w3, b.w4, b.w5, b.w6] s → bits data 15 8 = c.number →
    bits data 7 0 % 64 = j.val →
    exec (.orderPostWordWrite j 0xF#4 data true) s =
      exec (recordInstr c (BitVec.ofNat 8 (bits data 7 0)) b)
        { s with ptp := { s.ptp with bufs := buffersBut (.slot j) s } }) ∧
  (∀ (s : State) (j : Fin 64) (a : Assembly) (b : Body) (data : Word), Snooping s →
    Completed a (.slot j) [b.w0, b.w1, b.w2, b.w3, b.w4, b.w5, b.w6] s → bits data 15 8 ≠ 0 →
    (∀ c : Code, bits data 15 8 ≠ c.number) → BitVec.ofNat 8 (bits data 7 0) = s.oi.expected →
    s.oi.expected.toNat % 64 = j.val → s.oi.fetch = .none → Room 1 s →
    ∃ t, exec (.orderPostWordWrite j 0xF#4 data true) s = .next t ∧ IntakeAfter s.oi.expected [] s t ∧
      Reports s t [⟨.orderRefused, 1, (bits data 15 8 : Nat), some s.oi.expected, s.tsq.state⟩] ∧
      t = { s with oi := t.oi, ru := t.ru, ptp := { s.ptp with bufs := buffersBut (.slot j) s } }) ∧
  (∀ (s : State) (j : Fin 64) (be : ByteEnables) (data : Word) (answered : Bool), Snooping s →
    ¬ (be.getLsbD 1 = true ∧ bits data 15 8 = 0) →
    be ≠ 0xF#4 ∨ answered = false ∨ (∀ a ∈ s.ptp.bufs, a.target = .slot j → a.torn = true ∨ a.byWord0 = false ∨
      ∃ k : Fin 7, a.words.get (k.castLE (by decide)) = none) →
    ∃ t, exec (.orderPostWordWrite j be data answered) s = .next t ∧
      t.oi.ready = s.oi.ready ||| 1#64 <<< j.val ∧ t.oi.queue = [] ∧ t.oi.expected = s.oi.expected ∧
      t.oi.fetch = (match s.oi.fetch with
        | .none => if s.oi.expected.toNat % 64 = j.val then .ordered j else .none
        | .ordered i => .ordered i
        | .inFlight i reseen cancelled =>
          .inFlight i (reseen || (decide (i = j) && !cancelled)) cancelled) ∧
      t = { s with oi := t.oi, ptp := { s.ptp with bufs := buffersBut (.slot j) s } })

/-- SEGMENT_CLOSING_WRITE (R57 to R61, R156, R157): whole and partial captures of an entry that is not in use, of one
whose fetch is ordered or in flight, of one the walker awaits, and of one in use: the
snoop unit's take of the write (log entry 3). -/
def Obligations.SegmentClosingsAreCaptured : Prop :=
  (∀ (s : State) (i : Fin 32) (a : Assembly) (w0 w1 w2 data : Word), Snooping s →
    Completed a (.entry i) [w0, w1, w2] s → i ∉ s.wk.inUse →
    ∃ t, exec (.segmentClosingWrite i 0xF#4 data true) s = .next t ∧
      t.sc.entries = s.sc.entries.set i.val (.valid (copyOf w0 w1 w2 data)) i.isLt ∧
      (s.sc.entries.get i ≠ .fetching → t.sc.fetchList = s.sc.fetchList ∧ t.sc.inFlight = s.sc.inFlight) ∧
      (∀ f : SegFetch, s.sc.inFlight = some f → s.sc.entries.get i = .fetching → f.index = i →
        t.sc.fetchList = s.sc.fetchList ∧ t.sc.inFlight = some ⟨i, .discard⟩) ∧
      (s.sc.entries.get i = .fetching → (∀ f : SegFetch, s.sc.inFlight = some f → f.index ≠ i) →
        t.sc.fetchList = s.sc.fetchList.filter (· ≠ i) ∧ t.sc.inFlight = s.sc.inFlight) ∧
      t = { s with sc := t.sc, ptp := { s.ptp with bufs := buffersBut (.entry i) s } }) ∧
  (∀ (s : State) (i : Fin 32) (be : ByteEnables) (data : Word) (answered : Bool) (old : Segment), Snooping s →
    i ∈ s.wk.inUse → s.sc.entries.get i = .valid old ∨ s.sc.entries.get i = .stale old →
    exec (.segmentClosingWrite i be data answered) s =
      .next { s with
        sc := { s.sc with entries := s.sc.entries.set i.val (.stale old) i.isLt }
        ptp := { s.ptp with bufs := buffersBut (.entry i) s } }) ∧
  (∀ (s : State) (i : Fin 32) (be : ByteEnables) (data : Word) (answered : Bool), Snooping s → i ∉ s.wk.inUse →
    be ≠ 0xF#4 ∨ answered = false ∨ (∀ a ∈ s.ptp.bufs, a.target ≠ .entry i) →
    ∃ t, exec (.segmentClosingWrite i be data answered) s = .next t ∧
      (∀ f : SegFetch, s.sc.inFlight = some f → f.index = i →
        t.sc = { s.sc with
          entries := s.sc.entries.set i.val .fetching i.isLt, inFlight := some ⟨i, .reread⟩ }) ∧
      ((∀ f : SegFetch, s.sc.inFlight = some f → f.index ≠ i) → i ∈ s.sc.fetchList → t.sc = s.sc) ∧
      ((∀ f : SegFetch, s.sc.inFlight = some f → f.index ≠ i) → i ∉ s.sc.fetchList → s.wk.awaited ≠ some i →
        t.sc = { s.sc with entries := s.sc.entries.set i.val .invalid i.isLt }) ∧
      ((∀ f : SegFetch, s.sc.inFlight = some f → f.index ≠ i) → i ∉ s.sc.fetchList → s.wk.awaited = some i →
        t.sc = { s.sc with
          entries := s.sc.entries.set i.val .fetching i.isLt, fetchList := i :: s.sc.fetchList }) ∧
      t = { s with sc := t.sc, ptp := { s.ptp with bufs := buffersBut (.entry i) s } })

/-- RELEASE_WORD (R129, R173, R174): a value that is not accepted; one that is, forward, backward and equal:
the snoop unit's take of the write (log entry 3). -/
def Obligations.ReleasesMoveTheReadIndex : Prop :=
  (∀ (s : State) (data : Word) (answered : Bool), Snooping s →
    (if reportUnderWrite s = true then 127 else 128) < (s.ru.writeIdx - data.setWidth 8).toNat →
    exec (.releaseWord data answered) s = .next s) ∧
  (∀ (s : State) (data : Word) (answered : Bool), Snooping s →
    (s.ru.writeIdx - data.setWidth 8).toNat ≤ (if reportUnderWrite s = true then 127 else 128) →
    ∃ t, exec (.releaseWord data answered) s = .next t ∧ t.ru.readIdx = data.setWidth 8 ∧
      (let u := { s.ru with readIdx := (data.setWidth 8 : Byte) }
       t.ru = { u with
        attention := if s.mc.params.attnPulse then s.ru.attention
          else decide (MaskedReport s.mc.params.attnUrgent s.mc.params.attnRoutine u) }) ∧
      (∀ k : Fin 12, t.slu.lines.get k =
        if (data.setWidth 8 - s.ru.readIdx).toNat ≤ (s.ru.writeIdx - s.ru.readIdx).toNat ∧
            ∃ n : Fin 256, n.val < (data.setWidth 8 - s.ru.readIdx).toNat ∧
              ((s.ru.slots.get (slotOf (s.ru.readIdx + BitVec.ofNat 8 n.val))).any fun r =>
                r.senseId.any fun id => (s.slu.lines.get k).carry = .report id) = true then
          { s.slu.lines.get k with pending := false, carry := .none }
        else s.slu.lines.get k) ∧
      t = { s with ru := t.ru, slu := { s.slu with lines := t.slu.lines } })

/-- STOP_WORD (R100, R101, R145 to R147): the stop of a motion, of FILL and of WIND-OFF; no action where no motion is;
the flush: the snoop unit's take of the write (log entry 3). The stop request is applied at the next expiry: in RUN the
motion brakes, in SETTLE and in HOLD it ends there, STOPPED (R29, R35, R101). That it comes before a chain end held in
HOLD is the model's choice (log entry 29). -/
def Obligations.StopWordsStopAndFlush : Prop :=
  (∀ (s : State) (data : Word) (answered : Bool) (h : InHand), watching s = true → forwarding s = false →
    fetchDue s = false → data.getLsbD 1 = false → s.tsq.inHand = some h →
    s.tsq.state = .loadingSeek ∨ s.tsq.state = .moving ∨ s.tsq.state = .settling ∨ s.tsq.state = .rewindingFast ∨
      s.tsq.state = .rewindingSearch ∨ s.tsq.state = .rewindingReturn ∨ s.tsq.state = .unloadingReturn →
    exec (.stopWord data answered) s =
      .next { s with
        tsq := { s.tsq with inHand := some { h with stopping := true }, writeEnable := false }
        mg := { s.mg with
          pendStops := s.mg.pendStops ++ [if data.getLsbD 0 then .emergency else .controlled] } }) ∧
  (∀ (s : State) (data : Word) (answered : Bool), Snooping s → data.getLsbD 1 = false →
    s.tsq.state = .ready ∨ s.tsq.state = .unloaded ∨ s.tsq.state = .fault ∨ s.tsq.state = .halting →
    exec (.stopWord data answered) s = .next s) ∧
  (∀ (s : State) (data : Word) (answered : Bool) (h : InHand), Snooping s → OutputLaw s → data.getLsbD 1 = false →
    s.tsq.inHand = some h → h.code = .load ∨ h.code = .unload →
    s.tsq.state = .loadingFill ∨ s.tsq.state = .unloadingWindOff → Room 1 s →
    ∃ t, exec (.stopWord data answered) s = .next t ∧ t.tsq = s.tsq.ended .unloaded true false ∧ Braked t ∧
      t.mg = s.mg ∧ t.mu.p = s.mu.p ∧ t.mu.eot = s.mu.eot ∧ t.fm.first = s.fm.first ∧ t.sc = s.sc ∧ t.wk = s.wk ∧
      t.oi = s.oi ∧ SameSurroundings s t ∧ SnapshotByState s t ∧
      Reports s t [⟨.orderDone, 3, 0, some h.seq, .unloaded⟩]) ∧
  (∀ (s : State) (data : Word) (answered : Bool), watching s = true → forwarding s = false →
    data.getLsbD 1 = true →
    s.tsq.state = .ready ∨ s.tsq.state = .unloaded ∨ s.tsq.state = .fault ∨ s.tsq.state = .halting → Room 1 s →
    ∃ t, exec (.stopWord data answered) s = .next t ∧
      t.oi = ⟨BitVec.ofNat 8 (bits data 15 8), 0, [], (match s.oi.fetch with
        | .none => .none
        | .ordered _ => .none
        | .inFlight i reseen _ => .inFlight i reseen true)⟩ ∧
      Reports s t [⟨.ordersFlushed, if data.getLsbD 0 then 1 else 0, (discarded s.oi.queue s.oi.ready : Nat),
        some (BitVec.ofNat 8 (bits data 15 8)), s.tsq.state⟩] ∧
      t = { s with oi := t.oi, ru := t.ru }) ∧
  (∀ (s : State) (data : Word) (answered : Bool) (h : InHand), watching s = true → forwarding s = false →
    data.getLsbD 1 = true → s.tsq.inHand = some h → s.tsq.state = .moving ∨ s.tsq.state = .settling → Room 1 s →
    ∃ t, exec (.stopWord data answered) s = .next t ∧ t.tsq.inHand = some { h with stopping := true } ∧
      t.tsq.writeEnable = false ∧ t.oi.queue = [] ∧ t.oi.ready = 0 ∧
      t.oi.expected = BitVec.ofNat 8 (bits data 15 8) ∧
      t.mg = { s.mg with
        pendStops := s.mg.pendStops ++ [if data.getLsbD 0 then .emergency else .controlled] } ∧
      Reports s t [⟨.ordersFlushed, if data.getLsbD 0 then 1 else 0, (discarded s.oi.queue s.oi.ready : Nat),
        some (BitVec.ofNat 8 (bits data 15 8)), s.tsq.state⟩]) ∧
  (∀ (s : State) (o : ExpiryOrder) (m : Motion) (kind : StopKind), OnlyMotion { s with mg := { s.mg with pendStops := [] } } →
    s.mg.pendStops = [kind] → s.tsq.state = .moving → s.mg.phase = .run → s.mg.motion = some m →
    s.mg.stopped = false → s.mg.emergency = false → s.mu.eot = none → satFlag .s s = false → satFlag .t s = false →
    (let a := if kind = StopKind.emergency then s.mc.params.emergencyAccel else s.mg.accel
     1 ≤ a ∧ a < s.mg.v) →
    ∃ t, exec (.periodExpiry o) s = .next t ∧
      (let a := if kind = StopKind.emergency then s.mc.params.emergencyAccel else s.mg.accel
       let b : Nat := brakingDistance a 0 s.mg.v
       t.mg = { s.mg with
         pendStops := [], motion := some { m with settles := false }, accel := a
         emergency := decide (kind = StopKind.emergency), l := s.mg.d + b, r := b, w := 0, stopped := true, finalStop := true
         lookAhead := none }.committed (if m.forward then 1 else -1) (s.mg.v - a)) ∧
      t.tsq = s.tsq ∧ t.wk = s.wk ∧ t.sc = s.sc ∧ AroundMotion s t ∧ Reports s t [] ∧ SnapshotByExpiry s t) ∧
  (∀ (s : State) (o : ExpiryOrder) (kind : StopKind) (h : InHand),
    OnlyMotion { s with mg := { s.mg with pendStops := [] } } → OutputLaw s → s.mg.pendStops = [kind] →
    s.tsq.inHand = some h → h.stopping = true → h.code = .space ∨ h.code = .runChain →
    (s.tsq.state = .settling ∧ ∃ boundary : Bool, s.mg.phase = .settle boundary) ∨
      (s.tsq.state = .moving ∧ s.mg.phase = .hold) →
    (∀ (i : Fin 32) (copy : Segment), s.sc.entries.get i ≠ .stale copy) → s.tsq.vacuum = true → Room 1 s →
    ∃ t, exec (.periodExpiry o) s = .next t ∧ t.tsq = s.tsq.ended .ready s.tsq.brake s.tsq.vacuum ∧
      t.mg.phase = .idle ∧ t.mg.motion = none ∧ t.mg.vt = 0 ∧ t.mg.pendStops = [] ∧ t.wk.active = false ∧
      t.sc = s.sc ∧ AroundMotion s t ∧ Reports s t [⟨.orderDone, 3, newP s - h.pAtTake, some h.seq, .ready⟩] ∧
      SnapshotByExpiry s t)

/-! ## Orders -/

/-- LOAD (R75, R77, R88; R43, R49): accepted, and refused DOOR NOT CLOSED and WRONG STATE. -/
def Obligations.LoadStartsTheFill : Prop :=
  (∀ (s : State) (seq : Byte) (b : Body), HeadFree seq s → OutputLaw s → s.mc.mode = .run →
    s.tsq.state = .unloaded → level .doorClosed s = true → level .tapeInPath s = true →
    ∃ t, exec (.load seq b) s = .next t ∧ Taken seq s t ∧
      t.tsq = { s.tsq with
        state := .loadingFill, brake := false, vacuum := true, referenced := false
        inHand := some (handAtTake seq .load b false .none s), timer := 0, timerOn := true } ∧
      t.mu = { s.mu with
        est := ⟨{ s.mu.est.s with tally := 0, sum := 0, circ := none },
          { s.mu.est.t with tally := 0, sum := 0, circ := none }⟩ } ∧
      (∀ x : Reel, t.rl.get x =
        ⟨.fill, if s.mu.pair.isSome = true ∧ s.mu.missCount < 3 then -(s.mc.params.fillDrive : Int) else 0, 0, .none,
          false⟩) ∧
      t.cl = s.cl ∧ t.mg = s.mg ∧ t.sc = s.sc ∧ t.wk = s.wk ∧ t.fm.first = s.fm.first ∧ t.fm.vacTimer = 0 ∧
      SameSurroundings s t ∧ Reports s t []) ∧
  (∀ (s : State) (seq : Byte) (b : Body), HeadFree seq s → s.mc.mode = .run → s.tsq.state = .unloaded →
    level .doorClosed s = false → Room 1 s → ∃ t, exec (.load seq b) s = .next t ∧ Refused 6 0 seq s t) ∧
  (∀ (s : State) (seq : Byte) (b : Body), HeadFree seq s → s.mc.mode = .run → s.tsq.state = .unloaded →
    level .doorClosed s = true → level .tapeInPath s = false → Room 1 s →
    ∃ t, exec (.load seq b) s = .next t ∧ Refused 3 0 seq s t)

/-- REWIND and UNLOAD in READY (R92 to R94): the FAST leg of a referenced tape, and the SEARCH REVERSE leg; UNLOAD in
FAULT (R96, R119). BOT crossings in the legs that search (R86): the reverse one is marked and the mark stop applied, at
this expiry or at the next (R30; which, is the expiry's order, log entry 8), and the forward one rebases P and re-aims
the motion at the load point, at this expiry or at the next (R11, R31). Four points of these crossings are the model's
choices or readings: that the sequencer takes a crossing at the expiry that resolves it (log entry 42), that it does so
before the report, whose P is therefore the rebased one (log entry 20), which of the two expiries applies the stop or
the re-aim (log entry 8), and that a re-aim clears an overrun (log entry 30). -/
def Obligations.RewindAndUnloadAreTaken : Prop :=
  (∀ (s : State) (unload : Bool) (seq : Byte) (b : Body), HeadFree seq s → ReadyAtRest s → s.mc.mode = .run →
    s.tsq.referenced = true → 0 < s.mu.p + s.mc.params.botMargin →
    ∃ t, exec (if unload then .unload seq b else .rewind seq b) s = .next t ∧ Taken seq s t ∧
      t.tsq = { s.tsq with
        state := if unload then .unloadingReturn else .rewindingFast
        inHand := some (handAtTake seq (if unload then .unload else .rewind) b false .fast s)
        timer := 0, timerOn := false } ∧
      Started ⟨.fast, false, s.mc.params.accel, s.mc.params.rewindSpeed, false⟩ (s.mu.p + s.mc.params.botMargin) s t ∧
      t.mu = s.mu ∧ t.cl = s.cl ∧ t.rl = s.rl ∧ t.sc = s.sc ∧ t.wk = s.wk ∧ t.fm = s.fm ∧ SameSurroundings s t ∧
      Reports s t []) ∧
  (∀ (s : State) (unload : Bool) (seq : Byte) (b : Body), HeadFree seq s → ReadyAtRest s → s.mc.mode = .run →
    s.tsq.referenced = false ∨ s.mu.p + s.mc.params.botMargin ≤ 0 →
    ∃ t, exec (if unload then .unload seq b else .rewind seq b) s = .next t ∧ Taken seq s t ∧
      t.tsq = { s.tsq with
        state := if unload then .unloadingReturn else .rewindingSearch
        inHand := some (handAtTake seq (if unload then .unload else .rewind) b false .searchReverse s)
        timer := 0, timerOn := false } ∧
      Started ⟨.search, false, s.mc.params.accel, s.mc.params.searchSpeed, false⟩ s.mc.params.searchLimit s t ∧
      t.mu = s.mu ∧ t.cl = s.cl ∧ t.rl = s.rl ∧ t.sc = s.sc ∧ t.wk = s.wk ∧ t.fm = s.fm ∧ SameSurroundings s t ∧
      Reports s t []) ∧
  (∀ (s : State) (seq : Byte) (b : Body), HeadFree seq s → OutputLaw s → s.mc.mode = .run → s.tsq.state = .fault →
    Room 1 s →
    ∃ t, exec (.unload seq b) s = .next t ∧ Taken seq s t ∧
      t.tsq = { s.tsq with state := .unloaded, brake := true, vacuum := false, referenced := false } ∧ Braked t ∧
      t.fm = ⟨none, [], 0, none, 0, false, ⟨0, 0⟩, 0, false⟩ ∧ t.mu.p = s.mu.p ∧ t.mu.eot = s.mu.eot ∧
      t.mg = s.mg ∧ t.sc = s.sc ∧ t.wk = s.wk ∧ SameSurroundings s t ∧
      Reports s t [⟨.orderDone, 0, 0, some seq, .unloaded⟩]) ∧
  (∀ (s : State) (o : ExpiryOrder) (m : Motion) (h : InHand) (pos : Int) (c : Nat),
    OnlyMotion { s with mu := { s.mu with notices := [] } } → s.mu.notices = [⟨.bot, pos⟩] → newDirection s = false →
    s.tsq.state = .rewindingSearch → s.mg.phase = .run → s.mg.motion = some m → s.mg.accel = m.accel →
    s.mg.w = 0 → s.mu.eot = none → s.wk.active = false → s.tsq.inHand = some h → h.leg = .searchReverse →
    h.stopping = false → h.crossingSeen = false → s.mc.params.mask.markCrossed = true → Room 1 s →
    (if o.crossingsFirst then 1 ≤ m.accel ∧ m.accel < s.mg.v ∧ c = s.mg.v - m.accel
     else Fits s.mg.v s.mg.accel (topSpeed m.ceiling s) 0 s.mg.r c ∧ 1 ≤ c) →
    ∃ t, exec (.periodExpiry o) s = .next t ∧
      (let dir : Int := if m.forward then 1 else -1
       let b : Nat := brakingDistance m.accel 0 s.mg.v
       t.mg = (if o.crossingsFirst then { s.mg with l := s.mg.d + b, r := b }
         else { s.mg with pendMarkStop := true } : Mg).committed dir c) ∧
      t.tsq = { s.tsq with inHand := some { h with crossingSeen := true } } ∧
      t.mu = { measuredMu s with notices := [] } ∧ t.wk = s.wk ∧ t.sc = s.sc ∧ t.rl = s.rl ∧
      t.fm.first = s.fm.first ∧ t.oi = s.oi ∧ SameSurroundings s t ∧
      Reports s t [⟨.markCrossed, 2, pos, some h.seq, .rewindingSearch⟩] ∧ SnapshotByExpiry s t) ∧
  (∀ (s : State) (o : ExpiryOrder) (m : Motion) (h : InHand) (pos : Int) (c : Nat),
    OnlyMotion { s with mu := { s.mu with notices := [] } } → s.mu.notices = [⟨.bot, pos⟩] → newDirection s = true →
    o.crossingsFirst = true → s.tsq.state = .rewindingReturn → s.mg.phase = .run → s.mg.motion = some m →
    m.forward = true → s.mg.stopped = false → s.wk.active = false → s.tsq.inHand = some h →
    h.leg = .searchForward → h.stopping = false → h.crossingSeen = false → s.mc.params.mask.markCrossed = true →
    Room 1 s →
    (let x : Int := newP s - pos - s.mc.params.loadOffset
     x < 33554431 ∧ -33554432 < x ∧
       Fits s.mg.v s.mg.accel (topSpeed m.ceiling s) 0 (max (-x) (brakingDistance s.mg.accel 0 s.mg.v)) c) → 1 ≤ c →
    ∃ t, exec (.periodExpiry o) s = .next t ∧
      (let x : Int := newP s - pos - s.mc.params.loadOffset
       let r : Int := max (-x) (brakingDistance s.mg.accel 0 s.mg.v)
       t.mu = { measuredMu s with notices := [], p := x, eot := none } ∧
       t.mg = { s.mg with
         q := x, r := r, l := s.mg.d + r, w := 0, aim := some 0, overrun := none
         motion := some { m with settles := true } }.committed 1 c) ∧
      t.tsq = { s.tsq with inHand := some { h with crossingSeen := true }, referenced := true } ∧
      t.wk = s.wk ∧ t.sc = s.sc ∧ t.rl = s.rl ∧ t.fm.first = s.fm.first ∧ t.oi = s.oi ∧ SameSurroundings s t ∧
      Reports s t [⟨.markCrossed, 1, pos, some h.seq, .rewindingReturn⟩] ∧ SnapshotByExpiry s t) ∧
  (∀ (s : State) (o : ExpiryOrder) (m : Motion) (h : InHand) (pos : Int) (c : Nat),
    OnlyMotion { s with mu := { s.mu with notices := [] } } → s.mu.notices = [⟨.bot, pos⟩] → newDirection s = true →
    o.crossingsFirst = false → s.tsq.state = .rewindingReturn → s.mg.phase = .run → s.mg.motion = some m →
    m.forward = true → s.mg.w = 0 → s.mu.eot = none → s.wk.active = false → s.tsq.inHand = some h →
    h.leg = .searchForward → h.stopping = false → h.crossingSeen = false → s.mc.params.mask.markCrossed = true →
    Room 1 s →
    (let x : Int := newP s - pos - s.mc.params.loadOffset
     x < 33554431 ∧ -33554432 < x) → Fits s.mg.v s.mg.accel (topSpeed m.ceiling s) 0 s.mg.r c → 1 ≤ c →
    ∃ t, exec (.periodExpiry o) s = .next t ∧
      t.mu = { measuredMu s with
        notices := [], p := newP s - pos - s.mc.params.loadOffset, eot := none } ∧
      t.mg = ({ s.mg with pendReaim := some 0 } : Mg).committed 1 c ∧
      t.tsq = { s.tsq with inHand := some { h with crossingSeen := true }, referenced := true } ∧
      t.wk = s.wk ∧ t.sc = s.sc ∧ t.rl = s.rl ∧ t.fm.first = s.fm.first ∧ t.oi = s.oi ∧ SameSurroundings s t ∧
      Reports s t [⟨.markCrossed, 1, pos, some h.seq, .rewindingReturn⟩] ∧ SnapshotByExpiry s t)

/-- RUN CHAIN (R25, R64 to R67, R69, R82, R84): its start segment entered as the last one or flowing into the next,
awaited in HOLD, and refused for want of the ring. An expiry in HOLD: the awaited segment is entered when it is usable,
waited for when it is not, and the chain ends where its fetch has failed (R27, R67, R83). An empty segment takes all
eight steps of R65 and is skipped (R68): one that is last ends the chain at its start, and one awaited in HOLD leads to
its next entry, awaited in its turn. That WRITE ENABLE stays as step 8 sets it until the first expiry takes the end of
such a start is the model's reading (log entry 18). -/
def Obligations.RunChainEntersItsStart : Prop :=
  (∀ (s : State) (seq : Byte) (b : Body) (i : Fin 32) (seg : Segment), HeadFree seq s → ReadyAtRest s →
    s.mc.mode = .run → i.val = b.w1.toNat / 65536 % 32 → s.sc.entries.get i = .valid seg → seg.distance ≠ 0 →
    seg.approach = 0 → ¬ (seg.reverse = true ∧ seg.write = true) → seg.last = true →
    b.w1.getLsbD 24 = false ∨ level .writeRing s = true →
    ∃ t, exec (.runChain seq b) s = .next t ∧ Taken seq s t ∧
      t.tsq = { s.tsq with
        state := .moving, inHand := some (handAtTake seq .runChain b false .chain s), timer := 0, timerOn := false
        writeEnable := b.w1.getLsbD 24 && seg.write && level .writeRing s } ∧
      Started ⟨.chain, !seg.reverse, seg.accel, seg.vmax, true⟩ seg.distance s t ∧ t.mg.finalStop = true ∧
      t.wk = ⟨true, some (i, seg), 1, [i], none, seg.distance, false, false, seg.adjusted, seq, b.w1.getLsbD 25⟩ ∧
      t.mu = s.mu ∧ t.cl = s.cl ∧ t.rl = s.rl ∧ t.sc = s.sc ∧ t.fm = s.fm ∧ SameSurroundings s t ∧
      Reports s t []) ∧
  (∀ (s : State) (seq : Byte) (b : Body) (i : Fin 32) (seg n : Segment), HeadFree seq s → ReadyAtRest s →
    s.mc.mode = .run → i.val = b.w1.toNat / 65536 % 32 → s.sc.entries.get i = .valid seg → seg.distance ≠ 0 →
    seg.approach = 0 → ¬ (seg.reverse = true ∧ seg.write = true) → seg.last = false → seg.flow = true →
    s.sc.entries.get seg.next = .valid n → n.reverse = seg.reverse → ¬ (n.reverse = true ∧ n.write = true) →
    1 ≤ seg.vmax → 1 ≤ n.vmax → 1 ≤ s.mc.params.globalLimit →
    b.w1.getLsbD 24 = false ∨ level .writeRing s = true →
    ∃ t, exec (.runChain seq b) s = .next t ∧ Taken seq s t ∧ t.mg.phase = .run ∧ t.mg.r = seg.distance ∧
      t.mg.l = seg.distance ∧ t.mg.w = min (min seg.vmax n.vmax) s.mc.params.globalLimit ∧
      t.mg.lookAhead = some (seg.next, n) ∧ t.mg.finalStop = false ∧ t.wk.current = some (i, seg) ∧
      t.wk.visits = 1 ∧ t.tsq.state = .moving ∧
      t.tsq.writeEnable = (b.w1.getLsbD 24 && seg.write && level .writeRing s) ∧ t.sc = s.sc ∧
      SameSurroundings s t ∧ Reports s t []) ∧
  (∀ (s : State) (seq : Byte) (b : Body) (i : Fin 32), HeadFree seq s → ReadyAtRest s → s.mc.mode = .run →
    i.val = b.w1.toNat / 65536 % 32 → s.sc.entries.get i = .invalid →
    b.w1.getLsbD 24 = false ∨ level .writeRing s = true →
    ∃ t, exec (.runChain seq b) s = .next t ∧ Taken seq s t ∧ t.mg.phase = .hold ∧ t.mg.vt = s.mg.vt ∧
      t.wk.active = true ∧ t.wk.awaited = some i ∧ t.wk.current = none ∧ t.wk.visits = 0 ∧ t.wk.seq = seq ∧
      t.sc = { s.sc with
        entries := s.sc.entries.set i.val .fetching i.isLt, fetchList := i :: s.sc.fetchList.filter (· ≠ i) } ∧
      t.tsq = { s.tsq with
        state := .moving, inHand := some (handAtTake seq .runChain b false .chain s), timer := 0, timerOn := false
        writeEnable := false } ∧
      t.mu = s.mu ∧ t.cl = s.cl ∧ t.rl = s.rl ∧ t.fm = s.fm ∧ SameSurroundings s t ∧ Reports s t []) ∧
  (∀ (s : State) (seq : Byte) (b : Body), HeadFree seq s → s.mc.mode = .run → s.tsq.state = .ready →
    b.w1.getLsbD 24 = true → level .writeRing s = false → Room 1 s →
    ∃ t, exec (.runChain seq b) s = .next t ∧ Refused 7 0 seq s t) ∧
  (∀ (s : State) (o : ExpiryOrder) (m : Motion) (h : InHand) (i : Fin 32) (seg : Segment), OnlyMotion s →
    s.tsq.state = .moving → s.mg.phase = .hold → s.mg.chainEnd = none → s.mg.motion = some m →
    s.tsq.inHand = some h → s.wk.active = true → s.wk.awaited = some i → s.wk.approachReports = false →
    s.sc.entries.get i = .valid seg ∨ s.sc.entries.get i = .stale seg → seg.distance ≠ 0 →
    ¬ (seg.reverse = true ∧ seg.write = true) → seg.last = true →
    ∃ t, exec (.periodExpiry o) s = .next t ∧
      t.mg = { s.mg with
        phase := .run, v := 0, vt := 0, prevVt := 0, delta := -s.mg.prevVt, accel := seg.accel
        motion := some { m with forward := !seg.reverse, accel := seg.accel, ceiling := seg.vmax }
        l := s.mg.l + seg.distance, r := seg.distance, w := 0, lookAhead := none, finalStop := true } ∧
      t.wk = { s.wk with
        visits := s.wk.visits + 1, inUse := if i ∈ s.wk.inUse then s.wk.inUse else i :: s.wk.inUse
        current := some (i, seg), awaited := none, g := seg.distance, approachDone := false
        adjusted := s.wk.adjusted || seg.adjusted } ∧
      t.tsq = { s.tsq with
        writeEnable := decide (h.code = .runChain) && h.fields.writeIntent && !h.stopping && !seg.reverse && seg.write &&
          level .writeRing s } ∧
      t.sc = s.sc ∧ AroundMotion s t ∧ Reports s t [] ∧ SnapshotByExpiry s t) ∧
  (∀ (s : State) (o : ExpiryOrder) (i : Fin 32), OnlyMotion s → s.tsq.state = .moving → s.mg.phase = .hold →
    s.mg.chainEnd = none → s.wk.awaited = some i →
    s.sc.entries.get i = .invalid ∨ s.sc.entries.get i = .fetching →
    ∃ t, exec (.periodExpiry o) s = .next t ∧
      t.mg = { s.mg with vt := 0, prevVt := 0, delta := -s.mg.prevVt } ∧ t.tsq = s.tsq ∧ t.wk = s.wk ∧
      t.sc = s.sc ∧ AroundMotion s t ∧ Reports s t [] ∧ SnapshotByExpiry s t) ∧
  (∀ (s : State) (o : ExpiryOrder) (h : InHand), OnlyMotion s → OutputLaw s → s.tsq.state = .moving →
    s.tsq.vacuum = true → s.mg.phase = .hold → s.mg.chainEnd = some .segmentUnavailable → s.tsq.inHand = some h →
    h.leg = .chain → h.code = .runChain → h.stopping = false → s.wk.active = true →
    (∀ (k : Fin 32) (copy : Segment), s.sc.entries.get k ≠ .stale copy) → Room 1 s →
    ∃ t, exec (.periodExpiry o) s = .next t ∧ t.tsq = s.tsq.ended .ready s.tsq.brake s.tsq.vacuum ∧
      t.mg.phase = .idle ∧ t.mg.motion = none ∧ t.mg.vt = 0 ∧ t.wk.active = false ∧ t.wk.awaited = none ∧
      t.wk.inUse = [] ∧ t.sc = s.sc ∧ AroundMotion s t ∧
      Reports s t [⟨.orderDone, 7, newP s - h.pAtTake, some h.seq, .ready⟩] ∧ SnapshotByExpiry s t) ∧
  (∀ (s : State) (seq : Byte) (b : Body) (i : Fin 32) (seg : Segment), HeadFree seq s → ReadyAtRest s →
    s.mc.mode = .run → i.val = b.w1.toNat / 65536 % 32 → s.sc.entries.get i = .valid seg → seg.distance = 0 →
    ¬ (seg.reverse = true ∧ seg.write = true) → seg.last = true → Room 1 s → s.mc.params.mask.segmentEmpty = true →
    b.w1.getLsbD 24 = false ∨ level .writeRing s = true →
    ∃ t, exec (.runChain seq b) s = .next t ∧ Taken seq s t ∧ t.mg.phase = .hold ∧
      t.mg.chainEnd = some .complete ∧ t.mg.l = 0 ∧ t.mg.r = 0 ∧ t.mg.vt = s.mg.vt ∧
      t.wk = ⟨true, some (i, seg), 1, [i], none, 0, false, false, seg.adjusted, seq, b.w1.getLsbD 25⟩ ∧
      t.tsq = { s.tsq with
        state := .moving, inHand := some (handAtTake seq .runChain b false .chain s), timer := 0, timerOn := false
        writeEnable := b.w1.getLsbD 24 && seg.write && level .writeRing s } ∧
      t.mu = s.mu ∧ t.cl = s.cl ∧ t.rl = s.rl ∧ t.sc = s.sc ∧ t.fm = s.fm ∧ SameSurroundings s t ∧
      Reports s t [⟨.segmentEmpty, i.val, 1, some seq, .moving⟩]) ∧
  (∀ (s : State) (o : ExpiryOrder) (m : Motion) (i : Fin 32) (seg : Segment), OnlyMotion s →
    s.tsq.state = .moving → s.mg.phase = .hold → s.mg.chainEnd = none → s.mg.motion = some m →
    s.wk.active = true → s.wk.awaited = some i → s.sc.entries.get i = .valid seg ∨ s.sc.entries.get i = .stale seg →
    seg.distance = 0 → ¬ (seg.reverse = true ∧ seg.write = true) → seg.last = false → s.wk.visits + 1 ≠ 32 →
    s.sc.entries.get seg.next = .invalid → Room 1 s → s.mc.params.mask.segmentEmpty = true →
    ∃ t, exec (.periodExpiry o) s = .next t ∧
      t.mg = { s.mg with
        phase := .hold, v := 0, vt := 0, prevVt := 0, delta := -s.mg.prevVt, accel := seg.accel
        motion := some { m with forward := !seg.reverse, accel := seg.accel, ceiling := seg.vmax }
        r := 0, w := 0, lookAhead := none, finalStop := false } ∧
      t.wk = { s.wk with
        visits := s.wk.visits + 1, inUse := if i ∈ s.wk.inUse then s.wk.inUse else i :: s.wk.inUse
        current := some (i, seg), awaited := some seg.next, g := 0, approachDone := false
        adjusted := s.wk.adjusted || seg.adjusted } ∧
      t.tsq = { s.tsq with writeEnable := false } ∧
      t.sc = { s.sc with
        entries := s.sc.entries.set seg.next.val .fetching seg.next.isLt
        fetchList := seg.next :: s.sc.fetchList.filter (· ≠ seg.next) } ∧
      AroundMotion s t ∧
      Reports s t [⟨.segmentEmpty, i.val, s.wk.visits + 1, some s.wk.seq, .moving⟩] ∧ SnapshotByExpiry s t)

/-- SPACE (R21, R78, R81): a distance, a speed class beyond the three, and a distance of 0. -/
def Obligations.SpaceStartsItsMotion : Prop :=
  (∀ (s : State) (seq : Byte) (b : Body), HeadFree seq s → ReadyAtRest s → s.mc.mode = .run →
    b.w0.toNat % 16777216 ≠ 0 →
    ∃ t, exec (.space seq b) s = .next t ∧ Taken seq s t ∧
      (let speedClass : Nat := b.w1.toNat / 256 % 4
       t.tsq = { s.tsq with
        state := .moving, timer := 0, timerOn := false
        inHand := some { handAtTake seq .space b (decide (speedClass = 3)) .space s with
          fields := { orderFields b with speedClass := if speedClass = 3 then 0 else speedClass } } } ∧
       Started
        ⟨.space, !b.w1.getLsbD 0, s.mc.params.accel,
          if speedClass = 1 then s.mc.params.searchSpeed
          else if speedClass = 2 then s.mc.params.rewindSpeed else s.mc.params.normalSpeed, true⟩
        ((b.w0.toNat % 16777216 : Nat) : Int) s t) ∧
      t.mu = s.mu ∧ t.cl = s.cl ∧ t.rl = s.rl ∧ t.sc = s.sc ∧ t.wk = s.wk ∧ t.fm = s.fm ∧ SameSurroundings s t ∧
      Reports s t []) ∧
  (∀ (s : State) (seq : Byte) (b : Body), HeadFree seq s → s.mc.mode = .run → s.tsq.state = .ready →
    b.w0.toNat % 16777216 = 0 → Room 1 s →
    ∃ t, exec (.space seq b) s = .next t ∧ Taken seq s t ∧ SameTransport s t ∧ SameSurroundings s t ∧
      Reports s t [⟨.orderDone, 1, 0, some seq, .ready⟩])

/-- R76, R80: a MARKER completes at its take and changes nothing, in FAULT too; behind an order it waits, and is answered
after that order's ORDER DONE, when the transport becomes READY. That an expiry takes the head as its last part, so that
the state it leaves says whether the MARKER was taken, is the model's reading (log entry 10). -/
def Obligations.MarkersAnswerInOrder : Prop :=
  (∀ (s : State) (seq : Byte) (b : Body), HeadFree seq s → s.mc.mode = .run → Room 1 s →
    ∃ t, exec (.marker seq b) s = .next t ∧ Taken seq s t ∧ SameTransport s t ∧ SameSurroundings s t ∧
      Reports s t [⟨.orderDone, 0, 0, some seq, s.tsq.state⟩]) ∧
  (∀ (s : State) (seq : Byte) (b : Body) (h : InHand), TakenDirectly seq s → s.tsq.inHand = some h →
    ∃ t, exec (.marker seq b) s = .next t ∧ IntakeAfter seq (s.oi.queue ++ [⟨seq, .marker, b⟩]) s t ∧
      t = { s with oi := t.oi }) ∧
  (∀ (h : InHand) (s : State) (seq : Byte) (b : Body) (o : ExpiryOrder), FinalSettle h s → s.mc.mode = .run →
    s.oi.queue = [⟨seq, .marker, b⟩] → fetchDue s = false → Room 2 s → SettlesNow s →
    ∃ t, exec (.periodExpiry o) s = .next t ∧ t.tsq = s.tsq.ended .ready s.tsq.brake s.tsq.vacuum ∧
      t.oi = { s.oi with queue := [] } ∧
      Reports s t
        [⟨.orderDone, if s.mg.clamped then 4 else if h.clamped then 1 else 0, newP s - h.pAtTake, some h.seq, .ready⟩,
         ⟨.orderDone, 0, 0, some seq, .ready⟩]) ∧
  (∀ (h : InHand) (s : State) (seq : Byte) (b : Body) (o : ExpiryOrder), watching s = true →
    s.tsq.inHand = some h → s.oi.queue = [⟨seq, .marker, b⟩] →
    ∃ t, exec (.periodExpiry o) s = .next t ∧
      (t.tsq.inHand = none → Serving t → t.oi.queue = []) ∧
      (t.tsq.inHand ≠ none ∨ ¬ Serving t → t.oi.queue = [⟨seq, .marker, b⟩]))

/-- CLEAR FAULT (R97, R117, R118): to READY, to UNLOADED, and refused CAUSE PERSISTS. -/
def Obligations.ClearFaultChoosesTheState : Prop :=
  (∀ (s : State) (seq : Byte) (b : Body) (f : FaultKind) (p : PerReel (BitVec 10)), HeadFree seq s →
    s.mc.mode = .run → s.tsq.state = .fault → s.fm.first = some f → (∀ k ∈ f :: s.fm.later, persists s k = false) →
    s.tsq.vacuum = true → s.mu.pair = some p → s.mu.missCount < 3 → (∀ x : Reel, InBand x (p.get x).toNat s) →
    Room 2 s →
    ∃ t, exec (.clearFault seq b) s = .next t ∧ Taken seq s t ∧
      t.tsq = { s.tsq with state := .ready, brake := false } ∧
      t.fm.first = none ∧ t.fm.later = [] ∧ t.fm.further = 0 ∧ t.fm.haltWait = none ∧ t.fm.runaway = 0 ∧
      t.fm.highRun = s.fm.highRun ∧ t.fm.vacTimer = s.fm.vacTimer ∧ t.mu.p = s.mu.p ∧ t.mg = s.mg ∧
      t.cl.run = true ∧ (∀ x : Reel, (t.rl.get x).mode = .loop) ∧ t.sc = s.sc ∧ t.wk = s.wk ∧
      SameSurroundings s t ∧
      Reports s t
        [⟨.faultCleared, f.number, (1 + s.fm.later.length + s.fm.further : Nat), some seq, .fault⟩,
         ⟨.orderDone, 0, 0, some seq, .ready⟩]) ∧
  (∀ (s : State) (seq : Byte) (b : Body) (f : FaultKind), HeadFree seq s → OutputLaw s → s.mc.mode = .run →
    s.tsq.state = .fault → s.fm.first = some f → (∀ k ∈ f :: s.fm.later, persists s k = false) →
    s.tsq.vacuum = false ∨ s.mu.pair = none ∨ 3 ≤ s.mu.missCount ∨
      (∃ x : Reel, ∀ p : PerReel (BitVec 10), s.mu.pair = some p → ¬ InBand x (p.get x).toNat s) → Room 2 s →
    ∃ t, exec (.clearFault seq b) s = .next t ∧ Taken seq s t ∧
      t.tsq = { s.tsq with state := .unloaded, brake := true, vacuum := false } ∧ Braked t ∧
      t.fm.first = none ∧ t.fm.later = [] ∧ t.fm.further = 0 ∧ t.fm.haltWait = none ∧ t.fm.runaway = 0 ∧
      t.mu.p = s.mu.p ∧ t.mg = s.mg ∧ t.sc = s.sc ∧ t.wk = s.wk ∧ SameSurroundings s t ∧
      Reports s t
        [⟨.faultCleared, f.number, (1 + s.fm.later.length + s.fm.further : Nat), some seq, .fault⟩,
         ⟨.orderDone, 0, 0, some seq, .unloaded⟩]) ∧
  (∀ (s : State) (seq : Byte) (b : Body) (f k : FaultKind) (before after : List FaultKind), HeadFree seq s →
    s.mc.mode = .run → s.tsq.state = .fault → s.fm.first = some f → f :: s.fm.later = before ++ k :: after →
    (∀ x ∈ before, persists s x = false) → persists s k = true → Room 1 s →
    ∃ t, exec (.clearFault seq b) s = .next t ∧ Refused 8 k.number seq s t)

/-- RETURN TO SETUP in RUN and in SETUP (R77, R98, R188). -/
def Obligations.ReturnToSetupCompletes : Prop :=
  (∀ (s : State) (seq : Byte) (b : Body), HeadFree seq s → s.mc.mode = .run →
    s.tsq.state = .ready ∨ s.tsq.state = .unloaded → Room 1 s →
    ∃ t, exec (.returnToSetup seq b) s = .next t ∧ Taken seq s t ∧ SameTransport s t ∧ SameBus s t ∧ t.slu = s.slu ∧
      t.mc = { s.mc with mode := .setup } ∧ Reports s t [⟨.orderDone, 0, 0, some seq, s.tsq.state⟩]) ∧
  (∀ (s : State) (seq : Byte) (b : Body), HeadFree seq s → s.mc.mode = .setup → Room 1 s →
    ∃ t, exec (.returnToSetup seq b) s = .next t ∧ Taken seq s t ∧ SameTransport s t ∧ SameSurroundings s t ∧
      Reports s t [⟨.orderDone, 0, 0, some seq, s.tsq.state⟩])

/-- TRANSPORT RESET (R19, R38, R56, R99, R119, R150). -/
def Obligations.TransportResetStartsAfresh : Prop :=
  ∀ (s : State) (seq : Byte) (b : Body), HeadFree seq s → s.mc.mode = .run → s.wk.active = false → Room 1 s →
    ∃ t, exec (.transportReset seq b) s = .next t ∧ t.oi = ⟨seq + 1, 0, [], .none⟩ ∧ SnapshotByState s t ∧
      t.tsq = { s.tsq with
        state := .unloaded, brake := true, vacuum := false, writeEnable := false, referenced := false } ∧
      t.fm = ⟨none, [], 0, none, 0, false, ⟨0, 0⟩, 0, false⟩ ∧ t.mg = Mg.reset ∧ t.cl = ⟨false, 0, 0, .none⟩ ∧
      (∀ x : Reel, t.rl.get x = ⟨.off, 0, 0, .none, (s.rl.get x).band⟩) ∧
      t.mu = { s.mu with
        p := 0, eot := none, silence := ⟨0, 0⟩
        est := ⟨{ s.mu.est.s with tally := 0, sum := 0 }, { s.mu.est.t with tally := 0, sum := 0 }⟩ } ∧
      t.sc = s.sc ∧ t.wk = s.wk ∧ SameSurroundings s t ∧
      Reports s t
        [⟨.orderDone, 0, (discarded [] (s.oi.ready &&& ~~~(1#64 <<< (seqSlot seq).val)) : Nat), some seq, .unloaded⟩]

/-- R77, R182: orders refused WRONG STATE by the table, orders refused WRONG MODE in SETUP, and setup records refused
WRONG MODE in RUN. -/
def Obligations.RecordsAreRefusedByModeAndState : Prop :=
  (∀ (s : State) (c : Code) (seq : Byte) (b : Body), HeadFree seq s → s.mc.mode = .run →
    (c = .load ∧ s.tsq.state ≠ .unloaded) ∨ (c = .unload ∧ s.tsq.state = .unloaded) ∨
      ((c = .rewind ∨ c = .runChain ∨ c = .space) ∧ s.tsq.state ≠ .ready) ∨
      (c = .clearFault ∧ s.tsq.state ≠ .fault) ∨ (c = .returnToSetup ∧ s.tsq.state = .fault) → Room 1 s →
    ∃ t, exec (recordInstr c seq b) s = .next t ∧ Refused 3 0 seq s t) ∧
  (∀ (s : State) (c : Code) (seq : Byte) (b : Body), HeadFree seq s → s.mc.mode = .setup → c.number < 16 →
    c ≠ .returnToSetup → Room 1 s → ∃ t, exec (recordInstr c seq b) s = .next t ∧ Refused 2 0 seq s t) ∧
  (∀ (s : State) (c : Code) (seq : Byte) (b : Body), HeadFree seq s → s.mc.mode = .run → 16 ≤ c.number → Room 1 s →
    ∃ t, exec (recordInstr c seq b) s = .next t ∧ Refused 2 0 seq s t)

/-! ## Setup records -/

/-- R184: each parameter setup code sets its whole group, clamped by R183 to the ranges of section 11.5, and SET REEL
GAINS leaves the other reel's gains as they were. -/
def Obligations.ParameterRecordsSetTheirGroups : Prop :=
  (∀ (s : State) (seq : Byte) (b : Body), HeadFree seq s → s.mc.mode = .setup → Room 1 s →
    ∃ t, exec (.setReelGains seq b) s = .next t ∧
      (let g : ReelGains := ⟨bits b.w0 12 0, bits b.w1 7 0, bits b.w1 15 8, bits b.w1 23 16⟩
       let p := { s.mc.params with
         gains := if b.w0.getLsbD 16 then { s.mc.params.gains with t := g } else { s.mc.params.gains with s := g } }
       AppliedSetup 16 p p seq s t)) ∧
  (∀ (s : State) (seq : Byte) (b : Body), HeadFree seq s → s.mc.mode = .setup → Room 1 s →
    ∃ t, exec (.setCapstanGains seq b) s = .next t ∧
      (let p := { s.mc.params with kcf := bits b.w0 7 0, kcp := bits b.w0 15 8, kci := bits b.w0 23 16 }
       AppliedSetup 17 p p seq s t)) ∧
  (∀ (s : State) (seq : Byte) (b : Body), HeadFree seq s → s.mc.mode = .setup → Room 1 s →
    ∃ t, exec (.setSpeeds seq b) s = .next t ∧
      (let w := { s.mc.params with
         normalSpeed := bits b.w0 6 0, searchSpeed := bits b.w0 14 8, rewindSpeed := bits b.w0 22 16
         globalLimit := bits b.w0 30 24, accel := bits b.w1 3 0, emergencyAccel := bits b.w1 12 8
         creep := bits b.w1 19 16 }
       AppliedSetup 19 w
        { w with
          normalSpeed := held 1 127 w.normalSpeed, searchSpeed := held 1 127 w.searchSpeed
          rewindSpeed := held 1 127 w.rewindSpeed, globalLimit := held 1 127 w.globalLimit
          accel := held 1 15 w.accel, emergencyAccel := held 1 31 w.emergencyAccel, creep := held 1 8 w.creep }
        seq s t)) ∧
  (∀ (s : State) (seq : Byte) (b : Body), HeadFree seq s → s.mc.mode = .setup → Room 1 s →
    ∃ t, exec (.setLimits seq b) s = .next t ∧
      (let w := { s.mc.params with
         searchLimit := bits b.w0 23 0, settleWindow := bits b.w0 29 24, botMargin := bits b.w1 15 0
         eotOverrun := bits b.w1 31 16, loadOffset := bits b.w2 15 0, stallTime := bits b.w2 31 16
         settleTimeout := bits b.w3 11 0, vacuumSettle := bits b.w3 23 12, settleCount := bits b.w3 27 24
         loadTimeout := bits b.w3 31 28, stallThreshold := bits b.w4 10 0, unloadTime := bits b.w4 15 11
         runawayLimit := bits b.w4 23 16, memTimeout := bits b.w4 31 24 }
       AppliedSetup 20 w
        { w with
          searchLimit := held 1000 16000000 w.searchLimit, settleWindow := held 0 63 w.settleWindow
          botMargin := held 0 65535 w.botMargin, eotOverrun := held 0 65535 w.eotOverrun
          loadOffset := held 0 65535 w.loadOffset, stallTime := held 8 65535 w.stallTime
          settleTimeout := held 8 2000 w.settleTimeout, vacuumSettle := held 50 2000 w.vacuumSettle
          settleCount := held 1 15 w.settleCount, loadTimeout := held 1 15 w.loadTimeout
          stallThreshold := held 1 2047 w.stallThreshold, unloadTime := held 1 30 w.unloadTime
          runawayLimit := held 1 255 w.runawayLimit, memTimeout := held 8 255 w.memTimeout }
        seq s t)) ∧
  (∀ (s : State) (seq : Byte) (b : Body), HeadFree seq s → s.mc.mode = .setup → Room 1 s →
    ∃ t, exec (.setDefaultCircumference seq b) s = .next t ∧
      (let w := { s.mc.params with defaultCirc := bits b.w0 14 0 }
       AppliedSetup 23 w { w with defaultCirc := held 6000 17000 w.defaultCirc } seq s t))

/-- R185: SET COLUMNS is applied with its values clamped where both bands lie within 0..1023, and refused BAD VALUE
with detail value 0 where a band does not. -/
def Obligations.SetColumnsTestsTheBands : Prop :=
  ∀ (s : State) (seq : Byte) (b : Body), HeadFree seq s → s.mc.mode = .setup → Room 1 s →
    ∃ t, exec (.setColumns seq b) s = .next t ∧
      (let w := { s.mc.params with
         setpoint := ⟨bits b.w0 9 0, bits b.w0 25 16⟩, halfWidth := bits b.w1 7 0, fillDrive := bits b.w1 25 16
         unloadDrive := bits b.w2 9 0 }
       let p := { w with
         setpoint := ⟨held 128 896 w.setpoint.s, held 128 896 w.setpoint.t⟩, halfWidth := held 16 255 w.halfWidth
         fillDrive := held 0 1023 w.fillDrive, unloadDrive := held 0 1023 w.unloadDrive }
       if (p.halfWidth ≤ p.setpoint.s ∧ p.setpoint.s + p.halfWidth ≤ 1023) ∧
           p.halfWidth ≤ p.setpoint.t ∧ p.setpoint.t + p.halfWidth ≤ 1023 then
         AppliedSetup 18 w p seq s t
       else Refused 10 0 seq s t)

/-- R131: the checks of SET SENSE LINE, in their order; the entry that a record which passes them sets, with the level
that R132 and R133 load from the present raw input, and all that the record does where it changes no level (R132, R182,
R186). Where the present raw input is found, in State.inputs or, with none given, in the raw inputs last seen, is the
model's choice (log entry 23). -/
def Obligations.SetSenseLineIsChecked : Prop :=
  (∀ (s : State) (seq : Byte) (b : Body), HeadFree seq s → s.mc.mode = .setup → Room 1 s →
    11 < bits b.w0 3 0 ∨ 10 < bits b.w0 11 8 ∨ 4 < bits b.w0 18 16 →
    ∃ t, exec (.setSenseLine seq b) s = .next t ∧ Refused 10 0 seq s t) ∧
  (∀ (s : State) (seq : Byte) (b : Body) (f : Func) (j k : Fin 12), HeadFree seq s → s.mc.mode = .setup → Room 1 s →
    bits b.w0 3 0 = k.val → bits b.w0 11 8 = f.number → bits b.w0 18 16 ≤ 4 → f ≠ .none →
    (∀ i : Fin 12, i ≠ k → ((s.slu.lines.get i).func = f ↔ i = j)) → j ≠ k →
    ∃ t, exec (.setSenseLine seq b) s = .next t ∧ Refused 9 j.val seq s t) ∧
  (∀ (s : State) (seq : Byte) (b : Body) (f : Func) (m : LineMode) (k : Fin 12), HeadFree seq s →
    s.mc.mode = .setup → bits b.w0 3 0 = k.val → bits b.w0 11 8 = f.number →
    bits b.w0 18 16 = (match m with
      | .rising => 0
      | .falling => 1
      | .both => 2
      | .high => 3
      | .low => 4) →
    (∀ i : Fin 12, i ≠ k → f ≠ .none → (s.slu.lines.get i).func ≠ f) →
    ∃ t, exec (.setSenseLine seq b) s = .next t ∧
      t.slu.lines.get k =
        ⟨f, m, b.w0.getLsbD 24, BitVec.ofNat 3 (bits b.w0 30 28),
          decide (f ≠ .none) && ((s.inputs.headD s.slu.raw).getLsbD k.val != b.w0.getLsbD 24), 0, false, .none⟩ ∧
      (∀ i : Fin 12, i ≠ k →
        (t.slu.lines.get i).func = (s.slu.lines.get i).func ∧ (t.slu.lines.get i).mode = (s.slu.lines.get i).mode ∧
        (t.slu.lines.get i).invert = (s.slu.lines.get i).invert ∧
        (t.slu.lines.get i).exponent = (s.slu.lines.get i).exponent ∧
        (t.slu.lines.get i).level = (s.slu.lines.get i).level ∧
        (t.slu.lines.get i).timer = (s.slu.lines.get i).timer) ∧
      t.mc = s.mc) ∧
  (∀ (s : State) (seq : Byte) (b : Body) (f : Func) (m : LineMode) (k : Fin 12), HeadFree seq s →
    s.mc.mode = .setup → Room 1 s → bits b.w0 3 0 = k.val → bits b.w0 11 8 = f.number →
    bits b.w0 18 16 = (match m with
      | .rising => 0
      | .falling => 1
      | .both => 2
      | .high => 3
      | .low => 4) →
    (∀ i : Fin 12, i ≠ k → f ≠ .none → (s.slu.lines.get i).func ≠ f) →
    (∀ i : Fin 12, i ≠ k → (s.slu.lines.get k).func ≠ .none → (s.slu.lines.get i).func ≠ (s.slu.lines.get k).func) →
    (s.slu.lines.get k).func = .none ∨ (s.slu.lines.get k).func = f ∨
      (s.slu.lines.get k).level = (s.slu.lines.get k).func.unassignedLevel →
    f = .none ∨ ((s.inputs.headD s.slu.raw).getLsbD k.val != b.w0.getLsbD 24) = level f s →
    ∃ t, exec (.setSenseLine seq b) s = .next t ∧ Taken seq s t ∧ SameTransport s t ∧ SameBus s t ∧ t.mc = s.mc ∧
      t.freeCount = s.freeCount ∧ t.inputs = s.inputs.tail ∧
      t.slu = { s.slu with
        raw := s.inputs.headD s.slu.raw
        lines := s.slu.lines.set k.val
          ⟨f, m, b.w0.getLsbD 24, BitVec.ofNat 3 (bits b.w0 30 28),
            decide (f ≠ .none) && ((s.inputs.headD s.slu.raw).getLsbD k.val != b.w0.getLsbD 24), 0, false, .none⟩ k.isLt } ∧
      Reports s t [⟨.setupApplied, 0, 21, some seq, s.tsq.state⟩])

/-- SET REPORTING (R174 to R176, R182, R186). That the interval counter becomes 0 only where the interval changes is
R176's wording (log entry 21). -/
def Obligations.SetReportingTakesEffect : Prop :=
  ∀ (s : State) (seq : Byte) (b : Body), HeadFree seq s → s.mc.mode = .setup → Room 1 s →
    ∃ t, exec (.setReporting seq b) s = .next t ∧ IntakeAfter seq [] s t ∧ SameTransport s t ∧ SameBus s t ∧
      t.slu = s.slu ∧
      t.mc = { s.mc with
        params := { s.mc.params with
          mask := ⟨b.w0.getLsbD 0, b.w0.getLsbD 1, b.w0.getLsbD 2, b.w0.getLsbD 3, b.w0.getLsbD 4⟩
          attnPulse := b.w0.getLsbD 8, attnUrgent := b.w0.getLsbD 9, attnRoutine := b.w0.getLsbD 10
          snapInterval := bits b.w0 23 16 } } ∧
      t.ru = { s.ru with
        pendingReports := s.ru.pendingReports ++
          reportsSaying t s.ru.nextId [⟨.setupApplied, 0, 22, some seq, s.tsq.state⟩]
        nextId := s.ru.nextId + 1
        attention :=
          if b.w0.getLsbD 8 = false then decide (MaskedReport (b.w0.getLsbD 9) (b.w0.getLsbD 10) s.ru)
          else if s.mc.params.attnPulse = true then s.ru.attention else false
        pulse := b.w0.getLsbD 8 && s.mc.params.attnPulse && s.ru.pulse
        snapCounter := if bits b.w0 23 16 = s.mc.params.snapInterval then s.ru.snapCounter else 0 }

/-- R187: ENTER RUN in SETUP; the next record is then judged in RUN; ENTER RUN in RUN. -/
def Obligations.EnterRunChangesTheMode : Prop :=
  (∀ (s : State) (seq : Byte) (b : Body), HeadFree seq s → s.mc.mode = .setup → Room 1 s →
    ∃ t, exec (.enterRun seq b) s = .next t ∧ Taken seq s t ∧ SameTransport s t ∧ SameBus s t ∧ t.slu = s.slu ∧
      t.mc = { s.mc with mode := .run } ∧ Reports s t [⟨.setupApplied, 0, 24, some seq, s.tsq.state⟩]) ∧
  (∀ (s t : State) (seq : Byte) (c : Code) (b b' : Body), HeadFree seq s → s.mc.mode = .setup → Room 1 s →
    exec (.enterRun seq b) s = .next t → HeadFree (seq + 1) t → Room 1 t →
    ∃ u, exec (recordInstr c (seq + 1) b') t = .next u ∧ (16 ≤ c.number → Refused 2 0 (seq + 1) t u) ∧
      ((c = .load ∧ t.tsq.state ≠ .unloaded) ∨ (c = .unload ∧ t.tsq.state = .unloaded) ∨
        ((c = .rewind ∨ c = .runChain ∨ c = .space) ∧ t.tsq.state ≠ .ready) ∨
        (c = .clearFault ∧ t.tsq.state ≠ .fault) ∨ (c = .returnToSetup ∧ t.tsq.state = .fault) →
        Refused 3 0 (seq + 1) t u) ∧
      (c = .marker →
        Taken (seq + 1) t u ∧ Reports t u [⟨.orderDone, 0, 0, some (seq + 1), t.tsq.state⟩])) ∧
  (∀ (s : State) (seq : Byte) (b : Body), HeadFree seq s → s.mc.mode = .run → Room 1 s →
    ∃ t, exec (.enterRun seq b) s = .next t ∧ Refused 2 0 seq s t)

/-! ## Order Intake, the Memory Agent and the reports -/

/-- R135 to R138, R142, R143: a record that joins the queue, one that finds it full, one ahead of its turn, one whose
slot is being fetched, and one that carries another sequence than the expected one of its slot. That the last is refused
at once just after a flush too, where R148 can be read as a flag and a fetch, is the model's choice (log entry 40).
Before SETUP and RUN no record is taken. -/
def Obligations.RecordsWaitTheirTurn : Prop :=
  (∀ (s : State) (c : Code) (seq : Byte) (b : Body) (h : InHand), TakenDirectly seq s → s.tsq.inHand = some h →
    ∃ t, exec (recordInstr c seq b) s = .next t ∧ IntakeAfter seq (s.oi.queue ++ [⟨seq, c, b⟩]) s t ∧
      t = { s with oi := t.oi }) ∧
  (∀ (s : State) (c : Code) (seq : Byte) (b : Body) (h : InHand), watching s = true → s.tsq.inHand = some h →
    8 ≤ s.oi.queue.length → s.oi.fetch = .none →
    exec (recordInstr c seq b) s =
      .next { s with oi := { s.oi with ready := s.oi.ready ||| 1#64 <<< (seqSlot seq).val } }) ∧
  (∀ (s : State) (c : Code) (seq : Byte) (b : Body), watching s = true → NothingDue s → s.oi.fetch = .none →
    seqSlot seq ≠ seqSlot s.oi.expected →
    exec (recordInstr c seq b) s =
      .next { s with oi := { s.oi with ready := s.oi.ready ||| 1#64 <<< (seqSlot seq).val } }) ∧
  (∀ (s : State) (c : Code) (seq : Byte) (b : Body) (reseen : Bool), watching s = true → NothingDue s →
    s.oi.fetch = .inFlight (seqSlot seq) reseen false →
    exec (recordInstr c seq b) s =
      .next { s with oi := { s.oi with
        ready := s.oi.ready ||| 1#64 <<< (seqSlot seq).val, fetch := .inFlight (seqSlot seq) true false } }) ∧
  (∀ (s : State) (c : Code) (seq : Byte) (b : Body), watching s = true → NothingDue s → s.oi.fetch = .none →
    seqSlot seq = seqSlot s.oi.expected → seq ≠ s.oi.expected → Room 1 s →
    ∃ t, exec (recordInstr c seq b) s = .next t ∧ IntakeAfter s.oi.expected [] s t ∧
      Reports s t [⟨.orderRefused, 4, seq.toNat, some s.oi.expected, s.tsq.state⟩] ∧
      t = { s with oi := t.oi, ru := t.ru }) ∧
  (∀ (s : State) (c : Code) (seq : Byte) (b : Body), watching s = false →
    exec (recordInstr c seq b) s = .next s)

/-- REPORT_WRITE_START, ORDER_FETCH_START, SEGMENT_FETCH_START and SNAPSHOT_WRITE_START (R61, R139, R159 to R162,
R170, R177): each, taken while the agent is IDLE and the job is ready, begins the job. Two jobs that become ready while
the agent is IDLE start in the order of their commands. What a start does while the agent is BUSY, or while its job is
not ready, is the model's reading (log entry 5): it changes nothing, or, while a write is on the M-side at whose end the
next access is presented, it is kept for that end (R161). The byte enables and the data of a fetch's first word on the
M-side are the model's choice (log entry 41). -/
def Obligations.JobsStartInOrder : Prop :=
  (∀ (s : State) (r : Report) (rest : List Report), s.ma.job = none → s.ru.pendingReports = r :: rest →
    (s.ru.writeIdx - s.ru.readIdx).toNat < 128 →
    ∃ t, exec .reportWriteStart s = .next t ∧
      t = { s with ru := { s.ru with pendingReports := rest, loss := 0 }, ma := t.ma, ptp := t.ptp } ∧
      JobBegins (.reportWrite (slotOf s.ru.writeIdx) r s.ru.nextSeq s.ru.loss) (reportWords r s.ru.nextSeq s.ru.loss)
        s t) ∧
  (∀ (s : State) (i : Fin 64), s.ma.job = none → s.oi.fetch = .ordered i →
    ∃ t, exec .orderFetchStart s = .next t ∧
      t = { s with oi := { s.oi with fetch := .inFlight i false false }, ma := t.ma, ptp := t.ptp } ∧
      JobBegins (.orderFetch i) [] s t) ∧
  (∀ (s : State) (i : Fin 32) (rest : List (Fin 32)), s.ma.job = none → s.sc.fetchList = i :: rest →
    s.sc.inFlight = none →
    ∃ t, exec .segmentFetchStart s = .next t ∧
      t = { s with sc := { s.sc with fetchList := rest, inFlight := some ⟨i, .none⟩ }, ma := t.ma, ptp := t.ptp } ∧
      JobBegins (.segmentFetch i) [] s t) ∧
  (∀ s : State, s.ma.job = none → s.ru.snapDue = true →
    ∃ t, exec .snapshotWriteStart s = .next t ∧
      t = { s with ru := { s.ru with snapDue := false, snapCounter := 0 }, ma := t.ma, ptp := t.ptp } ∧
      JobBegins .snapshotWrite (snapshotWords s) s t) ∧
  (∀ s : State, s.ma.job ≠ none ∨ ¬ ReportReady s → ¬ KeepsStarts s → exec .reportWriteStart s = .next s) ∧
  (∀ s : State, s.ma.job ≠ none ∨ ¬ OrderReady s → ¬ KeepsStarts s → exec .orderFetchStart s = .next s) ∧
  (∀ s : State, s.ma.job ≠ none ∨ ¬ SegmentReady s → ¬ KeepsStarts s → exec .segmentFetchStart s = .next s) ∧
  (∀ s : State, s.ma.job ≠ none ∨ s.ru.snapDue = false → ¬ KeepsStarts s → exec .snapshotWriteStart s = .next s) ∧
  (∀ (s : State) (k : AgentJob), KeepsStarts s → ¬ CanStart k s →
    exec (startCommand k) s =
      .next { s with ptp := { s.ptp with starting := match s.ptp.starting with
        | none => some k
        | some first => some first } })

/-- AGENT_WORD_END (R62, R140, R142, R159 to R162, R171, R177): the next word, in competition with the drive
processor's access; the last word of each job, after which the owner has been told, the read that the job held waits,
and the agent chooses its next job. The last word of an order fetch, by its marks and its post word: with an order in
hand its record joins the queue; with the head free or not, the record it brings is taken as its own command takes it.
That the owner and what follows from it come before the choice, and the choice before the grant, all in this step, is
the model's reading (log entries 5 and 10); that a read which the ended job held is held again where the chosen job writes
its word too is the model's choice (log entry 43). The byte enables and the data of a fetch's next word on the M-side are the
model's choice (log entry 41). -/
def Obligations.AgentWordsEnd : Prop :=
  (∀ (s : State) (a : Access) (n : Nat) (j : Job) (data : Word), s.ptp.mSide = .agent a n → s.ma.job = some j →
    j.pos + 1 < (wordsInOrder j.kind).length → NothingDue s → s.ptp.u = none →
    (let j' : Job := { j with
       pos := j.pos + 1, waiting := false, got := if j.kind.isWrite then j.got else j.got ++ [data] }
     exec (.agentWordEnd data) s =
      .next { s with
        ma := ⟨some j'⟩
        ptp := { s.ptp with mSide := .agent (agentAccess j' s) s.mc.params.memTimeout, guard := 0 } })) ∧
  (∀ (s : State) (a acc : Access) (n : Nat) (j : Job) (data : Word), s.ptp.mSide = .agent a n → s.ma.job = some j →
    j.pos + 1 < (wordsInOrder j.kind).length → NothingDue s → s.ptp.u = some (acc, .waiting) → s.ptp.guard < 4 →
    exec (.agentWordEnd data) s =
      .next { s with
        ma := ⟨some { j with
          pos := j.pos + 1, waiting := true, got := if j.kind.isWrite then j.got else j.got ++ [data] }⟩
        ptp := { s.ptp with
          u := some (acc, .granted), mSide := .forwarded acc s.mc.params.memTimeout, guard := s.ptp.guard + 1 } }) ∧
  (∀ (s : State) (a acc : Access) (n : Nat) (j : Job) (data : Word), s.ptp.mSide = .agent a n → s.ma.job = some j →
    j.pos + 1 < (wordsInOrder j.kind).length → NothingDue s →
    s.ptp.u = some (acc, .held) ∨ (s.ptp.u = some (acc, .waiting) ∧ 4 ≤ s.ptp.guard) →
    (let j' : Job := { j with
       pos := j.pos + 1, waiting := false, got := if j.kind.isWrite then j.got else j.got ++ [data] }
     exec (.agentWordEnd data) s =
      .next { s with
        ma := ⟨some j'⟩
        ptp := { s.ptp with mSide := .agent (agentAccess j' s) s.mc.params.memTimeout, guard := 0 } })) ∧
  (∀ (s : State) (a : Access) (n : Nat) (slot : Fin 128) (r : Report) (seq : BitVec 16) (loss : Nat)
      (out got : List Word) (waiting : Bool) (data : Word), s.ptp.mSide = .agent a n →
    s.ma.job = some ⟨.reportWrite slot r seq loss, 3, waiting, out, got⟩ → NothingDue s →
    (let urgent := decide (r.kind = .fault ∨ r.kind = .faultCleared ∨ r.kind = .ordersFlushed)
     let masked := if urgent then s.mc.params.attnUrgent else s.mc.params.attnRoutine
     let u := { s.ru with
       slots := s.ru.slots.set slot.val
         (some ⟨urgent, if r.kind = ReportKind.senseChange then some r.id else none⟩) slot.isLt
       writeIdx := s.ru.writeIdx + 1, nextSeq := s.ru.nextSeq + 1 }
     ThenChooses (exec (.agentWordEnd data) s)
      { s with
        ru := { u with
          attention := if s.mc.params.attnPulse then s.ru.attention || masked
            else decide (MaskedReport s.mc.params.attnUrgent s.mc.params.attnRoutine u)
          pulse := s.ru.pulse || (s.mc.params.attnPulse && masked) }
        ma := ⟨none⟩
        ptp := { s.ptp with mSide := .free, u := releasedU s.ptp.u } })) ∧
  (∀ (s : State) (a : Access) (n : Nat) (out got : List Word) (waiting : Bool) (data : Word),
    s.ptp.mSide = .agent a n → s.ma.job = some ⟨.snapshotWrite, 3, waiting, out, got⟩ → NothingDue s →
    ThenChooses (exec (.agentWordEnd data) s)
      { s with
        ru := { s.ru with snapCount := s.ru.snapCount + 1 }, ma := ⟨none⟩
        ptp := { s.ptp with mSide := .free, u := releasedU s.ptp.u } }) ∧
  (∀ (s : State) (a : Access) (n : Nat) (j : Fin 64) (b : Body) (waiting reseen cancelled : Bool)
      (out : List Word) (data : Word), s.ptp.mSide = .agent a n →
    s.ma.job = some ⟨.orderFetch j, 7, waiting, out, [b.w0, b.w1, b.w2, b.w3, b.w4, b.w5, b.w6]⟩ →
    s.oi.fetch = .inFlight j reseen cancelled → (cancelled = false → j = seqSlot s.oi.expected) →
    s.oi.queue.length < 8 → s.oi.queue = [] ∨ s.tsq.inHand.isSome = true →
    ∃ t, ThenChooses (exec (.agentWordEnd data) s) t ∧
      (reseen = true ∨ cancelled = true →
        t.oi = { s.oi with fetch := nextFetch s.oi.expected s.oi.ready } ∧ t.ru = s.ru) ∧
      (reseen = false → cancelled = false → bits data 15 8 = 0 →
        t.oi = { s.oi with
          ready := s.oi.ready &&& ~~~(1#64 <<< (seqSlot s.oi.expected).val), fetch := .none } ∧ t.ru = s.ru) ∧
      (∀ c : Code, reseen = false → cancelled = false → s.tsq.inHand.isSome = true → bits data 15 8 = c.number →
        BitVec.ofNat 8 (bits data 7 0) = s.oi.expected →
        IntakeAfter s.oi.expected (s.oi.queue ++ [⟨s.oi.expected, c, b⟩]) s t ∧ t.ru = s.ru) ∧
      (reseen = false → cancelled = false → bits data 15 8 ≠ 0 → Room 1 s →
        BitVec.ofNat 8 (bits data 7 0) ≠ s.oi.expected →
        IntakeAfter s.oi.expected s.oi.queue s t ∧
          Reports s t [⟨.orderRefused, 4, (bits data 7 0 : Nat), some s.oi.expected, s.tsq.state⟩]) ∧
      (reseen = false → cancelled = false → bits data 15 8 ≠ 0 → Room 1 s →
        BitVec.ofNat 8 (bits data 7 0) = s.oi.expected → (∀ c : Code, bits data 15 8 ≠ c.number) →
        IntakeAfter s.oi.expected s.oi.queue s t ∧
          Reports s t [⟨.orderRefused, 1, (bits data 15 8 : Nat), some s.oi.expected, s.tsq.state⟩]) ∧
      (s.tsq.inHand.isSome = true ∨ reseen = true ∨ cancelled = true ∨ bits data 15 8 = 0 ∨
          BitVec.ofNat 8 (bits data 7 0) ≠ s.oi.expected ∨ (∀ c : Code, bits data 15 8 ≠ c.number) →
        t = { s with
          oi := t.oi, ru := t.ru, ma := ⟨none⟩, ptp := { s.ptp with mSide := .free, u := releasedU s.ptp.u } })) ∧
  (∀ (s : State) (a : Access) (n : Nat) (c : Code) (b : Body) (waiting : Bool) (out : List Word) (data : Word),
    s.ptp.mSide = .agent a n → watching s = true →
    s.ma.job = some ⟨.orderFetch (seqSlot s.oi.expected), 7, waiting, out,
      [b.w0, b.w1, b.w2, b.w3, b.w4, b.w5, b.w6]⟩ →
    s.oi.fetch = .inFlight (seqSlot s.oi.expected) false false → s.oi.queue.length < 8 →
    bits data 15 8 = c.number → BitVec.ofNat 8 (bits data 7 0) = s.oi.expected →
    ∃ t, exec (recordInstr c s.oi.expected b) { s with
        oi := { s.oi with fetch := .none }, ma := ⟨none⟩
        ptp := { s.ptp with mSide := .free, u := releasedU s.ptp.u } } = .next t ∧
      ThenChooses (exec (.agentWordEnd data) s) t) ∧
  (∀ (s : State) (a : Access) (n : Nat) (i : Fin 32) (mark : FetchMark) (waiting : Bool) (out : List Word)
      (w0 w1 w2 data : Word), s.ptp.mSide = .agent a n →
    s.ma.job = some ⟨.segmentFetch i, 3, waiting, out, [w0, w1, w2]⟩ → s.sc.inFlight = some ⟨i, mark⟩ →
    NothingDue s →
    ThenChooses (exec (.agentWordEnd data) s)
      { s with
        sc := (match mark with
          | .none => { s.sc with
              entries := s.sc.entries.set i.val (.valid (copyOf w0 w1 w2 data)) i.isLt, inFlight := none }
          | .discard => { s.sc with inFlight := none }
          | .reread => { s.sc with fetchList := i :: s.sc.fetchList.filter (· ≠ i), inFlight := none })
        ma := ⟨none⟩
        ptp := { s.ptp with mSide := .free, u := releasedU s.ptp.u } })

/-- AGENT_WORD_TIMEOUT (R62, R67, R129, R141, R162, R164, R166, R172, R177): each job abandoned, after which the owner
has been told, the read that the job held waits, and the agent chooses again (log entries 5 and 10); a word left by a
line reset. A read that the abandoned job held is held again where the chosen job writes its word too: the model's choice
(log entry 43). That the chain walker still awaits the index whose fetch has failed is the model's choice (log entry 39). -/
def Obligations.AgentTimeoutsAbandonTheJob : Prop :=
  (∀ (s : State) (a : Access) (n : Nat) (slot : Fin 128) (r : Report) (seq : BitVec 16) (loss pos : Nat)
      (out got : List Word) (waiting : Bool), s.ptp.mSide = .agent a n →
    s.ma.job = some ⟨.reportWrite slot r seq loss, pos, waiting, out, got⟩ → NothingDue s →
    ∃ t, ThenChooses (exec .agentWordTimeout s) t ∧
      (∀ k : Fin 12, t.slu.lines.get k =
        if r.kind = .senseChange ∧ (s.slu.lines.get k).carry = .report r.id then
          { s.slu.lines.get k with pending := false, carry := .none }
        else s.slu.lines.get k) ∧
      t = { s with
        ru := { s.ru with loss := min 255 (loss + 1 + s.ru.loss) }, slu := { s.slu with lines := t.slu.lines }
        ma := ⟨none⟩, ptp := { s.ptp with mSide := .free, u := releasedU s.ptp.u } }) ∧
  (∀ (s : State) (a : Access) (n pos : Nat) (out got : List Word) (waiting : Bool), s.ptp.mSide = .agent a n →
    s.ma.job = some ⟨.snapshotWrite, pos, waiting, out, got⟩ → NothingDue s →
    ThenChooses (exec .agentWordTimeout s)
      { s with ma := ⟨none⟩, ptp := { s.ptp with mSide := .free, u := releasedU s.ptp.u } }) ∧
  (∀ (s : State) (a : Access) (n pos : Nat) (j : Fin 64) (out got : List Word) (waiting reseen cancelled : Bool),
    s.ptp.mSide = .agent a n → s.ma.job = some ⟨.orderFetch j, pos, waiting, out, got⟩ →
    s.oi.fetch = .inFlight j reseen cancelled → (cancelled = false → j = seqSlot s.oi.expected) →
    s.oi.queue.length < 8 → s.oi.queue = [] ∨ s.tsq.inHand.isSome = true →
    ∃ t, ThenChooses (exec .agentWordTimeout s) t ∧
      (cancelled = true → t.oi = { s.oi with fetch := nextFetch s.oi.expected s.oi.ready } ∧ t.ru = s.ru) ∧
      (cancelled = false → IntakeAfter s.oi.expected s.oi.queue s t ∧ (Room 1 s →
        Reports s t [⟨.orderRefused, 5, j.val, some s.oi.expected, s.tsq.state⟩])) ∧
      t = { s with
        oi := t.oi, ru := t.ru, ma := ⟨none⟩, ptp := { s.ptp with mSide := .free, u := releasedU s.ptp.u } }) ∧
  (∀ (s : State) (a : Access) (n pos : Nat) (i : Fin 32) (mark : FetchMark) (out got : List Word) (waiting : Bool),
    s.ptp.mSide = .agent a n → s.ma.job = some ⟨.segmentFetch i, pos, waiting, out, got⟩ →
    s.sc.inFlight = some ⟨i, mark⟩ → NothingDue s →
    ThenChooses (exec .agentWordTimeout s)
      { s with
        sc := if mark = .discard then { s.sc with inFlight := none }
          else { s.sc with entries := s.sc.entries.set i.val .invalid i.isLt, inFlight := none }
        mg := if mark ≠ .discard ∧ s.wk.awaited = some i then
            { s.mg with chainEnd := some .segmentUnavailable } else s.mg
        ma := ⟨none⟩
        ptp := { s.ptp with mSide := .free, u := releasedU s.ptp.u } }) ∧
  (∀ (s : State) (a : Access) (n : Nat) (data : Word), s.ptp.mSide = .orphan a n → s.ma.job = none →
    s.ptp.u = none →
    exec .agentWordTimeout s = .next { s with ptp := { s.ptp with mSide := .free } } ∧
    exec (.agentWordEnd data) s = .next { s with ptp := { s.ptp with mSide := .free } }) ∧
  (∀ (s : State) (a acc : Access) (n : Nat) (data : Word), s.ptp.mSide = .orphan a n → s.ma.job = none →
    s.ptp.u = some (acc, .waiting) →
    (let t : State := { s with ptp := { s.ptp with
       u := some (acc, .granted), mSide := .forwarded acc s.mc.params.memTimeout } }
     exec .agentWordTimeout s = .next t ∧ exec (.agentWordEnd data) s = .next t))

/-- R168, R169: with 4 reports pending, a ROUTINE report is dropped, and an URGENT one displaces the youngest ROUTINE
report, whose sense lines are told (R129), or is dropped where there is none. -/
def Obligations.FullPendingListsKeepFour : Prop :=
  (∀ (s : State) (seq : Byte) (b : Body), HeadFree seq s → s.mc.mode = .run → s.ru.pendingReports.length = 4 →
    ∃ t, exec (.marker seq b) s = .next t ∧ Taken seq s t ∧ SameTransport s t ∧ SameSurroundings s t ∧
      t.ru = { s.ru with loss := if s.ru.loss < 255 then s.ru.loss + 1 else 255, nextId := s.ru.nextId + 1 }) ∧
  (∀ (s : State) (data : Word) (answered : Bool) (older younger : List Report) (r : Report),
    watching s = true → forwarding s = false → data.getLsbD 1 = true → s.tsq.state = .ready →
    s.ru.pendingReports = older ++ r :: younger → s.ru.pendingReports.length = 4 → r.kind.urgent = false →
    (∀ x ∈ younger, x.kind.urgent = true) →
    ∃ t, exec (.stopWord data answered) s = .next t ∧
      t.ru = { s.ru with
        pendingReports := older ++ younger ++ reportsSaying s s.ru.nextId
          [⟨.ordersFlushed, if data.getLsbD 0 then 1 else 0, (discarded s.oi.queue s.oi.ready : Nat),
            some (BitVec.ofNat 8 (bits data 15 8)), .ready⟩]
        loss := if s.ru.loss < 255 then s.ru.loss + 1 else 255
        nextId := s.ru.nextId + 1 } ∧
      ∀ k : Fin 12, t.slu.lines.get k =
        if r.kind = .senseChange ∧ (s.slu.lines.get k).carry = .report r.id then
          { s.slu.lines.get k with pending := false, carry := .none }
        else s.slu.lines.get k) ∧
  (∀ (s : State) (data : Word) (answered : Bool), watching s = true → forwarding s = false →
    data.getLsbD 1 = true → s.tsq.state = .ready → s.ru.pendingReports.length = 4 →
    (∀ x ∈ s.ru.pendingReports, x.kind.urgent = true) →
    ∃ t, exec (.stopWord data answered) s = .next t ∧ t.slu = s.slu ∧
      t.ru = { s.ru with loss := if s.ru.loss < 255 then s.ru.loss + 1 else 255, nextId := s.ru.nextId + 1 })

/-- Sections 12.4 and 12.5, R191: the fields of the words of a report and of the snapshot. -/
def Obligations.WrittenWordsHoldTheirFields : Prop :=
  (∀ (r : Report) (seq : BitVec 16) (loss : Nat), loss ≤ 255 → r.code < 65536 →
    -33554432 ≤ r.p ∧ r.p ≤ 33554431 → -8388608 ≤ r.value ∧ r.value ≤ 8388607 →
    (let w (k : Nat) : Word := (reportWords r seq loss).getD k 0
     bits (w 0) 15 0 = seq.toNat ∧ bits (w 0) 23 16 = loss ∧ bits (w 0) 27 24 = r.kind.number ∧
     (w 0).getLsbD 28 = r.kind.urgent ∧ (w 0).getLsbD 29 = r.seq.isSome ∧ bits (w 0) 31 30 = 0 ∧
     ((w 1).setWidth 26).toInt = r.p ∧ bits (w 1) 29 26 = r.state.number ∧ bits (w 1) 31 30 = 0 ∧
     ((w 2).setWidth 24).toInt = r.value ∧ bits (w 2) 31 24 = (match r.seq with
       | some q => q.toNat
       | none => 0) ∧
     bits (w 3) 15 0 = r.code ∧ bits (w 3) 31 16 = r.stamp.toNat)) ∧
  (∀ s : State, MeasurementLaw s.mu → SpeedLaw s → s.oi.queue.length ≤ 8 →
    (let w (k : Nat) : Word := (snapshotWords s).getD k 0
     bits (w 0) 15 0 = s.ru.snapCount.toNat ∧ bits (w 0) 19 16 = s.tsq.state.number ∧
     (((w 0) >>> 20).setWidth 9).toInt = s.mu.m ∧ bits (w 0) 31 29 = 0 ∧ ((w 1).setWidth 26).toInt = s.mu.p ∧
     bits (w 1) 29 26 = (match s.fm.first with
       | some k => k.number
       | none => 0) ∧
     (w 1).getLsbD 30 = s.tsq.referenced ∧ (w 1).getLsbD 31 = decide (s.mc.mode = .run) ∧
     bits (w 2) 15 0 = s.ru.nextSeq.toNat ∧ bits (w 2) 23 16 = s.oi.expected.toNat ∧
     (((w 2) >>> 24).setWidth 8).toInt = s.mg.vt ∧
     bits (w 3) 13 0 = (match s.mu.est.s.circ with
       | some c => c - 5999
       | none => 0) ∧
     bits (w 3) 27 14 = (match s.mu.est.t.circ with
       | some c => c - 5999
       | none => 0) ∧
     bits (w 3) 31 28 = s.oi.queue.length))

end
end

