-- ==== Sys2Proof/Laws/State.lean ====
section
/-! SUPPORT. What each update of one block does to each field of the state, and the two reels of a pair. -/

namespace Sys2Proof

namespace PerReel

variable {α : Type} (p : PerReel α) (x y : Reel) (v : α)

@[simp] theorem get_set_self : (p.set x v).get x = v := by cases x <;> rfl

theorem get_set : (p.set x v).get y = if y = x then v else p.get y := by cases x <;> cases y <;> rfl

@[simp] theorem get_s : p.get .s = p.s := rfl

@[simp] theorem get_t : p.get .t = p.t := rfl

@[simp] theorem set_s_s : (p.set .s v).s = v := rfl

@[simp] theorem set_s_t : (p.set .s v).t = p.t := rfl

@[simp] theorem set_t_s : (p.set .t v).s = p.s := rfl

@[simp] theorem set_t_t : (p.set .t v).t = v := rfl

@[simp] theorem set_get_self : p.set x (p.get x) = p := by cases x <;> rfl

end PerReel

namespace Machine.State

variable (s : State)

/-! `onMu` -/

@[simp] theorem onMu_mu (f : Mu → Mu) : (s.onMu f).mu = f s.mu := rfl
@[simp] theorem onMu_mg (f : Mu → Mu) : (s.onMu f).mg = s.mg := rfl
@[simp] theorem onMu_cl (f : Mu → Mu) : (s.onMu f).cl = s.cl := rfl
@[simp] theorem onMu_rl (f : Mu → Mu) : (s.onMu f).rl = s.rl := rfl
@[simp] theorem onMu_sc (f : Mu → Mu) : (s.onMu f).sc = s.sc := rfl
@[simp] theorem onMu_wk (f : Mu → Mu) : (s.onMu f).wk = s.wk := rfl
@[simp] theorem onMu_tsq (f : Mu → Mu) : (s.onMu f).tsq = s.tsq := rfl
@[simp] theorem onMu_fm (f : Mu → Mu) : (s.onMu f).fm = s.fm := rfl
@[simp] theorem onMu_slu (f : Mu → Mu) : (s.onMu f).slu = s.slu := rfl
@[simp] theorem onMu_oi (f : Mu → Mu) : (s.onMu f).oi = s.oi := rfl
@[simp] theorem onMu_ptp (f : Mu → Mu) : (s.onMu f).ptp = s.ptp := rfl
@[simp] theorem onMu_ma (f : Mu → Mu) : (s.onMu f).ma = s.ma := rfl
@[simp] theorem onMu_ru (f : Mu → Mu) : (s.onMu f).ru = s.ru := rfl
@[simp] theorem onMu_mc (f : Mu → Mu) : (s.onMu f).mc = s.mc := rfl
@[simp] theorem onMu_freeCount (f : Mu → Mu) : (s.onMu f).freeCount = s.freeCount := rfl
@[simp] theorem onMu_inputs (f : Mu → Mu) : (s.onMu f).inputs = s.inputs := rfl
@[simp] theorem onMu_pending (f : Mu → Mu) : (s.onMu f).pending = s.pending := rfl

/-! `onMg` -/

@[simp] theorem onMg_mu (f : Mg → Mg) : (s.onMg f).mu = s.mu := rfl
@[simp] theorem onMg_mg (f : Mg → Mg) : (s.onMg f).mg = f s.mg := rfl
@[simp] theorem onMg_cl (f : Mg → Mg) : (s.onMg f).cl = s.cl := rfl
@[simp] theorem onMg_rl (f : Mg → Mg) : (s.onMg f).rl = s.rl := rfl
@[simp] theorem onMg_sc (f : Mg → Mg) : (s.onMg f).sc = s.sc := rfl
@[simp] theorem onMg_wk (f : Mg → Mg) : (s.onMg f).wk = s.wk := rfl
@[simp] theorem onMg_tsq (f : Mg → Mg) : (s.onMg f).tsq = s.tsq := rfl
@[simp] theorem onMg_fm (f : Mg → Mg) : (s.onMg f).fm = s.fm := rfl
@[simp] theorem onMg_slu (f : Mg → Mg) : (s.onMg f).slu = s.slu := rfl
@[simp] theorem onMg_oi (f : Mg → Mg) : (s.onMg f).oi = s.oi := rfl
@[simp] theorem onMg_ptp (f : Mg → Mg) : (s.onMg f).ptp = s.ptp := rfl
@[simp] theorem onMg_ma (f : Mg → Mg) : (s.onMg f).ma = s.ma := rfl
@[simp] theorem onMg_ru (f : Mg → Mg) : (s.onMg f).ru = s.ru := rfl
@[simp] theorem onMg_mc (f : Mg → Mg) : (s.onMg f).mc = s.mc := rfl
@[simp] theorem onMg_freeCount (f : Mg → Mg) : (s.onMg f).freeCount = s.freeCount := rfl
@[simp] theorem onMg_inputs (f : Mg → Mg) : (s.onMg f).inputs = s.inputs := rfl
@[simp] theorem onMg_pending (f : Mg → Mg) : (s.onMg f).pending = s.pending := rfl

/-! `onCl` -/

@[simp] theorem onCl_mu (f : Cl → Cl) : (s.onCl f).mu = s.mu := rfl
@[simp] theorem onCl_mg (f : Cl → Cl) : (s.onCl f).mg = s.mg := rfl
@[simp] theorem onCl_cl (f : Cl → Cl) : (s.onCl f).cl = f s.cl := rfl
@[simp] theorem onCl_rl (f : Cl → Cl) : (s.onCl f).rl = s.rl := rfl
@[simp] theorem onCl_sc (f : Cl → Cl) : (s.onCl f).sc = s.sc := rfl
@[simp] theorem onCl_wk (f : Cl → Cl) : (s.onCl f).wk = s.wk := rfl
@[simp] theorem onCl_tsq (f : Cl → Cl) : (s.onCl f).tsq = s.tsq := rfl
@[simp] theorem onCl_fm (f : Cl → Cl) : (s.onCl f).fm = s.fm := rfl
@[simp] theorem onCl_slu (f : Cl → Cl) : (s.onCl f).slu = s.slu := rfl
@[simp] theorem onCl_oi (f : Cl → Cl) : (s.onCl f).oi = s.oi := rfl
@[simp] theorem onCl_ptp (f : Cl → Cl) : (s.onCl f).ptp = s.ptp := rfl
@[simp] theorem onCl_ma (f : Cl → Cl) : (s.onCl f).ma = s.ma := rfl
@[simp] theorem onCl_ru (f : Cl → Cl) : (s.onCl f).ru = s.ru := rfl
@[simp] theorem onCl_mc (f : Cl → Cl) : (s.onCl f).mc = s.mc := rfl
@[simp] theorem onCl_freeCount (f : Cl → Cl) : (s.onCl f).freeCount = s.freeCount := rfl
@[simp] theorem onCl_inputs (f : Cl → Cl) : (s.onCl f).inputs = s.inputs := rfl
@[simp] theorem onCl_pending (f : Cl → Cl) : (s.onCl f).pending = s.pending := rfl

/-! `onSc` -/

@[simp] theorem onSc_mu (f : Sc → Sc) : (s.onSc f).mu = s.mu := rfl
@[simp] theorem onSc_mg (f : Sc → Sc) : (s.onSc f).mg = s.mg := rfl
@[simp] theorem onSc_cl (f : Sc → Sc) : (s.onSc f).cl = s.cl := rfl
@[simp] theorem onSc_rl (f : Sc → Sc) : (s.onSc f).rl = s.rl := rfl
@[simp] theorem onSc_sc (f : Sc → Sc) : (s.onSc f).sc = f s.sc := rfl
@[simp] theorem onSc_wk (f : Sc → Sc) : (s.onSc f).wk = s.wk := rfl
@[simp] theorem onSc_tsq (f : Sc → Sc) : (s.onSc f).tsq = s.tsq := rfl
@[simp] theorem onSc_fm (f : Sc → Sc) : (s.onSc f).fm = s.fm := rfl
@[simp] theorem onSc_slu (f : Sc → Sc) : (s.onSc f).slu = s.slu := rfl
@[simp] theorem onSc_oi (f : Sc → Sc) : (s.onSc f).oi = s.oi := rfl
@[simp] theorem onSc_ptp (f : Sc → Sc) : (s.onSc f).ptp = s.ptp := rfl
@[simp] theorem onSc_ma (f : Sc → Sc) : (s.onSc f).ma = s.ma := rfl
@[simp] theorem onSc_ru (f : Sc → Sc) : (s.onSc f).ru = s.ru := rfl
@[simp] theorem onSc_mc (f : Sc → Sc) : (s.onSc f).mc = s.mc := rfl
@[simp] theorem onSc_freeCount (f : Sc → Sc) : (s.onSc f).freeCount = s.freeCount := rfl
@[simp] theorem onSc_inputs (f : Sc → Sc) : (s.onSc f).inputs = s.inputs := rfl
@[simp] theorem onSc_pending (f : Sc → Sc) : (s.onSc f).pending = s.pending := rfl

/-! `onWk` -/

@[simp] theorem onWk_mu (f : Wk → Wk) : (s.onWk f).mu = s.mu := rfl
@[simp] theorem onWk_mg (f : Wk → Wk) : (s.onWk f).mg = s.mg := rfl
@[simp] theorem onWk_cl (f : Wk → Wk) : (s.onWk f).cl = s.cl := rfl
@[simp] theorem onWk_rl (f : Wk → Wk) : (s.onWk f).rl = s.rl := rfl
@[simp] theorem onWk_sc (f : Wk → Wk) : (s.onWk f).sc = s.sc := rfl
@[simp] theorem onWk_wk (f : Wk → Wk) : (s.onWk f).wk = f s.wk := rfl
@[simp] theorem onWk_tsq (f : Wk → Wk) : (s.onWk f).tsq = s.tsq := rfl
@[simp] theorem onWk_fm (f : Wk → Wk) : (s.onWk f).fm = s.fm := rfl
@[simp] theorem onWk_slu (f : Wk → Wk) : (s.onWk f).slu = s.slu := rfl
@[simp] theorem onWk_oi (f : Wk → Wk) : (s.onWk f).oi = s.oi := rfl
@[simp] theorem onWk_ptp (f : Wk → Wk) : (s.onWk f).ptp = s.ptp := rfl
@[simp] theorem onWk_ma (f : Wk → Wk) : (s.onWk f).ma = s.ma := rfl
@[simp] theorem onWk_ru (f : Wk → Wk) : (s.onWk f).ru = s.ru := rfl
@[simp] theorem onWk_mc (f : Wk → Wk) : (s.onWk f).mc = s.mc := rfl
@[simp] theorem onWk_freeCount (f : Wk → Wk) : (s.onWk f).freeCount = s.freeCount := rfl
@[simp] theorem onWk_inputs (f : Wk → Wk) : (s.onWk f).inputs = s.inputs := rfl
@[simp] theorem onWk_pending (f : Wk → Wk) : (s.onWk f).pending = s.pending := rfl

/-! `onTsq` -/

@[simp] theorem onTsq_mu (f : Tsq → Tsq) : (s.onTsq f).mu = s.mu := rfl
@[simp] theorem onTsq_mg (f : Tsq → Tsq) : (s.onTsq f).mg = s.mg := rfl
@[simp] theorem onTsq_cl (f : Tsq → Tsq) : (s.onTsq f).cl = s.cl := rfl
@[simp] theorem onTsq_rl (f : Tsq → Tsq) : (s.onTsq f).rl = s.rl := rfl
@[simp] theorem onTsq_sc (f : Tsq → Tsq) : (s.onTsq f).sc = s.sc := rfl
@[simp] theorem onTsq_wk (f : Tsq → Tsq) : (s.onTsq f).wk = s.wk := rfl
@[simp] theorem onTsq_tsq (f : Tsq → Tsq) : (s.onTsq f).tsq = f s.tsq := rfl
@[simp] theorem onTsq_fm (f : Tsq → Tsq) : (s.onTsq f).fm = s.fm := rfl
@[simp] theorem onTsq_slu (f : Tsq → Tsq) : (s.onTsq f).slu = s.slu := rfl
@[simp] theorem onTsq_oi (f : Tsq → Tsq) : (s.onTsq f).oi = s.oi := rfl
@[simp] theorem onTsq_ptp (f : Tsq → Tsq) : (s.onTsq f).ptp = s.ptp := rfl
@[simp] theorem onTsq_ma (f : Tsq → Tsq) : (s.onTsq f).ma = s.ma := rfl
@[simp] theorem onTsq_ru (f : Tsq → Tsq) : (s.onTsq f).ru = s.ru := rfl
@[simp] theorem onTsq_mc (f : Tsq → Tsq) : (s.onTsq f).mc = s.mc := rfl
@[simp] theorem onTsq_freeCount (f : Tsq → Tsq) : (s.onTsq f).freeCount = s.freeCount := rfl
@[simp] theorem onTsq_inputs (f : Tsq → Tsq) : (s.onTsq f).inputs = s.inputs := rfl
@[simp] theorem onTsq_pending (f : Tsq → Tsq) : (s.onTsq f).pending = s.pending := rfl

/-! `onFm` -/

@[simp] theorem onFm_mu (f : Fm → Fm) : (s.onFm f).mu = s.mu := rfl
@[simp] theorem onFm_mg (f : Fm → Fm) : (s.onFm f).mg = s.mg := rfl
@[simp] theorem onFm_cl (f : Fm → Fm) : (s.onFm f).cl = s.cl := rfl
@[simp] theorem onFm_rl (f : Fm → Fm) : (s.onFm f).rl = s.rl := rfl
@[simp] theorem onFm_sc (f : Fm → Fm) : (s.onFm f).sc = s.sc := rfl
@[simp] theorem onFm_wk (f : Fm → Fm) : (s.onFm f).wk = s.wk := rfl
@[simp] theorem onFm_tsq (f : Fm → Fm) : (s.onFm f).tsq = s.tsq := rfl
@[simp] theorem onFm_fm (f : Fm → Fm) : (s.onFm f).fm = f s.fm := rfl
@[simp] theorem onFm_slu (f : Fm → Fm) : (s.onFm f).slu = s.slu := rfl
@[simp] theorem onFm_oi (f : Fm → Fm) : (s.onFm f).oi = s.oi := rfl
@[simp] theorem onFm_ptp (f : Fm → Fm) : (s.onFm f).ptp = s.ptp := rfl
@[simp] theorem onFm_ma (f : Fm → Fm) : (s.onFm f).ma = s.ma := rfl
@[simp] theorem onFm_ru (f : Fm → Fm) : (s.onFm f).ru = s.ru := rfl
@[simp] theorem onFm_mc (f : Fm → Fm) : (s.onFm f).mc = s.mc := rfl
@[simp] theorem onFm_freeCount (f : Fm → Fm) : (s.onFm f).freeCount = s.freeCount := rfl
@[simp] theorem onFm_inputs (f : Fm → Fm) : (s.onFm f).inputs = s.inputs := rfl
@[simp] theorem onFm_pending (f : Fm → Fm) : (s.onFm f).pending = s.pending := rfl

/-! `onSlu` -/

@[simp] theorem onSlu_mu (f : Slu → Slu) : (s.onSlu f).mu = s.mu := rfl
@[simp] theorem onSlu_mg (f : Slu → Slu) : (s.onSlu f).mg = s.mg := rfl
@[simp] theorem onSlu_cl (f : Slu → Slu) : (s.onSlu f).cl = s.cl := rfl
@[simp] theorem onSlu_rl (f : Slu → Slu) : (s.onSlu f).rl = s.rl := rfl
@[simp] theorem onSlu_sc (f : Slu → Slu) : (s.onSlu f).sc = s.sc := rfl
@[simp] theorem onSlu_wk (f : Slu → Slu) : (s.onSlu f).wk = s.wk := rfl
@[simp] theorem onSlu_tsq (f : Slu → Slu) : (s.onSlu f).tsq = s.tsq := rfl
@[simp] theorem onSlu_fm (f : Slu → Slu) : (s.onSlu f).fm = s.fm := rfl
@[simp] theorem onSlu_slu (f : Slu → Slu) : (s.onSlu f).slu = f s.slu := rfl
@[simp] theorem onSlu_oi (f : Slu → Slu) : (s.onSlu f).oi = s.oi := rfl
@[simp] theorem onSlu_ptp (f : Slu → Slu) : (s.onSlu f).ptp = s.ptp := rfl
@[simp] theorem onSlu_ma (f : Slu → Slu) : (s.onSlu f).ma = s.ma := rfl
@[simp] theorem onSlu_ru (f : Slu → Slu) : (s.onSlu f).ru = s.ru := rfl
@[simp] theorem onSlu_mc (f : Slu → Slu) : (s.onSlu f).mc = s.mc := rfl
@[simp] theorem onSlu_freeCount (f : Slu → Slu) : (s.onSlu f).freeCount = s.freeCount := rfl
@[simp] theorem onSlu_inputs (f : Slu → Slu) : (s.onSlu f).inputs = s.inputs := rfl
@[simp] theorem onSlu_pending (f : Slu → Slu) : (s.onSlu f).pending = s.pending := rfl

/-! `onOi` -/

@[simp] theorem onOi_mu (f : Oi → Oi) : (s.onOi f).mu = s.mu := rfl
@[simp] theorem onOi_mg (f : Oi → Oi) : (s.onOi f).mg = s.mg := rfl
@[simp] theorem onOi_cl (f : Oi → Oi) : (s.onOi f).cl = s.cl := rfl
@[simp] theorem onOi_rl (f : Oi → Oi) : (s.onOi f).rl = s.rl := rfl
@[simp] theorem onOi_sc (f : Oi → Oi) : (s.onOi f).sc = s.sc := rfl
@[simp] theorem onOi_wk (f : Oi → Oi) : (s.onOi f).wk = s.wk := rfl
@[simp] theorem onOi_tsq (f : Oi → Oi) : (s.onOi f).tsq = s.tsq := rfl
@[simp] theorem onOi_fm (f : Oi → Oi) : (s.onOi f).fm = s.fm := rfl
@[simp] theorem onOi_slu (f : Oi → Oi) : (s.onOi f).slu = s.slu := rfl
@[simp] theorem onOi_oi (f : Oi → Oi) : (s.onOi f).oi = f s.oi := rfl
@[simp] theorem onOi_ptp (f : Oi → Oi) : (s.onOi f).ptp = s.ptp := rfl
@[simp] theorem onOi_ma (f : Oi → Oi) : (s.onOi f).ma = s.ma := rfl
@[simp] theorem onOi_ru (f : Oi → Oi) : (s.onOi f).ru = s.ru := rfl
@[simp] theorem onOi_mc (f : Oi → Oi) : (s.onOi f).mc = s.mc := rfl
@[simp] theorem onOi_freeCount (f : Oi → Oi) : (s.onOi f).freeCount = s.freeCount := rfl
@[simp] theorem onOi_inputs (f : Oi → Oi) : (s.onOi f).inputs = s.inputs := rfl
@[simp] theorem onOi_pending (f : Oi → Oi) : (s.onOi f).pending = s.pending := rfl

/-! `onPtp` -/

@[simp] theorem onPtp_mu (f : Ptp → Ptp) : (s.onPtp f).mu = s.mu := rfl
@[simp] theorem onPtp_mg (f : Ptp → Ptp) : (s.onPtp f).mg = s.mg := rfl
@[simp] theorem onPtp_cl (f : Ptp → Ptp) : (s.onPtp f).cl = s.cl := rfl
@[simp] theorem onPtp_rl (f : Ptp → Ptp) : (s.onPtp f).rl = s.rl := rfl
@[simp] theorem onPtp_sc (f : Ptp → Ptp) : (s.onPtp f).sc = s.sc := rfl
@[simp] theorem onPtp_wk (f : Ptp → Ptp) : (s.onPtp f).wk = s.wk := rfl
@[simp] theorem onPtp_tsq (f : Ptp → Ptp) : (s.onPtp f).tsq = s.tsq := rfl
@[simp] theorem onPtp_fm (f : Ptp → Ptp) : (s.onPtp f).fm = s.fm := rfl
@[simp] theorem onPtp_slu (f : Ptp → Ptp) : (s.onPtp f).slu = s.slu := rfl
@[simp] theorem onPtp_oi (f : Ptp → Ptp) : (s.onPtp f).oi = s.oi := rfl
@[simp] theorem onPtp_ptp (f : Ptp → Ptp) : (s.onPtp f).ptp = f s.ptp := rfl
@[simp] theorem onPtp_ma (f : Ptp → Ptp) : (s.onPtp f).ma = s.ma := rfl
@[simp] theorem onPtp_ru (f : Ptp → Ptp) : (s.onPtp f).ru = s.ru := rfl
@[simp] theorem onPtp_mc (f : Ptp → Ptp) : (s.onPtp f).mc = s.mc := rfl
@[simp] theorem onPtp_freeCount (f : Ptp → Ptp) : (s.onPtp f).freeCount = s.freeCount := rfl
@[simp] theorem onPtp_inputs (f : Ptp → Ptp) : (s.onPtp f).inputs = s.inputs := rfl
@[simp] theorem onPtp_pending (f : Ptp → Ptp) : (s.onPtp f).pending = s.pending := rfl

/-! `onMa` -/

@[simp] theorem onMa_mu (f : Ma → Ma) : (s.onMa f).mu = s.mu := rfl
@[simp] theorem onMa_mg (f : Ma → Ma) : (s.onMa f).mg = s.mg := rfl
@[simp] theorem onMa_cl (f : Ma → Ma) : (s.onMa f).cl = s.cl := rfl
@[simp] theorem onMa_rl (f : Ma → Ma) : (s.onMa f).rl = s.rl := rfl
@[simp] theorem onMa_sc (f : Ma → Ma) : (s.onMa f).sc = s.sc := rfl
@[simp] theorem onMa_wk (f : Ma → Ma) : (s.onMa f).wk = s.wk := rfl
@[simp] theorem onMa_tsq (f : Ma → Ma) : (s.onMa f).tsq = s.tsq := rfl
@[simp] theorem onMa_fm (f : Ma → Ma) : (s.onMa f).fm = s.fm := rfl
@[simp] theorem onMa_slu (f : Ma → Ma) : (s.onMa f).slu = s.slu := rfl
@[simp] theorem onMa_oi (f : Ma → Ma) : (s.onMa f).oi = s.oi := rfl
@[simp] theorem onMa_ptp (f : Ma → Ma) : (s.onMa f).ptp = s.ptp := rfl
@[simp] theorem onMa_ma (f : Ma → Ma) : (s.onMa f).ma = f s.ma := rfl
@[simp] theorem onMa_ru (f : Ma → Ma) : (s.onMa f).ru = s.ru := rfl
@[simp] theorem onMa_mc (f : Ma → Ma) : (s.onMa f).mc = s.mc := rfl
@[simp] theorem onMa_freeCount (f : Ma → Ma) : (s.onMa f).freeCount = s.freeCount := rfl
@[simp] theorem onMa_inputs (f : Ma → Ma) : (s.onMa f).inputs = s.inputs := rfl
@[simp] theorem onMa_pending (f : Ma → Ma) : (s.onMa f).pending = s.pending := rfl

/-! `onRu` -/

@[simp] theorem onRu_mu (f : Ru → Ru) : (s.onRu f).mu = s.mu := rfl
@[simp] theorem onRu_mg (f : Ru → Ru) : (s.onRu f).mg = s.mg := rfl
@[simp] theorem onRu_cl (f : Ru → Ru) : (s.onRu f).cl = s.cl := rfl
@[simp] theorem onRu_rl (f : Ru → Ru) : (s.onRu f).rl = s.rl := rfl
@[simp] theorem onRu_sc (f : Ru → Ru) : (s.onRu f).sc = s.sc := rfl
@[simp] theorem onRu_wk (f : Ru → Ru) : (s.onRu f).wk = s.wk := rfl
@[simp] theorem onRu_tsq (f : Ru → Ru) : (s.onRu f).tsq = s.tsq := rfl
@[simp] theorem onRu_fm (f : Ru → Ru) : (s.onRu f).fm = s.fm := rfl
@[simp] theorem onRu_slu (f : Ru → Ru) : (s.onRu f).slu = s.slu := rfl
@[simp] theorem onRu_oi (f : Ru → Ru) : (s.onRu f).oi = s.oi := rfl
@[simp] theorem onRu_ptp (f : Ru → Ru) : (s.onRu f).ptp = s.ptp := rfl
@[simp] theorem onRu_ma (f : Ru → Ru) : (s.onRu f).ma = s.ma := rfl
@[simp] theorem onRu_ru (f : Ru → Ru) : (s.onRu f).ru = f s.ru := rfl
@[simp] theorem onRu_mc (f : Ru → Ru) : (s.onRu f).mc = s.mc := rfl
@[simp] theorem onRu_freeCount (f : Ru → Ru) : (s.onRu f).freeCount = s.freeCount := rfl
@[simp] theorem onRu_inputs (f : Ru → Ru) : (s.onRu f).inputs = s.inputs := rfl
@[simp] theorem onRu_pending (f : Ru → Ru) : (s.onRu f).pending = s.pending := rfl

/-! `onMc` -/

@[simp] theorem onMc_mu (f : Mc → Mc) : (s.onMc f).mu = s.mu := rfl
@[simp] theorem onMc_mg (f : Mc → Mc) : (s.onMc f).mg = s.mg := rfl
@[simp] theorem onMc_cl (f : Mc → Mc) : (s.onMc f).cl = s.cl := rfl
@[simp] theorem onMc_rl (f : Mc → Mc) : (s.onMc f).rl = s.rl := rfl
@[simp] theorem onMc_sc (f : Mc → Mc) : (s.onMc f).sc = s.sc := rfl
@[simp] theorem onMc_wk (f : Mc → Mc) : (s.onMc f).wk = s.wk := rfl
@[simp] theorem onMc_tsq (f : Mc → Mc) : (s.onMc f).tsq = s.tsq := rfl
@[simp] theorem onMc_fm (f : Mc → Mc) : (s.onMc f).fm = s.fm := rfl
@[simp] theorem onMc_slu (f : Mc → Mc) : (s.onMc f).slu = s.slu := rfl
@[simp] theorem onMc_oi (f : Mc → Mc) : (s.onMc f).oi = s.oi := rfl
@[simp] theorem onMc_ptp (f : Mc → Mc) : (s.onMc f).ptp = s.ptp := rfl
@[simp] theorem onMc_ma (f : Mc → Mc) : (s.onMc f).ma = s.ma := rfl
@[simp] theorem onMc_ru (f : Mc → Mc) : (s.onMc f).ru = s.ru := rfl
@[simp] theorem onMc_mc (f : Mc → Mc) : (s.onMc f).mc = f s.mc := rfl
@[simp] theorem onMc_freeCount (f : Mc → Mc) : (s.onMc f).freeCount = s.freeCount := rfl
@[simp] theorem onMc_inputs (f : Mc → Mc) : (s.onMc f).inputs = s.inputs := rfl
@[simp] theorem onMc_pending (f : Mc → Mc) : (s.onMc f).pending = s.pending := rfl

/-! `onRl` -/

@[simp] theorem onRl_mu (x : Reel) (f : ReelLoop → ReelLoop) : (s.onRl x f).mu = s.mu := rfl
@[simp] theorem onRl_mg (x : Reel) (f : ReelLoop → ReelLoop) : (s.onRl x f).mg = s.mg := rfl
@[simp] theorem onRl_cl (x : Reel) (f : ReelLoop → ReelLoop) : (s.onRl x f).cl = s.cl := rfl
@[simp] theorem onRl_rl (x : Reel) (f : ReelLoop → ReelLoop) : (s.onRl x f).rl = s.rl.set x (f (s.rl.get x)) := rfl
@[simp] theorem onRl_sc (x : Reel) (f : ReelLoop → ReelLoop) : (s.onRl x f).sc = s.sc := rfl
@[simp] theorem onRl_wk (x : Reel) (f : ReelLoop → ReelLoop) : (s.onRl x f).wk = s.wk := rfl
@[simp] theorem onRl_tsq (x : Reel) (f : ReelLoop → ReelLoop) : (s.onRl x f).tsq = s.tsq := rfl
@[simp] theorem onRl_fm (x : Reel) (f : ReelLoop → ReelLoop) : (s.onRl x f).fm = s.fm := rfl
@[simp] theorem onRl_slu (x : Reel) (f : ReelLoop → ReelLoop) : (s.onRl x f).slu = s.slu := rfl
@[simp] theorem onRl_oi (x : Reel) (f : ReelLoop → ReelLoop) : (s.onRl x f).oi = s.oi := rfl
@[simp] theorem onRl_ptp (x : Reel) (f : ReelLoop → ReelLoop) : (s.onRl x f).ptp = s.ptp := rfl
@[simp] theorem onRl_ma (x : Reel) (f : ReelLoop → ReelLoop) : (s.onRl x f).ma = s.ma := rfl
@[simp] theorem onRl_ru (x : Reel) (f : ReelLoop → ReelLoop) : (s.onRl x f).ru = s.ru := rfl
@[simp] theorem onRl_mc (x : Reel) (f : ReelLoop → ReelLoop) : (s.onRl x f).mc = s.mc := rfl
@[simp] theorem onRl_freeCount (x : Reel) (f : ReelLoop → ReelLoop) : (s.onRl x f).freeCount = s.freeCount := rfl
@[simp] theorem onRl_inputs (x : Reel) (f : ReelLoop → ReelLoop) : (s.onRl x f).inputs = s.inputs := rfl
@[simp] theorem onRl_pending (x : Reel) (f : ReelLoop → ReelLoop) : (s.onRl x f).pending = s.pending := rfl

end Machine.State

end Sys2Proof
end

