-- ==== Sys2Proof/Laws/Frame.lean ====
section
/-! SUPPORT. The frame of each shared operation: the blocks of the state it leaves as they are. -/

namespace Sys2Proof.Machine

variable (s : State)

@[simp] theorem clearCarried_frame (id : Nat) :
    (clearCarried id s).mu = s.mu ∧ (clearCarried id s).mg = s.mg ∧ (clearCarried id s).cl = s.cl ∧
      (clearCarried id s).rl = s.rl ∧ (clearCarried id s).sc = s.sc ∧ (clearCarried id s).wk = s.wk ∧
      (clearCarried id s).tsq = s.tsq ∧ (clearCarried id s).fm = s.fm ∧ (clearCarried id s).oi = s.oi ∧
      (clearCarried id s).ptp = s.ptp ∧ (clearCarried id s).ma = s.ma ∧ (clearCarried id s).ru = s.ru ∧
      (clearCarried id s).mc = s.mc ∧ (clearCarried id s).freeCount = s.freeCount ∧
      (clearCarried id s).inputs = s.inputs ∧ (clearCarried id s).pending = s.pending := by
  unfold clearCarried
  try dsimp only
  simp

@[simp] theorem dropReport_frame (r : Report) :
    (dropReport r s).mu = s.mu ∧ (dropReport r s).mg = s.mg ∧ (dropReport r s).cl = s.cl ∧
      (dropReport r s).rl = s.rl ∧ (dropReport r s).sc = s.sc ∧ (dropReport r s).wk = s.wk ∧
      (dropReport r s).tsq = s.tsq ∧ (dropReport r s).fm = s.fm ∧ (dropReport r s).oi = s.oi ∧
      (dropReport r s).ptp = s.ptp ∧ (dropReport r s).ma = s.ma ∧ (dropReport r s).mc = s.mc ∧
      (dropReport r s).freeCount = s.freeCount ∧ (dropReport r s).inputs = s.inputs ∧
      (dropReport r s).pending = s.pending := by
  unfold dropReport
  try dsimp only
  (repeat' split) <;> simp

@[simp] theorem enterPending_frame (r : Report) :
    (enterPending r s).mu = s.mu ∧ (enterPending r s).mg = s.mg ∧ (enterPending r s).cl = s.cl ∧
      (enterPending r s).rl = s.rl ∧ (enterPending r s).sc = s.sc ∧ (enterPending r s).wk = s.wk ∧
      (enterPending r s).tsq = s.tsq ∧ (enterPending r s).fm = s.fm ∧ (enterPending r s).oi = s.oi ∧
      (enterPending r s).ptp = s.ptp ∧ (enterPending r s).ma = s.ma ∧ (enterPending r s).mc = s.mc ∧
      (enterPending r s).freeCount = s.freeCount ∧ (enterPending r s).inputs = s.inputs ∧
      (enterPending r s).pending = s.pending := by
  unfold enterPending
  try dsimp only
  (repeat' split) <;> simp

@[simp] theorem generate_frame (kind : ReportKind) (code : Nat) (value : Int) (seq : Option Byte) :
    (generate kind code value seq s).mu = s.mu ∧ (generate kind code value seq s).mg = s.mg ∧
      (generate kind code value seq s).cl = s.cl ∧ (generate kind code value seq s).rl = s.rl ∧
      (generate kind code value seq s).sc = s.sc ∧ (generate kind code value seq s).wk = s.wk ∧
      (generate kind code value seq s).tsq = s.tsq ∧ (generate kind code value seq s).fm = s.fm ∧
      (generate kind code value seq s).oi = s.oi ∧ (generate kind code value seq s).ptp = s.ptp ∧
      (generate kind code value seq s).ma = s.ma ∧ (generate kind code value seq s).mc = s.mc ∧
      (generate kind code value seq s).freeCount = s.freeCount ∧
      (generate kind code value seq s).inputs = s.inputs ∧
      (generate kind code value seq s).pending = s.pending := by
  unfold generate
  try dsimp only
  (repeat' split) <;> simp

@[simp] theorem refuse_frame (reason : Reason) (value : Int) (seq : Byte) :
    (refuse reason value seq s).mu = s.mu ∧ (refuse reason value seq s).mg = s.mg ∧
      (refuse reason value seq s).cl = s.cl ∧ (refuse reason value seq s).rl = s.rl ∧
      (refuse reason value seq s).sc = s.sc ∧ (refuse reason value seq s).wk = s.wk ∧
      (refuse reason value seq s).tsq = s.tsq ∧ (refuse reason value seq s).fm = s.fm ∧
      (refuse reason value seq s).oi = s.oi ∧ (refuse reason value seq s).ptp = s.ptp ∧
      (refuse reason value seq s).ma = s.ma ∧ (refuse reason value seq s).mc = s.mc ∧
      (refuse reason value seq s).freeCount = s.freeCount ∧ (refuse reason value seq s).inputs = s.inputs ∧
      (refuse reason value seq s).pending = s.pending := by
  unfold refuse
  try dsimp only
  simp

@[simp] theorem doneAtTake_frame (o : OrderOutcome) (value : Int) (seq : Byte) :
    (doneAtTake o value seq s).mu = s.mu ∧ (doneAtTake o value seq s).mg = s.mg ∧
      (doneAtTake o value seq s).cl = s.cl ∧ (doneAtTake o value seq s).rl = s.rl ∧
      (doneAtTake o value seq s).sc = s.sc ∧ (doneAtTake o value seq s).wk = s.wk ∧
      (doneAtTake o value seq s).tsq = s.tsq ∧ (doneAtTake o value seq s).fm = s.fm ∧
      (doneAtTake o value seq s).oi = s.oi ∧ (doneAtTake o value seq s).ptp = s.ptp ∧
      (doneAtTake o value seq s).ma = s.ma ∧ (doneAtTake o value seq s).mc = s.mc ∧
      (doneAtTake o value seq s).freeCount = s.freeCount ∧ (doneAtTake o value seq s).inputs = s.inputs ∧
      (doneAtTake o value seq s).pending = s.pending := by
  unfold doneAtTake
  try dsimp only
  simp

@[simp] theorem followCapstan_frame :
    (followCapstan s).mu = s.mu ∧ (followCapstan s).mg = s.mg ∧ (followCapstan s).rl = s.rl ∧
      (followCapstan s).sc = s.sc ∧ (followCapstan s).wk = s.wk ∧ (followCapstan s).tsq = s.tsq ∧
      (followCapstan s).slu = s.slu ∧ (followCapstan s).oi = s.oi ∧ (followCapstan s).ptp = s.ptp ∧
      (followCapstan s).ma = s.ma ∧ (followCapstan s).ru = s.ru ∧ (followCapstan s).mc = s.mc ∧
      (followCapstan s).freeCount = s.freeCount ∧ (followCapstan s).inputs = s.inputs ∧
      (followCapstan s).pending = s.pending := by
  unfold followCapstan
  try dsimp only
  (repeat' split) <;> simp

@[simp] theorem followReel_frame (x : Reel) :
    (followReel x s).mu = s.mu ∧ (followReel x s).mg = s.mg ∧ (followReel x s).cl = s.cl ∧
      (followReel x s).sc = s.sc ∧ (followReel x s).wk = s.wk ∧ (followReel x s).tsq = s.tsq ∧
      (followReel x s).fm = s.fm ∧ (followReel x s).slu = s.slu ∧ (followReel x s).oi = s.oi ∧
      (followReel x s).ptp = s.ptp ∧ (followReel x s).ma = s.ma ∧ (followReel x s).ru = s.ru ∧
      (followReel x s).mc = s.mc ∧ (followReel x s).freeCount = s.freeCount ∧
      (followReel x s).inputs = s.inputs ∧ (followReel x s).pending = s.pending := by
  unfold followReel
  try dsimp only
  (repeat' split) <;> simp

@[simp] theorem followEstimator_frame (x : Reel) :
    (followEstimator x s).mg = s.mg ∧ (followEstimator x s).cl = s.cl ∧ (followEstimator x s).rl = s.rl ∧
      (followEstimator x s).sc = s.sc ∧ (followEstimator x s).wk = s.wk ∧ (followEstimator x s).tsq = s.tsq ∧
      (followEstimator x s).fm = s.fm ∧ (followEstimator x s).slu = s.slu ∧ (followEstimator x s).oi = s.oi ∧
      (followEstimator x s).ptp = s.ptp ∧ (followEstimator x s).ma = s.ma ∧ (followEstimator x s).ru = s.ru ∧
      (followEstimator x s).mc = s.mc ∧ (followEstimator x s).freeCount = s.freeCount ∧
      (followEstimator x s).inputs = s.inputs ∧ (followEstimator x s).pending = s.pending := by
  unfold followEstimator
  try dsimp only
  (repeat' split) <;> simp

@[simp] theorem followModes_frame :
    (followModes s).mg = s.mg ∧ (followModes s).sc = s.sc ∧ (followModes s).wk = s.wk ∧
      (followModes s).tsq = s.tsq ∧ (followModes s).slu = s.slu ∧ (followModes s).oi = s.oi ∧
      (followModes s).ptp = s.ptp ∧ (followModes s).ma = s.ma ∧ (followModes s).ru = s.ru ∧
      (followModes s).mc = s.mc ∧ (followModes s).freeCount = s.freeCount ∧
      (followModes s).inputs = s.inputs ∧ (followModes s).pending = s.pending := by
  unfold followModes
  try dsimp only
  simp

@[simp] theorem clearBandsAt_frame (st : TState) :
    (clearBandsAt st s).mu = s.mu ∧ (clearBandsAt st s).mg = s.mg ∧ (clearBandsAt st s).cl = s.cl ∧
      (clearBandsAt st s).sc = s.sc ∧ (clearBandsAt st s).wk = s.wk ∧ (clearBandsAt st s).tsq = s.tsq ∧
      (clearBandsAt st s).fm = s.fm ∧ (clearBandsAt st s).slu = s.slu ∧ (clearBandsAt st s).oi = s.oi ∧
      (clearBandsAt st s).ptp = s.ptp ∧ (clearBandsAt st s).ma = s.ma ∧ (clearBandsAt st s).ru = s.ru ∧
      (clearBandsAt st s).mc = s.mc ∧ (clearBandsAt st s).freeCount = s.freeCount ∧
      (clearBandsAt st s).inputs = s.inputs ∧ (clearBandsAt st s).pending = s.pending := by
  unfold clearBandsAt
  try dsimp only
  (repeat' split) <;> simp

@[simp] theorem enter_frame (st : TState) (brake vacuum : Bool) :
    (enter st brake vacuum s).mg = s.mg ∧ (enter st brake vacuum s).sc = s.sc ∧
      (enter st brake vacuum s).wk = s.wk ∧ (enter st brake vacuum s).slu = s.slu ∧
      (enter st brake vacuum s).oi = s.oi ∧ (enter st brake vacuum s).ptp = s.ptp ∧
      (enter st brake vacuum s).ma = s.ma ∧ (enter st brake vacuum s).mc = s.mc ∧
      (enter st brake vacuum s).freeCount = s.freeCount ∧ (enter st brake vacuum s).inputs = s.inputs ∧
      (enter st brake vacuum s).pending = s.pending := by
  unfold enter
  try dsimp only
  (repeat' split) <;> simp

@[simp] theorem enterKeeping_frame (st : TState) :
    (enterKeeping st s).mg = s.mg ∧ (enterKeeping st s).sc = s.sc ∧ (enterKeeping st s).wk = s.wk ∧
      (enterKeeping st s).slu = s.slu ∧ (enterKeeping st s).oi = s.oi ∧ (enterKeeping st s).ptp = s.ptp ∧
      (enterKeeping st s).ma = s.ma ∧ (enterKeeping st s).mc = s.mc ∧
      (enterKeeping st s).freeCount = s.freeCount ∧ (enterKeeping st s).inputs = s.inputs ∧
      (enterKeeping st s).pending = s.pending := by
  unfold enterKeeping
  try dsimp only
  simp

@[simp] theorem dropWriteEnable_frame :
    (dropWriteEnable s).mu = s.mu ∧ (dropWriteEnable s).mg = s.mg ∧ (dropWriteEnable s).cl = s.cl ∧
      (dropWriteEnable s).rl = s.rl ∧ (dropWriteEnable s).sc = s.sc ∧ (dropWriteEnable s).wk = s.wk ∧
      (dropWriteEnable s).fm = s.fm ∧ (dropWriteEnable s).slu = s.slu ∧ (dropWriteEnable s).oi = s.oi ∧
      (dropWriteEnable s).ptp = s.ptp ∧ (dropWriteEnable s).ma = s.ma ∧ (dropWriteEnable s).ru = s.ru ∧
      (dropWriteEnable s).mc = s.mc ∧ (dropWriteEnable s).freeCount = s.freeCount ∧
      (dropWriteEnable s).inputs = s.inputs ∧ (dropWriteEnable s).pending = s.pending := by
  unfold dropWriteEnable
  try dsimp only
  simp

@[simp] theorem clearHand_frame :
    (clearHand s).mu = s.mu ∧ (clearHand s).mg = s.mg ∧ (clearHand s).cl = s.cl ∧ (clearHand s).rl = s.rl ∧
      (clearHand s).sc = s.sc ∧ (clearHand s).wk = s.wk ∧ (clearHand s).fm = s.fm ∧
      (clearHand s).slu = s.slu ∧ (clearHand s).oi = s.oi ∧ (clearHand s).ptp = s.ptp ∧
      (clearHand s).ma = s.ma ∧ (clearHand s).ru = s.ru ∧ (clearHand s).mc = s.mc ∧
      (clearHand s).freeCount = s.freeCount ∧ (clearHand s).inputs = s.inputs ∧
      (clearHand s).pending = s.pending := by
  unfold clearHand
  try dsimp only
  simp

@[simp] theorem finishOrder_frame (o : OrderOutcome) (pe : Int) :
    (finishOrder o pe s).mu = s.mu ∧ (finishOrder o pe s).mg = s.mg ∧ (finishOrder o pe s).cl = s.cl ∧
      (finishOrder o pe s).rl = s.rl ∧ (finishOrder o pe s).sc = s.sc ∧ (finishOrder o pe s).wk = s.wk ∧
      (finishOrder o pe s).fm = s.fm ∧ (finishOrder o pe s).oi = s.oi ∧ (finishOrder o pe s).ptp = s.ptp ∧
      (finishOrder o pe s).ma = s.ma ∧ (finishOrder o pe s).mc = s.mc ∧
      (finishOrder o pe s).freeCount = s.freeCount ∧ (finishOrder o pe s).inputs = s.inputs ∧
      (finishOrder o pe s).pending = s.pending := by
  unfold finishOrder
  try dsimp only
  (repeat' split) <;> simp

@[simp] theorem brakeGenerator_frame :
    (brakeGenerator s).mu = s.mu ∧ (brakeGenerator s).cl = s.cl ∧ (brakeGenerator s).rl = s.rl ∧
      (brakeGenerator s).sc = s.sc ∧ (brakeGenerator s).wk = s.wk ∧ (brakeGenerator s).tsq = s.tsq ∧
      (brakeGenerator s).fm = s.fm ∧ (brakeGenerator s).slu = s.slu ∧ (brakeGenerator s).oi = s.oi ∧
      (brakeGenerator s).ptp = s.ptp ∧ (brakeGenerator s).ma = s.ma ∧ (brakeGenerator s).ru = s.ru ∧
      (brakeGenerator s).mc = s.mc ∧ (brakeGenerator s).freeCount = s.freeCount ∧
      (brakeGenerator s).inputs = s.inputs ∧ (brakeGenerator s).pending = s.pending := by
  unfold brakeGenerator
  try dsimp only
  simp

@[simp] theorem handOnSpeed_frame (vt : Int) :
    (handOnSpeed vt s).mu = s.mu ∧ (handOnSpeed vt s).cl = s.cl ∧ (handOnSpeed vt s).rl = s.rl ∧
      (handOnSpeed vt s).sc = s.sc ∧ (handOnSpeed vt s).wk = s.wk ∧ (handOnSpeed vt s).tsq = s.tsq ∧
      (handOnSpeed vt s).fm = s.fm ∧ (handOnSpeed vt s).slu = s.slu ∧ (handOnSpeed vt s).oi = s.oi ∧
      (handOnSpeed vt s).ptp = s.ptp ∧ (handOnSpeed vt s).ma = s.ma ∧ (handOnSpeed vt s).ru = s.ru ∧
      (handOnSpeed vt s).mc = s.mc ∧ (handOnSpeed vt s).freeCount = s.freeCount ∧
      (handOnSpeed vt s).inputs = s.inputs ∧ (handOnSpeed vt s).pending = s.pending := by
  unfold handOnSpeed
  try dsimp only
  simp

@[simp] theorem setEntry_frame (i : Fin 32) (e : CacheEntry) :
    (setEntry i e s).mu = s.mu ∧ (setEntry i e s).mg = s.mg ∧ (setEntry i e s).cl = s.cl ∧
      (setEntry i e s).rl = s.rl ∧ (setEntry i e s).wk = s.wk ∧ (setEntry i e s).tsq = s.tsq ∧
      (setEntry i e s).fm = s.fm ∧ (setEntry i e s).slu = s.slu ∧ (setEntry i e s).oi = s.oi ∧
      (setEntry i e s).ptp = s.ptp ∧ (setEntry i e s).ma = s.ma ∧ (setEntry i e s).ru = s.ru ∧
      (setEntry i e s).mc = s.mc ∧ (setEntry i e s).freeCount = s.freeCount ∧
      (setEntry i e s).inputs = s.inputs ∧ (setEntry i e s).pending = s.pending := by
  unfold setEntry
  try dsimp only
  simp

@[simp] theorem setFetchMark_frame (m : FetchMark) :
    (setFetchMark m s).mu = s.mu ∧ (setFetchMark m s).mg = s.mg ∧ (setFetchMark m s).cl = s.cl ∧
      (setFetchMark m s).rl = s.rl ∧ (setFetchMark m s).wk = s.wk ∧ (setFetchMark m s).tsq = s.tsq ∧
      (setFetchMark m s).fm = s.fm ∧ (setFetchMark m s).slu = s.slu ∧ (setFetchMark m s).oi = s.oi ∧
      (setFetchMark m s).ptp = s.ptp ∧ (setFetchMark m s).ma = s.ma ∧ (setFetchMark m s).ru = s.ru ∧
      (setFetchMark m s).mc = s.mc ∧ (setFetchMark m s).freeCount = s.freeCount ∧
      (setFetchMark m s).inputs = s.inputs ∧ (setFetchMark m s).pending = s.pending := by
  unfold setFetchMark
  try dsimp only
  simp

@[simp] theorem fetchAtHead_frame (i : Fin 32) :
    (fetchAtHead i s).mu = s.mu ∧ (fetchAtHead i s).mg = s.mg ∧ (fetchAtHead i s).cl = s.cl ∧
      (fetchAtHead i s).rl = s.rl ∧ (fetchAtHead i s).wk = s.wk ∧ (fetchAtHead i s).tsq = s.tsq ∧
      (fetchAtHead i s).fm = s.fm ∧ (fetchAtHead i s).slu = s.slu ∧ (fetchAtHead i s).oi = s.oi ∧
      (fetchAtHead i s).ptp = s.ptp ∧ (fetchAtHead i s).ma = s.ma ∧ (fetchAtHead i s).ru = s.ru ∧
      (fetchAtHead i s).mc = s.mc ∧ (fetchAtHead i s).freeCount = s.freeCount ∧
      (fetchAtHead i s).inputs = s.inputs ∧ (fetchAtHead i s).pending = s.pending := by
  unfold fetchAtHead
  try dsimp only
  simp

@[simp] theorem fetchAtTail_frame (i : Fin 32) :
    (fetchAtTail i s).mu = s.mu ∧ (fetchAtTail i s).mg = s.mg ∧ (fetchAtTail i s).cl = s.cl ∧
      (fetchAtTail i s).rl = s.rl ∧ (fetchAtTail i s).wk = s.wk ∧ (fetchAtTail i s).tsq = s.tsq ∧
      (fetchAtTail i s).fm = s.fm ∧ (fetchAtTail i s).slu = s.slu ∧ (fetchAtTail i s).oi = s.oi ∧
      (fetchAtTail i s).ptp = s.ptp ∧ (fetchAtTail i s).ma = s.ma ∧ (fetchAtTail i s).ru = s.ru ∧
      (fetchAtTail i s).mc = s.mc ∧ (fetchAtTail i s).freeCount = s.freeCount ∧
      (fetchAtTail i s).inputs = s.inputs ∧ (fetchAtTail i s).pending = s.pending := by
  unfold fetchAtTail
  try dsimp only
  simp

@[simp] theorem orderForWalker_frame (i : Fin 32) :
    (orderForWalker i s).mu = s.mu ∧ (orderForWalker i s).mg = s.mg ∧ (orderForWalker i s).cl = s.cl ∧
      (orderForWalker i s).rl = s.rl ∧ (orderForWalker i s).wk = s.wk ∧ (orderForWalker i s).tsq = s.tsq ∧
      (orderForWalker i s).fm = s.fm ∧ (orderForWalker i s).slu = s.slu ∧ (orderForWalker i s).oi = s.oi ∧
      (orderForWalker i s).ptp = s.ptp ∧ (orderForWalker i s).ma = s.ma ∧ (orderForWalker i s).ru = s.ru ∧
      (orderForWalker i s).mc = s.mc ∧ (orderForWalker i s).freeCount = s.freeCount ∧
      (orderForWalker i s).inputs = s.inputs ∧ (orderForWalker i s).pending = s.pending := by
  unfold orderForWalker
  try dsimp only
  (repeat' split) <;> simp

@[simp] theorem wholeCapture_frame (i : Fin 32) (copy : Segment) :
    (wholeCapture i copy s).mu = s.mu ∧ (wholeCapture i copy s).mg = s.mg ∧
      (wholeCapture i copy s).cl = s.cl ∧ (wholeCapture i copy s).rl = s.rl ∧
      (wholeCapture i copy s).wk = s.wk ∧ (wholeCapture i copy s).tsq = s.tsq ∧
      (wholeCapture i copy s).fm = s.fm ∧ (wholeCapture i copy s).slu = s.slu ∧
      (wholeCapture i copy s).oi = s.oi ∧ (wholeCapture i copy s).ptp = s.ptp ∧
      (wholeCapture i copy s).ma = s.ma ∧ (wholeCapture i copy s).ru = s.ru ∧
      (wholeCapture i copy s).mc = s.mc ∧ (wholeCapture i copy s).freeCount = s.freeCount ∧
      (wholeCapture i copy s).inputs = s.inputs ∧ (wholeCapture i copy s).pending = s.pending := by
  unfold wholeCapture
  try dsimp only
  (repeat' split) <;> simp

@[simp] theorem partialCapture_frame (i : Fin 32) :
    (partialCapture i s).mu = s.mu ∧ (partialCapture i s).mg = s.mg ∧ (partialCapture i s).cl = s.cl ∧
      (partialCapture i s).rl = s.rl ∧ (partialCapture i s).wk = s.wk ∧ (partialCapture i s).tsq = s.tsq ∧
      (partialCapture i s).fm = s.fm ∧ (partialCapture i s).slu = s.slu ∧ (partialCapture i s).oi = s.oi ∧
      (partialCapture i s).ptp = s.ptp ∧ (partialCapture i s).ma = s.ma ∧ (partialCapture i s).ru = s.ru ∧
      (partialCapture i s).mc = s.mc ∧ (partialCapture i s).freeCount = s.freeCount ∧
      (partialCapture i s).inputs = s.inputs ∧ (partialCapture i s).pending = s.pending := by
  unfold partialCapture
  try dsimp only
  (repeat' split) <;> simp

@[simp] theorem reportUnavailable_frame :
    (reportUnavailable s).mu = s.mu ∧ (reportUnavailable s).cl = s.cl ∧ (reportUnavailable s).rl = s.rl ∧
      (reportUnavailable s).sc = s.sc ∧ (reportUnavailable s).wk = s.wk ∧ (reportUnavailable s).tsq = s.tsq ∧
      (reportUnavailable s).fm = s.fm ∧ (reportUnavailable s).slu = s.slu ∧ (reportUnavailable s).oi = s.oi ∧
      (reportUnavailable s).ptp = s.ptp ∧ (reportUnavailable s).ma = s.ma ∧ (reportUnavailable s).ru = s.ru ∧
      (reportUnavailable s).mc = s.mc ∧ (reportUnavailable s).freeCount = s.freeCount ∧
      (reportUnavailable s).inputs = s.inputs ∧ (reportUnavailable s).pending = s.pending := by
  unfold reportUnavailable
  try dsimp only
  simp

@[simp] theorem segFetchComplete_frame (copy : Segment) :
    (segFetchComplete copy s).mu = s.mu ∧ (segFetchComplete copy s).mg = s.mg ∧
      (segFetchComplete copy s).cl = s.cl ∧ (segFetchComplete copy s).rl = s.rl ∧
      (segFetchComplete copy s).wk = s.wk ∧ (segFetchComplete copy s).tsq = s.tsq ∧
      (segFetchComplete copy s).fm = s.fm ∧ (segFetchComplete copy s).slu = s.slu ∧
      (segFetchComplete copy s).oi = s.oi ∧ (segFetchComplete copy s).ptp = s.ptp ∧
      (segFetchComplete copy s).ma = s.ma ∧ (segFetchComplete copy s).ru = s.ru ∧
      (segFetchComplete copy s).mc = s.mc ∧ (segFetchComplete copy s).freeCount = s.freeCount ∧
      (segFetchComplete copy s).inputs = s.inputs ∧ (segFetchComplete copy s).pending = s.pending := by
  unfold segFetchComplete
  try dsimp only
  (repeat' split) <;> simp

@[simp] theorem segFetchFail_frame :
    (segFetchFail s).mu = s.mu ∧ (segFetchFail s).cl = s.cl ∧ (segFetchFail s).rl = s.rl ∧
      (segFetchFail s).wk = s.wk ∧ (segFetchFail s).tsq = s.tsq ∧ (segFetchFail s).fm = s.fm ∧
      (segFetchFail s).slu = s.slu ∧ (segFetchFail s).oi = s.oi ∧ (segFetchFail s).ptp = s.ptp ∧
      (segFetchFail s).ma = s.ma ∧ (segFetchFail s).ru = s.ru ∧ (segFetchFail s).mc = s.mc ∧
      (segFetchFail s).freeCount = s.freeCount ∧ (segFetchFail s).inputs = s.inputs ∧
      (segFetchFail s).pending = s.pending := by
  unfold segFetchFail
  try dsimp only
  (repeat' split) <;> simp

@[simp] theorem refreshEntry_frame (i : Fin 32) :
    (refreshEntry i s).mu = s.mu ∧ (refreshEntry i s).mg = s.mg ∧ (refreshEntry i s).cl = s.cl ∧
      (refreshEntry i s).rl = s.rl ∧ (refreshEntry i s).wk = s.wk ∧ (refreshEntry i s).tsq = s.tsq ∧
      (refreshEntry i s).fm = s.fm ∧ (refreshEntry i s).slu = s.slu ∧ (refreshEntry i s).oi = s.oi ∧
      (refreshEntry i s).ptp = s.ptp ∧ (refreshEntry i s).ma = s.ma ∧ (refreshEntry i s).ru = s.ru ∧
      (refreshEntry i s).mc = s.mc ∧ (refreshEntry i s).freeCount = s.freeCount ∧
      (refreshEntry i s).inputs = s.inputs ∧ (refreshEntry i s).pending = s.pending := by
  unfold refreshEntry
  try dsimp only
  (repeat' split) <;> simp

@[simp] theorem endChain_frame :
    (endChain s).mu = s.mu ∧ (endChain s).mg = s.mg ∧ (endChain s).cl = s.cl ∧ (endChain s).rl = s.rl ∧
      (endChain s).fm = s.fm ∧ (endChain s).slu = s.slu ∧ (endChain s).oi = s.oi ∧ (endChain s).ptp = s.ptp ∧
      (endChain s).ma = s.ma ∧ (endChain s).ru = s.ru ∧ (endChain s).mc = s.mc ∧
      (endChain s).freeCount = s.freeCount ∧ (endChain s).inputs = s.inputs ∧
      (endChain s).pending = s.pending := by
  unfold endChain
  split
  · have h : ∀ (l : List (Fin 32)) (t : State), 
        (l.foldl (fun s i => refreshEntry i s) t).mu = t.mu ∧
        (l.foldl (fun s i => refreshEntry i s) t).mg = t.mg ∧
        (l.foldl (fun s i => refreshEntry i s) t).cl = t.cl ∧
        (l.foldl (fun s i => refreshEntry i s) t).rl = t.rl ∧
        (l.foldl (fun s i => refreshEntry i s) t).wk = t.wk ∧
        (l.foldl (fun s i => refreshEntry i s) t).tsq = t.tsq ∧
        (l.foldl (fun s i => refreshEntry i s) t).fm = t.fm ∧
        (l.foldl (fun s i => refreshEntry i s) t).slu = t.slu ∧
        (l.foldl (fun s i => refreshEntry i s) t).oi = t.oi ∧
        (l.foldl (fun s i => refreshEntry i s) t).ptp = t.ptp ∧
        (l.foldl (fun s i => refreshEntry i s) t).ma = t.ma ∧
        (l.foldl (fun s i => refreshEntry i s) t).ru = t.ru ∧
        (l.foldl (fun s i => refreshEntry i s) t).mc = t.mc ∧
        (l.foldl (fun s i => refreshEntry i s) t).freeCount = t.freeCount ∧
        (l.foldl (fun s i => refreshEntry i s) t).inputs = t.inputs ∧
        (l.foldl (fun s i => refreshEntry i s) t).pending = t.pending := by
      intro l
      induction l with
      | nil => simp
      | cons a l ih => intro t; simp [ih]
    simp [h]
  · simp

@[simp] theorem writeEnableAtEntry_frame (seg : Segment) :
    (writeEnableAtEntry seg s).mu = s.mu ∧ (writeEnableAtEntry seg s).mg = s.mg ∧
      (writeEnableAtEntry seg s).cl = s.cl ∧ (writeEnableAtEntry seg s).rl = s.rl ∧
      (writeEnableAtEntry seg s).sc = s.sc ∧ (writeEnableAtEntry seg s).wk = s.wk ∧
      (writeEnableAtEntry seg s).fm = s.fm ∧ (writeEnableAtEntry seg s).slu = s.slu ∧
      (writeEnableAtEntry seg s).oi = s.oi ∧ (writeEnableAtEntry seg s).ptp = s.ptp ∧
      (writeEnableAtEntry seg s).ma = s.ma ∧ (writeEnableAtEntry seg s).ru = s.ru ∧
      (writeEnableAtEntry seg s).mc = s.mc ∧ (writeEnableAtEntry seg s).freeCount = s.freeCount ∧
      (writeEnableAtEntry seg s).inputs = s.inputs ∧ (writeEnableAtEntry seg s).pending = s.pending := by
  unfold writeEnableAtEntry
  try dsimp only
  (repeat' split) <;> simp

@[simp] theorem testApproach_frame :
    (testApproach s).mu = s.mu ∧ (testApproach s).mg = s.mg ∧ (testApproach s).cl = s.cl ∧
      (testApproach s).rl = s.rl ∧ (testApproach s).sc = s.sc ∧ (testApproach s).tsq = s.tsq ∧
      (testApproach s).fm = s.fm ∧ (testApproach s).oi = s.oi ∧ (testApproach s).ptp = s.ptp ∧
      (testApproach s).ma = s.ma ∧ (testApproach s).mc = s.mc ∧ (testApproach s).freeCount = s.freeCount ∧
      (testApproach s).inputs = s.inputs ∧ (testApproach s).pending = s.pending := by
  unfold testApproach
  try dsimp only
  (repeat' split) <;> simp

@[simp] theorem lookAhead_frame (seg : Segment) :
    (lookAhead seg s).2.2.mu = s.mu ∧ (lookAhead seg s).2.2.mg = s.mg ∧ (lookAhead seg s).2.2.cl = s.cl ∧
      (lookAhead seg s).2.2.rl = s.rl ∧ (lookAhead seg s).2.2.wk = s.wk ∧ (lookAhead seg s).2.2.tsq = s.tsq ∧
      (lookAhead seg s).2.2.fm = s.fm ∧ (lookAhead seg s).2.2.slu = s.slu ∧ (lookAhead seg s).2.2.oi = s.oi ∧
      (lookAhead seg s).2.2.ptp = s.ptp ∧ (lookAhead seg s).2.2.ma = s.ma ∧ (lookAhead seg s).2.2.ru = s.ru ∧
      (lookAhead seg s).2.2.mc = s.mc ∧ (lookAhead seg s).2.2.freeCount = s.freeCount ∧
      (lookAhead seg s).2.2.inputs = s.inputs ∧ (lookAhead seg s).2.2.pending = s.pending := by
  unfold lookAhead
  try dsimp only
  (repeat' split) <;> simp

@[simp] theorem countVisit_frame (k : Fin 32) (seg : Segment) :
    (countVisit k seg s).mu = s.mu ∧ (countVisit k seg s).mg = s.mg ∧ (countVisit k seg s).cl = s.cl ∧
      (countVisit k seg s).rl = s.rl ∧ (countVisit k seg s).sc = s.sc ∧ (countVisit k seg s).tsq = s.tsq ∧
      (countVisit k seg s).fm = s.fm ∧ (countVisit k seg s).slu = s.slu ∧ (countVisit k seg s).oi = s.oi ∧
      (countVisit k seg s).ptp = s.ptp ∧ (countVisit k seg s).ma = s.ma ∧ (countVisit k seg s).ru = s.ru ∧
      (countVisit k seg s).mc = s.mc ∧ (countVisit k seg s).freeCount = s.freeCount ∧
      (countVisit k seg s).inputs = s.inputs ∧ (countVisit k seg s).pending = s.pending := by
  unfold countVisit
  try dsimp only
  simp

@[simp] theorem visitLimit_frame (seg : Segment) :
    (visitLimit seg s).mu = s.mu ∧ (visitLimit seg s).mg = s.mg ∧ (visitLimit seg s).cl = s.cl ∧
      (visitLimit seg s).rl = s.rl ∧ (visitLimit seg s).sc = s.sc ∧ (visitLimit seg s).tsq = s.tsq ∧
      (visitLimit seg s).fm = s.fm ∧ (visitLimit seg s).slu = s.slu ∧ (visitLimit seg s).oi = s.oi ∧
      (visitLimit seg s).ptp = s.ptp ∧ (visitLimit seg s).ma = s.ma ∧ (visitLimit seg s).ru = s.ru ∧
      (visitLimit seg s).mc = s.mc ∧ (visitLimit seg s).freeCount = s.freeCount ∧
      (visitLimit seg s).inputs = s.inputs ∧ (visitLimit seg s).pending = s.pending := by
  unfold visitLimit
  try dsimp only
  (repeat' split) <;> simp

@[simp] theorem reportEmpty_frame (k : Fin 32) (seg : Segment) :
    (reportEmpty k seg s).mu = s.mu ∧ (reportEmpty k seg s).mg = s.mg ∧ (reportEmpty k seg s).cl = s.cl ∧
      (reportEmpty k seg s).rl = s.rl ∧ (reportEmpty k seg s).sc = s.sc ∧ (reportEmpty k seg s).wk = s.wk ∧
      (reportEmpty k seg s).tsq = s.tsq ∧ (reportEmpty k seg s).fm = s.fm ∧
      (reportEmpty k seg s).oi = s.oi ∧ (reportEmpty k seg s).ptp = s.ptp ∧ (reportEmpty k seg s).ma = s.ma ∧
      (reportEmpty k seg s).mc = s.mc ∧ (reportEmpty k seg s).freeCount = s.freeCount ∧
      (reportEmpty k seg s).inputs = s.inputs ∧ (reportEmpty k seg s).pending = s.pending := by
  unfold reportEmpty
  split <;> simp

@[simp] theorem giveSegment_frame (seg : Segment) (before : Int) (c : Nat) :
    (giveSegment seg before c s).mu = s.mu ∧ (giveSegment seg before c s).cl = s.cl ∧
      (giveSegment seg before c s).rl = s.rl ∧ (giveSegment seg before c s).fm = s.fm ∧
      (giveSegment seg before c s).oi = s.oi ∧ (giveSegment seg before c s).ptp = s.ptp ∧
      (giveSegment seg before c s).ma = s.ma ∧ (giveSegment seg before c s).mc = s.mc ∧
      (giveSegment seg before c s).freeCount = s.freeCount ∧ (giveSegment seg before c s).inputs = s.inputs ∧
      (giveSegment seg before c s).pending = s.pending := by
  unfold giveSegment
  dsimp only
  by_cases h : handedLast seg s = true <;> simp [h]

@[simp] theorem awaitEntry_frame (k : Fin 32) :
    (awaitEntry k s).mu = s.mu ∧ (awaitEntry k s).cl = s.cl ∧ (awaitEntry k s).rl = s.rl ∧
      (awaitEntry k s).fm = s.fm ∧ (awaitEntry k s).slu = s.slu ∧ (awaitEntry k s).oi = s.oi ∧
      (awaitEntry k s).ptp = s.ptp ∧ (awaitEntry k s).ma = s.ma ∧ (awaitEntry k s).ru = s.ru ∧
      (awaitEntry k s).mc = s.mc ∧ (awaitEntry k s).freeCount = s.freeCount ∧
      (awaitEntry k s).inputs = s.inputs ∧ (awaitEntry k s).pending = s.pending := by
  unfold awaitEntry
  try dsimp only
  simp

@[simp] theorem enterAtRest_frame (n : Nat) (k : Fin 32) :
    (enterAtRest n k s).1.mu = s.mu ∧ (enterAtRest n k s).1.cl = s.cl ∧ (enterAtRest n k s).1.rl = s.rl ∧
      (enterAtRest n k s).1.fm = s.fm ∧ (enterAtRest n k s).1.oi = s.oi ∧ (enterAtRest n k s).1.ptp = s.ptp ∧
      (enterAtRest n k s).1.ma = s.ma ∧ (enterAtRest n k s).1.mc = s.mc ∧
      (enterAtRest n k s).1.freeCount = s.freeCount ∧ (enterAtRest n k s).1.inputs = s.inputs ∧
      (enterAtRest n k s).1.pending = s.pending := by
  induction n generalizing k s with
  | zero => simp [enterAtRest]
  | succ n ih =>
    unfold enterAtRest
    dsimp only
    (repeat' split) <;> simp_all

@[simp] theorem startChain_frame (k : Fin 32) (seq : Byte) (a : Bool) :
    (startChain k seq a s).mu = s.mu ∧ (startChain k seq a s).cl = s.cl ∧ (startChain k seq a s).rl = s.rl ∧
      (startChain k seq a s).fm = s.fm ∧ (startChain k seq a s).oi = s.oi ∧
      (startChain k seq a s).ptp = s.ptp ∧ (startChain k seq a s).ma = s.ma ∧
      (startChain k seq a s).mc = s.mc ∧ (startChain k seq a s).freeCount = s.freeCount ∧
      (startChain k seq a s).inputs = s.inputs ∧ (startChain k seq a s).pending = s.pending := by
  unfold startChain
  dsimp only
  split <;> (rename_i s' h; have h' := congrArg Prod.fst h; dsimp only at h'; subst h'; simp)

@[simp] theorem keepLookAhead_frame (k : Fin 32) (seg : Segment) :
    (keepLookAhead k seg s).mu = s.mu ∧ (keepLookAhead k seg s).mg = s.mg ∧
      (keepLookAhead k seg s).cl = s.cl ∧ (keepLookAhead k seg s).rl = s.rl ∧
      (keepLookAhead k seg s).wk = s.wk ∧ (keepLookAhead k seg s).tsq = s.tsq ∧
      (keepLookAhead k seg s).fm = s.fm ∧ (keepLookAhead k seg s).slu = s.slu ∧
      (keepLookAhead k seg s).oi = s.oi ∧ (keepLookAhead k seg s).ptp = s.ptp ∧
      (keepLookAhead k seg s).ma = s.ma ∧ (keepLookAhead k seg s).ru = s.ru ∧
      (keepLookAhead k seg s).mc = s.mc ∧ (keepLookAhead k seg s).freeCount = s.freeCount ∧
      (keepLookAhead k seg s).inputs = s.inputs ∧ (keepLookAhead k seg s).pending = s.pending := by
  unfold keepLookAhead
  try dsimp only
  (repeat' split) <;> simp

@[simp] theorem passBoundary_frame (n c : Nat) :
    (passBoundary n c s).mu = s.mu ∧ (passBoundary n c s).cl = s.cl ∧ (passBoundary n c s).rl = s.rl ∧
      (passBoundary n c s).fm = s.fm ∧ (passBoundary n c s).oi = s.oi ∧ (passBoundary n c s).ptp = s.ptp ∧
      (passBoundary n c s).ma = s.ma ∧ (passBoundary n c s).mc = s.mc ∧
      (passBoundary n c s).freeCount = s.freeCount ∧ (passBoundary n c s).inputs = s.inputs ∧
      (passBoundary n c s).pending = s.pending := by
  induction n generalizing s with
  | zero => simp [passBoundary]
  | succ n ih =>
    unfold passBoundary
    (repeat' split) <;> simp_all
    (repeat' split) <;> simp_all

@[simp] theorem computeCapstan_frame :
    (computeCapstan s).mu = s.mu ∧ (computeCapstan s).mg = s.mg ∧ (computeCapstan s).rl = s.rl ∧
      (computeCapstan s).sc = s.sc ∧ (computeCapstan s).wk = s.wk ∧ (computeCapstan s).tsq = s.tsq ∧
      (computeCapstan s).fm = s.fm ∧ (computeCapstan s).slu = s.slu ∧ (computeCapstan s).oi = s.oi ∧
      (computeCapstan s).ptp = s.ptp ∧ (computeCapstan s).ma = s.ma ∧ (computeCapstan s).ru = s.ru ∧
      (computeCapstan s).mc = s.mc ∧ (computeCapstan s).freeCount = s.freeCount ∧
      (computeCapstan s).inputs = s.inputs ∧ (computeCapstan s).pending = s.pending := by
  unfold computeCapstan
  try dsimp only
  (repeat' split) <;> simp

@[simp] theorem computeReel_frame (x : Reel) (n : Nat) :
    (computeReel x n s).mu = s.mu ∧ (computeReel x n s).mg = s.mg ∧ (computeReel x n s).cl = s.cl ∧
      (computeReel x n s).sc = s.sc ∧ (computeReel x n s).wk = s.wk ∧ (computeReel x n s).tsq = s.tsq ∧
      (computeReel x n s).fm = s.fm ∧ (computeReel x n s).slu = s.slu ∧ (computeReel x n s).oi = s.oi ∧
      (computeReel x n s).ptp = s.ptp ∧ (computeReel x n s).ma = s.ma ∧ (computeReel x n s).ru = s.ru ∧
      (computeReel x n s).mc = s.mc ∧ (computeReel x n s).freeCount = s.freeCount ∧
      (computeReel x n s).inputs = s.inputs ∧ (computeReel x n s).pending = s.pending := by
  unfold computeReel
  try dsimp only
  simp

@[simp] theorem presentReel_frame (x : Reel) (n : Nat) :
    (presentReel x n s).mu = s.mu ∧ (presentReel x n s).mg = s.mg ∧ (presentReel x n s).cl = s.cl ∧
      (presentReel x n s).sc = s.sc ∧ (presentReel x n s).wk = s.wk ∧ (presentReel x n s).tsq = s.tsq ∧
      (presentReel x n s).fm = s.fm ∧ (presentReel x n s).slu = s.slu ∧ (presentReel x n s).oi = s.oi ∧
      (presentReel x n s).ptp = s.ptp ∧ (presentReel x n s).ma = s.ma ∧ (presentReel x n s).ru = s.ru ∧
      (presentReel x n s).mc = s.mc ∧ (presentReel x n s).freeCount = s.freeCount ∧
      (presentReel x n s).inputs = s.inputs ∧ (presentReel x n s).pending = s.pending := by
  unfold presentReel
  try dsimp only
  (repeat' split) <;> simp

@[simp] theorem presentPair_frame (p : PerReel (BitVec 10)) :
    (presentPair p s).mu = s.mu ∧ (presentPair p s).mg = s.mg ∧ (presentPair p s).cl = s.cl ∧
      (presentPair p s).sc = s.sc ∧ (presentPair p s).wk = s.wk ∧ (presentPair p s).tsq = s.tsq ∧
      (presentPair p s).fm = s.fm ∧ (presentPair p s).slu = s.slu ∧ (presentPair p s).oi = s.oi ∧
      (presentPair p s).ptp = s.ptp ∧ (presentPair p s).ma = s.ma ∧ (presentPair p s).ru = s.ru ∧
      (presentPair p s).mc = s.mc ∧ (presentPair p s).freeCount = s.freeCount ∧
      (presentPair p s).inputs = s.inputs ∧ (presentPair p s).pending = s.pending := by
  unfold presentPair
  try dsimp only
  simp

@[simp] theorem starveReel_frame (x : Reel) :
    (starveReel x s).mu = s.mu ∧ (starveReel x s).mg = s.mg ∧ (starveReel x s).cl = s.cl ∧
      (starveReel x s).sc = s.sc ∧ (starveReel x s).wk = s.wk ∧ (starveReel x s).tsq = s.tsq ∧
      (starveReel x s).fm = s.fm ∧ (starveReel x s).slu = s.slu ∧ (starveReel x s).oi = s.oi ∧
      (starveReel x s).ptp = s.ptp ∧ (starveReel x s).ma = s.ma ∧ (starveReel x s).ru = s.ru ∧
      (starveReel x s).mc = s.mc ∧ (starveReel x s).freeCount = s.freeCount ∧
      (starveReel x s).inputs = s.inputs ∧ (starveReel x s).pending = s.pending := by
  unfold starveReel
  try dsimp only
  (repeat' split) <;> simp

@[simp] theorem haltResponse_frame :
    (haltResponse s).slu = s.slu ∧ (haltResponse s).oi = s.oi ∧ (haltResponse s).ptp = s.ptp ∧
      (haltResponse s).ma = s.ma ∧ (haltResponse s).mc = s.mc ∧ (haltResponse s).freeCount = s.freeCount ∧
      (haltResponse s).inputs = s.inputs ∧ (haltResponse s).pending = s.pending := by
  unfold haltResponse
  try dsimp only
  simp

@[simp] theorem brakeResponse_frame (k : FaultKind) :
    (brakeResponse k s).slu = s.slu ∧ (brakeResponse k s).oi = s.oi ∧ (brakeResponse k s).ptp = s.ptp ∧
      (brakeResponse k s).ma = s.ma ∧ (brakeResponse k s).mc = s.mc ∧
      (brakeResponse k s).freeCount = s.freeCount ∧ (brakeResponse k s).inputs = s.inputs ∧
      (brakeResponse k s).pending = s.pending := by
  unfold brakeResponse
  try dsimp only
  simp

@[simp] theorem vacuumEffect_frame (k : FaultKind) :
    (vacuumEffect k s).mg = s.mg ∧ (vacuumEffect k s).sc = s.sc ∧ (vacuumEffect k s).wk = s.wk ∧
      (vacuumEffect k s).slu = s.slu ∧ (vacuumEffect k s).oi = s.oi ∧ (vacuumEffect k s).ptp = s.ptp ∧
      (vacuumEffect k s).ma = s.ma ∧ (vacuumEffect k s).mc = s.mc ∧
      (vacuumEffect k s).freeCount = s.freeCount ∧ (vacuumEffect k s).inputs = s.inputs ∧
      (vacuumEffect k s).pending = s.pending := by
  unfold vacuumEffect
  try dsimp only
  (repeat' split) <;> simp

@[simp] theorem recordLater_frame (k : FaultKind) :
    (recordLater k s).mu = s.mu ∧ (recordLater k s).mg = s.mg ∧ (recordLater k s).cl = s.cl ∧
      (recordLater k s).rl = s.rl ∧ (recordLater k s).sc = s.sc ∧ (recordLater k s).wk = s.wk ∧
      (recordLater k s).tsq = s.tsq ∧ (recordLater k s).slu = s.slu ∧ (recordLater k s).oi = s.oi ∧
      (recordLater k s).ptp = s.ptp ∧ (recordLater k s).ma = s.ma ∧ (recordLater k s).ru = s.ru ∧
      (recordLater k s).mc = s.mc ∧ (recordLater k s).freeCount = s.freeCount ∧
      (recordLater k s).inputs = s.inputs ∧ (recordLater k s).pending = s.pending := by
  unfold recordLater
  try dsimp only
  simp

@[simp] theorem laterFault_frame (k : FaultKind) (v : Int) :
    (laterFault k v s).oi = s.oi ∧ (laterFault k v s).ptp = s.ptp ∧ (laterFault k v s).ma = s.ma ∧
      (laterFault k v s).mc = s.mc ∧ (laterFault k v s).freeCount = s.freeCount ∧
      (laterFault k v s).inputs = s.inputs ∧ (laterFault k v s).pending = s.pending := by
  unfold laterFault
  try dsimp only
  (repeat' split) <;> simp

@[simp] theorem attendLimitsLater_frame (x : Reel) :
    (attendLimitsLater x s).oi = s.oi ∧ (attendLimitsLater x s).ptp = s.ptp ∧
      (attendLimitsLater x s).ma = s.ma ∧ (attendLimitsLater x s).mc = s.mc ∧
      (attendLimitsLater x s).freeCount = s.freeCount ∧ (attendLimitsLater x s).inputs = s.inputs ∧
      (attendLimitsLater x s).pending = s.pending := by
  unfold attendLimitsLater
  try dsimp only
  (repeat' split) <;> simp

@[simp] theorem takeFault_frame (k : FaultKind) (v : Int) :
    (takeFault k v s).oi = s.oi ∧ (takeFault k v s).ptp = s.ptp ∧ (takeFault k v s).ma = s.ma ∧
      (takeFault k v s).mc = s.mc ∧ (takeFault k v s).freeCount = s.freeCount ∧
      (takeFault k v s).inputs = s.inputs ∧ (takeFault k v s).pending = s.pending := by
  unfold takeFault
  try dsimp only
  (repeat' split) <;> simp

@[simp] theorem limitCondition_frame (x : Reel) (u : Bool) :
    (limitCondition x u s).oi = s.oi ∧ (limitCondition x u s).ptp = s.ptp ∧
      (limitCondition x u s).ma = s.ma ∧ (limitCondition x u s).mc = s.mc ∧
      (limitCondition x u s).freeCount = s.freeCount ∧ (limitCondition x u s).inputs = s.inputs ∧
      (limitCondition x u s).pending = s.pending := by
  unfold limitCondition
  try dsimp only
  (repeat' split) <;> simp

@[simp] theorem attendLimits_frame (x : Reel) :
    (attendLimits x s).oi = s.oi ∧ (attendLimits x s).ptp = s.ptp ∧ (attendLimits x s).ma = s.ma ∧
      (attendLimits x s).mc = s.mc ∧ (attendLimits x s).freeCount = s.freeCount ∧
      (attendLimits x s).inputs = s.inputs ∧ (attendLimits x s).pending = s.pending := by
  unfold attendLimits
  try dsimp only
  simp

@[simp] theorem evaluateDoor_frame :
    (evaluateDoor s).oi = s.oi ∧ (evaluateDoor s).ptp = s.ptp ∧ (evaluateDoor s).ma = s.ma ∧
      (evaluateDoor s).mc = s.mc ∧ (evaluateDoor s).freeCount = s.freeCount ∧
      (evaluateDoor s).inputs = s.inputs ∧ (evaluateDoor s).pending = s.pending := by
  unfold evaluateDoor
  try dsimp only
  (repeat' split) <;> simp

@[simp] theorem clearRecord_frame :
    (clearRecord s).mu = s.mu ∧ (clearRecord s).mg = s.mg ∧ (clearRecord s).cl = s.cl ∧
      (clearRecord s).rl = s.rl ∧ (clearRecord s).sc = s.sc ∧ (clearRecord s).wk = s.wk ∧
      (clearRecord s).tsq = s.tsq ∧ (clearRecord s).slu = s.slu ∧ (clearRecord s).oi = s.oi ∧
      (clearRecord s).ptp = s.ptp ∧ (clearRecord s).ma = s.ma ∧ (clearRecord s).ru = s.ru ∧
      (clearRecord s).mc = s.mc ∧ (clearRecord s).freeCount = s.freeCount ∧
      (clearRecord s).inputs = s.inputs ∧ (clearRecord s).pending = s.pending := by
  unfold clearRecord
  try dsimp only
  simp

@[simp] theorem startMotion_frame (m : Motion) (d : Int) :
    (startMotion m d s).mu = s.mu ∧ (startMotion m d s).cl = s.cl ∧ (startMotion m d s).rl = s.rl ∧
      (startMotion m d s).sc = s.sc ∧ (startMotion m d s).wk = s.wk ∧ (startMotion m d s).tsq = s.tsq ∧
      (startMotion m d s).fm = s.fm ∧ (startMotion m d s).slu = s.slu ∧ (startMotion m d s).oi = s.oi ∧
      (startMotion m d s).ptp = s.ptp ∧ (startMotion m d s).ma = s.ma ∧ (startMotion m d s).ru = s.ru ∧
      (startMotion m d s).mc = s.mc ∧ (startMotion m d s).freeCount = s.freeCount ∧
      (startMotion m d s).inputs = s.inputs ∧ (startMotion m d s).pending = s.pending := by
  unfold startMotion
  try dsimp only
  (repeat' split) <;> simp

@[simp] theorem startChainMotion_frame (k : Fin 32) (seq : Byte) (a : Bool) :
    (startChainMotion k seq a s).mu = s.mu ∧ (startChainMotion k seq a s).cl = s.cl ∧
      (startChainMotion k seq a s).rl = s.rl ∧ (startChainMotion k seq a s).fm = s.fm ∧
      (startChainMotion k seq a s).oi = s.oi ∧ (startChainMotion k seq a s).ptp = s.ptp ∧
      (startChainMotion k seq a s).ma = s.ma ∧ (startChainMotion k seq a s).mc = s.mc ∧
      (startChainMotion k seq a s).freeCount = s.freeCount ∧ (startChainMotion k seq a s).inputs = s.inputs ∧
      (startChainMotion k seq a s).pending = s.pending := by
  unfold startChainMotion
  try dsimp only
  (repeat' split) <;> simp

@[simp] theorem applyHalt_frame :
    (applyHalt s).mu = s.mu ∧ (applyHalt s).cl = s.cl ∧ (applyHalt s).rl = s.rl ∧ (applyHalt s).sc = s.sc ∧
      (applyHalt s).wk = s.wk ∧ (applyHalt s).tsq = s.tsq ∧ (applyHalt s).fm = s.fm ∧
      (applyHalt s).slu = s.slu ∧ (applyHalt s).oi = s.oi ∧ (applyHalt s).ptp = s.ptp ∧
      (applyHalt s).ma = s.ma ∧ (applyHalt s).ru = s.ru ∧ (applyHalt s).mc = s.mc ∧
      (applyHalt s).freeCount = s.freeCount ∧ (applyHalt s).inputs = s.inputs ∧
      (applyHalt s).pending = s.pending := by
  unfold applyHalt
  try dsimp only
  (repeat' split) <;> simp

@[simp] theorem applyStop_frame (k : StopKind) :
    (applyStop k s).1.mu = s.mu ∧ (applyStop k s).1.cl = s.cl ∧ (applyStop k s).1.rl = s.rl ∧
      (applyStop k s).1.sc = s.sc ∧ (applyStop k s).1.wk = s.wk ∧ (applyStop k s).1.tsq = s.tsq ∧
      (applyStop k s).1.fm = s.fm ∧ (applyStop k s).1.slu = s.slu ∧ (applyStop k s).1.oi = s.oi ∧
      (applyStop k s).1.ptp = s.ptp ∧ (applyStop k s).1.ma = s.ma ∧ (applyStop k s).1.ru = s.ru ∧
      (applyStop k s).1.mc = s.mc ∧ (applyStop k s).1.freeCount = s.freeCount ∧
      (applyStop k s).1.inputs = s.inputs ∧ (applyStop k s).1.pending = s.pending := by
  unfold applyStop
  try dsimp only
  (repeat' split) <;> simp

@[simp] theorem applyStops_frame (ks : List StopKind) :
    (applyStops ks s).1.mu = s.mu ∧ (applyStops ks s).1.cl = s.cl ∧ (applyStops ks s).1.rl = s.rl ∧
      (applyStops ks s).1.sc = s.sc ∧ (applyStops ks s).1.wk = s.wk ∧ (applyStops ks s).1.tsq = s.tsq ∧
      (applyStops ks s).1.fm = s.fm ∧ (applyStops ks s).1.slu = s.slu ∧ (applyStops ks s).1.oi = s.oi ∧
      (applyStops ks s).1.ptp = s.ptp ∧ (applyStops ks s).1.ma = s.ma ∧ (applyStops ks s).1.ru = s.ru ∧
      (applyStops ks s).1.mc = s.mc ∧ (applyStops ks s).1.freeCount = s.freeCount ∧
      (applyStops ks s).1.inputs = s.inputs ∧ (applyStops ks s).1.pending = s.pending := by
  induction ks generalizing s with
  | nil => simp [applyStops]
  | cons k ks ih =>
    have h := applyStop_frame (s := s) k
    unfold applyStops
    split <;> simp_all

@[simp] theorem applyMarkStop_frame :
    (applyMarkStop s).mu = s.mu ∧ (applyMarkStop s).cl = s.cl ∧ (applyMarkStop s).rl = s.rl ∧
      (applyMarkStop s).sc = s.sc ∧ (applyMarkStop s).wk = s.wk ∧ (applyMarkStop s).tsq = s.tsq ∧
      (applyMarkStop s).fm = s.fm ∧ (applyMarkStop s).slu = s.slu ∧ (applyMarkStop s).oi = s.oi ∧
      (applyMarkStop s).ptp = s.ptp ∧ (applyMarkStop s).ma = s.ma ∧ (applyMarkStop s).ru = s.ru ∧
      (applyMarkStop s).mc = s.mc ∧ (applyMarkStop s).freeCount = s.freeCount ∧
      (applyMarkStop s).inputs = s.inputs ∧ (applyMarkStop s).pending = s.pending := by
  unfold applyMarkStop
  try dsimp only
  (repeat' split) <;> simp

@[simp] theorem applyReaim_frame (b : Bool) :
    (applyReaim b s).mu = s.mu ∧ (applyReaim b s).cl = s.cl ∧ (applyReaim b s).rl = s.rl ∧
      (applyReaim b s).sc = s.sc ∧ (applyReaim b s).wk = s.wk ∧ (applyReaim b s).tsq = s.tsq ∧
      (applyReaim b s).fm = s.fm ∧ (applyReaim b s).slu = s.slu ∧ (applyReaim b s).oi = s.oi ∧
      (applyReaim b s).ptp = s.ptp ∧ (applyReaim b s).ma = s.ma ∧ (applyReaim b s).ru = s.ru ∧
      (applyReaim b s).mc = s.mc ∧ (applyReaim b s).freeCount = s.freeCount ∧
      (applyReaim b s).inputs = s.inputs ∧ (applyReaim b s).pending = s.pending := by
  unfold applyReaim
  try dsimp only
  (repeat' split) <;> simp

@[simp] theorem applyRequests_frame :
    (applyRequests s).1.mu = s.mu ∧ (applyRequests s).1.cl = s.cl ∧ (applyRequests s).1.rl = s.rl ∧
      (applyRequests s).1.sc = s.sc ∧ (applyRequests s).1.wk = s.wk ∧ (applyRequests s).1.tsq = s.tsq ∧
      (applyRequests s).1.fm = s.fm ∧ (applyRequests s).1.slu = s.slu ∧ (applyRequests s).1.oi = s.oi ∧
      (applyRequests s).1.ptp = s.ptp ∧ (applyRequests s).1.ma = s.ma ∧ (applyRequests s).1.ru = s.ru ∧
      (applyRequests s).1.mc = s.mc ∧ (applyRequests s).1.freeCount = s.freeCount ∧
      (applyRequests s).1.inputs = s.inputs ∧ (applyRequests s).1.pending = s.pending := by
  unfold applyRequests
  dsimp only
  split
  · simp
  · split <;> (rename_i h; have h' := congrArg Prod.fst h; dsimp only at h'; subst h'; simp)

@[simp] theorem reduceSpeed_frame :
    (reduceSpeed s).mu = s.mu ∧ (reduceSpeed s).cl = s.cl ∧ (reduceSpeed s).rl = s.rl ∧
      (reduceSpeed s).sc = s.sc ∧ (reduceSpeed s).wk = s.wk ∧ (reduceSpeed s).tsq = s.tsq ∧
      (reduceSpeed s).fm = s.fm ∧ (reduceSpeed s).oi = s.oi ∧ (reduceSpeed s).ptp = s.ptp ∧
      (reduceSpeed s).ma = s.ma ∧ (reduceSpeed s).mc = s.mc ∧ (reduceSpeed s).freeCount = s.freeCount ∧
      (reduceSpeed s).inputs = s.inputs ∧ (reduceSpeed s).pending = s.pending := by
  unfold reduceSpeed
  try dsimp only
  (repeat' split) <;> simp

@[simp] theorem applyClamp_frame :
    (applyClamp s).mu = s.mu ∧ (applyClamp s).cl = s.cl ∧ (applyClamp s).rl = s.rl ∧
      (applyClamp s).sc = s.sc ∧ (applyClamp s).wk = s.wk ∧ (applyClamp s).tsq = s.tsq ∧
      (applyClamp s).fm = s.fm ∧ (applyClamp s).slu = s.slu ∧ (applyClamp s).oi = s.oi ∧
      (applyClamp s).ptp = s.ptp ∧ (applyClamp s).ma = s.ma ∧ (applyClamp s).ru = s.ru ∧
      (applyClamp s).mc = s.mc ∧ (applyClamp s).freeCount = s.freeCount ∧ (applyClamp s).inputs = s.inputs ∧
      (applyClamp s).pending = s.pending := by
  unfold applyClamp
  try dsimp only
  (repeat' split) <;> simp

@[simp] theorem beginSettle_frame (t : Int) (b : Bool) :
    (beginSettle t b s).mu = s.mu ∧ (beginSettle t b s).cl = s.cl ∧ (beginSettle t b s).rl = s.rl ∧
      (beginSettle t b s).sc = s.sc ∧ (beginSettle t b s).wk = s.wk ∧ (beginSettle t b s).tsq = s.tsq ∧
      (beginSettle t b s).fm = s.fm ∧ (beginSettle t b s).slu = s.slu ∧ (beginSettle t b s).oi = s.oi ∧
      (beginSettle t b s).ptp = s.ptp ∧ (beginSettle t b s).ma = s.ma ∧ (beginSettle t b s).ru = s.ru ∧
      (beginSettle t b s).mc = s.mc ∧ (beginSettle t b s).freeCount = s.freeCount ∧
      (beginSettle t b s).inputs = s.inputs ∧ (beginSettle t b s).pending = s.pending := by
  unfold beginSettle
  try dsimp only
  simp

@[simp] theorem nextSegment_frame :
    (nextSegment s).1.mu = s.mu ∧ (nextSegment s).1.cl = s.cl ∧ (nextSegment s).1.rl = s.rl ∧
      (nextSegment s).1.fm = s.fm ∧ (nextSegment s).1.oi = s.oi ∧ (nextSegment s).1.ptp = s.ptp ∧
      (nextSegment s).1.ma = s.ma ∧ (nextSegment s).1.mc = s.mc ∧ (nextSegment s).1.freeCount = s.freeCount ∧
      (nextSegment s).1.inputs = s.inputs ∧ (nextSegment s).1.pending = s.pending := by
  unfold nextSegment
  split
  · simp
  · split <;> (rename_i h; have h' := congrArg Prod.fst h; dsimp only at h'; subst h'; simp)

@[simp] theorem restEnd_frame :
    (restEnd s).1.mu = s.mu ∧ (restEnd s).1.cl = s.cl ∧ (restEnd s).1.rl = s.rl ∧ (restEnd s).1.fm = s.fm ∧
      (restEnd s).1.oi = s.oi ∧ (restEnd s).1.ptp = s.ptp ∧ (restEnd s).1.ma = s.ma ∧
      (restEnd s).1.mc = s.mc ∧ (restEnd s).1.freeCount = s.freeCount ∧ (restEnd s).1.inputs = s.inputs ∧
      (restEnd s).1.pending = s.pending := by
  unfold restEnd
  try dsimp only
  (repeat' split) <;> simp

@[simp] theorem walkerCommit_frame (c : Nat) :
    (walkerCommit c s).mu = s.mu ∧ (walkerCommit c s).mg = s.mg ∧ (walkerCommit c s).cl = s.cl ∧
      (walkerCommit c s).rl = s.rl ∧ (walkerCommit c s).sc = s.sc ∧ (walkerCommit c s).tsq = s.tsq ∧
      (walkerCommit c s).fm = s.fm ∧ (walkerCommit c s).oi = s.oi ∧ (walkerCommit c s).ptp = s.ptp ∧
      (walkerCommit c s).ma = s.ma ∧ (walkerCommit c s).mc = s.mc ∧
      (walkerCommit c s).freeCount = s.freeCount ∧ (walkerCommit c s).inputs = s.inputs ∧
      (walkerCommit c s).pending = s.pending := by
  unfold walkerCommit
  try dsimp only
  (repeat' split) <;> simp

@[simp] theorem chooseSpeed_frame :
    (chooseSpeed s).2.mu = s.mu ∧ (chooseSpeed s).2.cl = s.cl ∧ (chooseSpeed s).2.rl = s.rl ∧
      (chooseSpeed s).2.sc = s.sc ∧ (chooseSpeed s).2.wk = s.wk ∧ (chooseSpeed s).2.tsq = s.tsq ∧
      (chooseSpeed s).2.fm = s.fm ∧ (chooseSpeed s).2.slu = s.slu ∧ (chooseSpeed s).2.oi = s.oi ∧
      (chooseSpeed s).2.ptp = s.ptp ∧ (chooseSpeed s).2.ma = s.ma ∧ (chooseSpeed s).2.ru = s.ru ∧
      (chooseSpeed s).2.mc = s.mc ∧ (chooseSpeed s).2.freeCount = s.freeCount ∧
      (chooseSpeed s).2.inputs = s.inputs ∧ (chooseSpeed s).2.pending = s.pending := by
  unfold chooseSpeed
  try dsimp only
  (repeat' split) <;> simp

@[simp] theorem runPast_frame (c : Nat) :
    (runPast c s).2.mu = s.mu ∧ (runPast c s).2.cl = s.cl ∧ (runPast c s).2.rl = s.rl ∧
      (runPast c s).2.fm = s.fm ∧ (runPast c s).2.oi = s.oi ∧ (runPast c s).2.ptp = s.ptp ∧
      (runPast c s).2.ma = s.ma ∧ (runPast c s).2.mc = s.mc ∧ (runPast c s).2.freeCount = s.freeCount ∧
      (runPast c s).2.inputs = s.inputs ∧ (runPast c s).2.pending = s.pending := by
  unfold runPast
  try dsimp only
  simp

@[simp] theorem runOn_frame (c : Nat) :
    (runOn c s).mu = s.mu ∧ (runOn c s).cl = s.cl ∧ (runOn c s).rl = s.rl ∧ (runOn c s).fm = s.fm ∧
      (runOn c s).oi = s.oi ∧ (runOn c s).ptp = s.ptp ∧ (runOn c s).ma = s.ma ∧
      (runOn c s).mc = s.mc ∧ (runOn c s).freeCount = s.freeCount ∧ (runOn c s).inputs = s.inputs ∧
      (runOn c s).pending = s.pending := by
  unfold runOn
  simp

@[simp] theorem restAfter_frame (c : Nat) :
    (restAfter c s).1.mu = s.mu ∧ (restAfter c s).1.cl = s.cl ∧ (restAfter c s).1.rl = s.rl ∧
      (restAfter c s).1.fm = s.fm ∧ (restAfter c s).1.oi = s.oi ∧ (restAfter c s).1.ptp = s.ptp ∧ (restAfter c s).1.ma = s.ma ∧
      (restAfter c s).1.mc = s.mc ∧ (restAfter c s).1.freeCount = s.freeCount ∧ (restAfter c s).1.inputs = s.inputs ∧
      (restAfter c s).1.pending = s.pending := by
  unfold restAfter
  split <;> simp

@[simp] theorem runStep_frame :
    (runStep s).1.mu = s.mu ∧ (runStep s).1.cl = s.cl ∧ (runStep s).1.rl = s.rl ∧ (runStep s).1.fm = s.fm ∧
      (runStep s).1.oi = s.oi ∧ (runStep s).1.ptp = s.ptp ∧ (runStep s).1.ma = s.ma ∧
      (runStep s).1.mc = s.mc ∧ (runStep s).1.freeCount = s.freeCount ∧ (runStep s).1.inputs = s.inputs ∧
      (runStep s).1.pending = s.pending := by
  unfold runStep
  dsimp only
  split <;> simp

@[simp] theorem enterAwaited_frame :
    (enterAwaited s).1.mu = s.mu ∧ (enterAwaited s).1.cl = s.cl ∧ (enterAwaited s).1.rl = s.rl ∧
      (enterAwaited s).1.fm = s.fm ∧ (enterAwaited s).1.oi = s.oi ∧ (enterAwaited s).1.ptp = s.ptp ∧
      (enterAwaited s).1.ma = s.ma ∧ (enterAwaited s).1.mc = s.mc ∧
      (enterAwaited s).1.freeCount = s.freeCount ∧ (enterAwaited s).1.inputs = s.inputs ∧
      (enterAwaited s).1.pending = s.pending := by
  unfold enterAwaited
  split
  · simp
  · split
    · split <;> (rename_i h; have h' := congrArg Prod.fst h; dsimp only at h'; subst h'; simp)
    · simp

@[simp] theorem holdTake_frame :
    (holdTake s).1.mu = s.mu ∧ (holdTake s).1.cl = s.cl ∧ (holdTake s).1.rl = s.rl ∧
      (holdTake s).1.fm = s.fm ∧ (holdTake s).1.oi = s.oi ∧ (holdTake s).1.ptp = s.ptp ∧
      (holdTake s).1.ma = s.ma ∧ (holdTake s).1.mc = s.mc ∧ (holdTake s).1.freeCount = s.freeCount ∧
      (holdTake s).1.inputs = s.inputs ∧ (holdTake s).1.pending = s.pending := by
  unfold holdTake
  try dsimp only
  (repeat' split) <;> simp

@[simp] theorem holdStep_frame :
    (holdStep s).1.mu = s.mu ∧ (holdStep s).1.cl = s.cl ∧ (holdStep s).1.rl = s.rl ∧
      (holdStep s).1.fm = s.fm ∧ (holdStep s).1.oi = s.oi ∧ (holdStep s).1.ptp = s.ptp ∧
      (holdStep s).1.ma = s.ma ∧ (holdStep s).1.mc = s.mc ∧ (holdStep s).1.freeCount = s.freeCount ∧
      (holdStep s).1.inputs = s.inputs ∧ (holdStep s).1.pending = s.pending := by
  unfold holdStep
  try dsimp only
  simp

@[simp] theorem settleStep_frame (b : Bool) :
    (settleStep b s).1.mu = s.mu ∧ (settleStep b s).1.cl = s.cl ∧ (settleStep b s).1.rl = s.rl ∧
      (settleStep b s).1.fm = s.fm ∧ (settleStep b s).1.oi = s.oi ∧ (settleStep b s).1.ptp = s.ptp ∧
      (settleStep b s).1.ma = s.ma ∧ (settleStep b s).1.mc = s.mc ∧
      (settleStep b s).1.freeCount = s.freeCount ∧ (settleStep b s).1.inputs = s.inputs ∧
      (settleStep b s).1.pending = s.pending := by
  unfold settleStep
  dsimp only
  (repeat' split) <;> simp

@[simp] theorem rampStep_frame :
    (rampStep s).1.mu = s.mu ∧ (rampStep s).1.cl = s.cl ∧ (rampStep s).1.rl = s.rl ∧
      (rampStep s).1.sc = s.sc ∧ (rampStep s).1.wk = s.wk ∧ (rampStep s).1.tsq = s.tsq ∧
      (rampStep s).1.fm = s.fm ∧ (rampStep s).1.slu = s.slu ∧ (rampStep s).1.oi = s.oi ∧
      (rampStep s).1.ptp = s.ptp ∧ (rampStep s).1.ma = s.ma ∧ (rampStep s).1.ru = s.ru ∧
      (rampStep s).1.mc = s.mc ∧ (rampStep s).1.freeCount = s.freeCount ∧ (rampStep s).1.inputs = s.inputs ∧
      (rampStep s).1.pending = s.pending := by
  unfold rampStep
  try dsimp only
  (repeat' split) <;> simp

@[simp] theorem phaseStep_frame :
    (phaseStep s).1.mu = s.mu ∧ (phaseStep s).1.cl = s.cl ∧ (phaseStep s).1.rl = s.rl ∧
      (phaseStep s).1.fm = s.fm ∧ (phaseStep s).1.oi = s.oi ∧ (phaseStep s).1.ptp = s.ptp ∧
      (phaseStep s).1.ma = s.ma ∧ (phaseStep s).1.mc = s.mc ∧ (phaseStep s).1.freeCount = s.freeCount ∧
      (phaseStep s).1.inputs = s.inputs ∧ (phaseStep s).1.pending = s.pending := by
  unfold phaseStep
  try dsimp only
  (repeat' split) <;> simp

@[simp] theorem generatorStep_frame :
    (generatorStep s).1.mu = s.mu ∧ (generatorStep s).1.cl = s.cl ∧ (generatorStep s).1.rl = s.rl ∧
      (generatorStep s).1.fm = s.fm ∧ (generatorStep s).1.oi = s.oi ∧ (generatorStep s).1.ptp = s.ptp ∧
      (generatorStep s).1.ma = s.ma ∧ (generatorStep s).1.mc = s.mc ∧
      (generatorStep s).1.freeCount = s.freeCount ∧ (generatorStep s).1.inputs = s.inputs ∧
      (generatorStep s).1.pending = s.pending := by
  unfold generatorStep
  split <;> (rename_i h; have h' := congrArg Prod.fst h; dsimp only at h'; subst h'; simp)

@[simp] theorem capstanCount_frame (ph : Phase) :
    (capstanCount ph s).mg = s.mg ∧ (capstanCount ph s).cl = s.cl ∧ (capstanCount ph s).rl = s.rl ∧
      (capstanCount ph s).sc = s.sc ∧ (capstanCount ph s).wk = s.wk ∧ (capstanCount ph s).tsq = s.tsq ∧
      (capstanCount ph s).fm = s.fm ∧ (capstanCount ph s).slu = s.slu ∧ (capstanCount ph s).oi = s.oi ∧
      (capstanCount ph s).ptp = s.ptp ∧ (capstanCount ph s).ma = s.ma ∧ (capstanCount ph s).ru = s.ru ∧
      (capstanCount ph s).mc = s.mc ∧ (capstanCount ph s).freeCount = s.freeCount ∧
      (capstanCount ph s).inputs = s.inputs ∧ (capstanCount ph s).pending = s.pending := by
  unfold capstanCount
  try dsimp only
  (repeat' split) <;> simp

@[simp] theorem reelCount_frame (x : Reel) (ph : Phase) :
    (reelCount x ph s).mg = s.mg ∧ (reelCount x ph s).cl = s.cl ∧ (reelCount x ph s).rl = s.rl ∧
      (reelCount x ph s).sc = s.sc ∧ (reelCount x ph s).wk = s.wk ∧ (reelCount x ph s).tsq = s.tsq ∧
      (reelCount x ph s).fm = s.fm ∧ (reelCount x ph s).slu = s.slu ∧ (reelCount x ph s).oi = s.oi ∧
      (reelCount x ph s).ptp = s.ptp ∧ (reelCount x ph s).ma = s.ma ∧ (reelCount x ph s).ru = s.ru ∧
      (reelCount x ph s).mc = s.mc ∧ (reelCount x ph s).freeCount = s.freeCount ∧
      (reelCount x ph s).inputs = s.inputs ∧ (reelCount x ph s).pending = s.pending := by
  unfold reelCount
  try dsimp only
  (repeat' split) <;> simp

@[simp] theorem bothChange_frame (t : Tach) :
    (bothChange t s).mg = s.mg ∧ (bothChange t s).cl = s.cl ∧ (bothChange t s).rl = s.rl ∧
      (bothChange t s).sc = s.sc ∧ (bothChange t s).wk = s.wk ∧ (bothChange t s).tsq = s.tsq ∧
      (bothChange t s).fm = s.fm ∧ (bothChange t s).slu = s.slu ∧ (bothChange t s).oi = s.oi ∧
      (bothChange t s).ptp = s.ptp ∧ (bothChange t s).ma = s.ma ∧ (bothChange t s).ru = s.ru ∧
      (bothChange t s).mc = s.mc ∧ (bothChange t s).freeCount = s.freeCount ∧
      (bothChange t s).inputs = s.inputs ∧ (bothChange t s).pending = s.pending := by
  unfold bothChange
  try dsimp only
  (repeat' split) <;> simp

@[simp] theorem addNotice_frame (m : Mark) :
    (addNotice m s).mg = s.mg ∧ (addNotice m s).cl = s.cl ∧ (addNotice m s).rl = s.rl ∧
      (addNotice m s).sc = s.sc ∧ (addNotice m s).wk = s.wk ∧ (addNotice m s).tsq = s.tsq ∧
      (addNotice m s).fm = s.fm ∧ (addNotice m s).slu = s.slu ∧ (addNotice m s).oi = s.oi ∧
      (addNotice m s).ptp = s.ptp ∧ (addNotice m s).ma = s.ma ∧ (addNotice m s).ru = s.ru ∧
      (addNotice m s).mc = s.mc ∧ (addNotice m s).freeCount = s.freeCount ∧
      (addNotice m s).inputs = s.inputs ∧ (addNotice m s).pending = s.pending := by
  unfold addNotice
  try dsimp only
  simp

@[simp] theorem zeroPosition_frame :
    (zeroPosition s).mg = s.mg ∧ (zeroPosition s).cl = s.cl ∧ (zeroPosition s).rl = s.rl ∧
      (zeroPosition s).sc = s.sc ∧ (zeroPosition s).wk = s.wk ∧ (zeroPosition s).tsq = s.tsq ∧
      (zeroPosition s).fm = s.fm ∧ (zeroPosition s).slu = s.slu ∧ (zeroPosition s).oi = s.oi ∧
      (zeroPosition s).ptp = s.ptp ∧ (zeroPosition s).ma = s.ma ∧ (zeroPosition s).ru = s.ru ∧
      (zeroPosition s).mc = s.mc ∧ (zeroPosition s).freeCount = s.freeCount ∧
      (zeroPosition s).inputs = s.inputs ∧ (zeroPosition s).pending = s.pending := by
  unfold zeroPosition
  try dsimp only
  simp

@[simp] theorem rebase_frame (pos : Int) :
    (rebase pos s).oi = s.oi ∧ (rebase pos s).ptp = s.ptp ∧ (rebase pos s).ma = s.ma ∧
      (rebase pos s).mc = s.mc ∧ (rebase pos s).freeCount = s.freeCount ∧ (rebase pos s).inputs = s.inputs ∧
      (rebase pos s).pending = s.pending := by
  unfold rebase
  try dsimp only
  (repeat' split) <;> simp

@[simp] theorem setLeg_frame (leg : Leg) :
    (setLeg leg s).mu = s.mu ∧ (setLeg leg s).mg = s.mg ∧ (setLeg leg s).cl = s.cl ∧
      (setLeg leg s).rl = s.rl ∧ (setLeg leg s).sc = s.sc ∧ (setLeg leg s).wk = s.wk ∧
      (setLeg leg s).fm = s.fm ∧ (setLeg leg s).slu = s.slu ∧ (setLeg leg s).oi = s.oi ∧
      (setLeg leg s).ptp = s.ptp ∧ (setLeg leg s).ma = s.ma ∧ (setLeg leg s).ru = s.ru ∧
      (setLeg leg s).mc = s.mc ∧ (setLeg leg s).freeCount = s.freeCount ∧ (setLeg leg s).inputs = s.inputs ∧
      (setLeg leg s).pending = s.pending := by
  unfold setLeg
  try dsimp only
  simp

@[simp] theorem setCrossingSeen_frame :
    (setCrossingSeen s).mu = s.mu ∧ (setCrossingSeen s).mg = s.mg ∧ (setCrossingSeen s).cl = s.cl ∧
      (setCrossingSeen s).rl = s.rl ∧ (setCrossingSeen s).sc = s.sc ∧ (setCrossingSeen s).wk = s.wk ∧
      (setCrossingSeen s).fm = s.fm ∧ (setCrossingSeen s).slu = s.slu ∧ (setCrossingSeen s).oi = s.oi ∧
      (setCrossingSeen s).ptp = s.ptp ∧ (setCrossingSeen s).ma = s.ma ∧ (setCrossingSeen s).ru = s.ru ∧
      (setCrossingSeen s).mc = s.mc ∧ (setCrossingSeen s).freeCount = s.freeCount ∧
      (setCrossingSeen s).inputs = s.inputs ∧ (setCrossingSeen s).pending = s.pending := by
  unfold setCrossingSeen
  try dsimp only
  simp

@[simp] theorem startSearch_frame (f : Bool) :
    (startSearch f s).mu = s.mu ∧ (startSearch f s).cl = s.cl ∧ (startSearch f s).rl = s.rl ∧
      (startSearch f s).sc = s.sc ∧ (startSearch f s).wk = s.wk ∧ (startSearch f s).fm = s.fm ∧
      (startSearch f s).slu = s.slu ∧ (startSearch f s).oi = s.oi ∧ (startSearch f s).ptp = s.ptp ∧
      (startSearch f s).ma = s.ma ∧ (startSearch f s).ru = s.ru ∧ (startSearch f s).mc = s.mc ∧
      (startSearch f s).freeCount = s.freeCount ∧ (startSearch f s).inputs = s.inputs ∧
      (startSearch f s).pending = s.pending := by
  unfold startSearch
  try dsimp only
  (repeat' split) <;> simp

@[simp] theorem startFast_frame :
    (startFast s).mu = s.mu ∧ (startFast s).cl = s.cl ∧ (startFast s).rl = s.rl ∧ (startFast s).sc = s.sc ∧
      (startFast s).wk = s.wk ∧ (startFast s).fm = s.fm ∧ (startFast s).slu = s.slu ∧
      (startFast s).oi = s.oi ∧ (startFast s).ptp = s.ptp ∧ (startFast s).ma = s.ma ∧
      (startFast s).ru = s.ru ∧ (startFast s).mc = s.mc ∧ (startFast s).freeCount = s.freeCount ∧
      (startFast s).inputs = s.inputs ∧ (startFast s).pending = s.pending := by
  unfold startFast
  try dsimp only
  simp

@[simp] theorem botCrossing_frame (f : Bool) (pos : Int) :
    (botCrossing f pos s).oi = s.oi ∧ (botCrossing f pos s).ptp = s.ptp ∧ (botCrossing f pos s).ma = s.ma ∧
      (botCrossing f pos s).mc = s.mc ∧ (botCrossing f pos s).freeCount = s.freeCount ∧
      (botCrossing f pos s).inputs = s.inputs ∧ (botCrossing f pos s).pending = s.pending := by
  unfold botCrossing
  try dsimp only
  (repeat' split) <;> simp

@[simp] theorem handOnCrossing_frame (c : Crossing) :
    (handOnCrossing c s).oi = s.oi ∧ (handOnCrossing c s).ptp = s.ptp ∧ (handOnCrossing c s).ma = s.ma ∧
      (handOnCrossing c s).mc = s.mc ∧ (handOnCrossing c s).freeCount = s.freeCount ∧
      (handOnCrossing c s).inputs = s.inputs ∧ (handOnCrossing c s).pending = s.pending := by
  unfold handOnCrossing
  try dsimp only
  (repeat' split) <;> simp

@[simp] theorem takeCrossings_frame (cs : List Crossing) :
    (takeCrossings cs s).oi = s.oi ∧ (takeCrossings cs s).ptp = s.ptp ∧ (takeCrossings cs s).ma = s.ma ∧
      (takeCrossings cs s).mc = s.mc ∧ (takeCrossings cs s).freeCount = s.freeCount ∧
      (takeCrossings cs s).inputs = s.inputs ∧ (takeCrossings cs s).pending = s.pending := by
  have h : ∀ (l : List Crossing) (t : State),
      (l.foldl (fun s c => handOnCrossing c s) t).oi = t.oi ∧
      (l.foldl (fun s c => handOnCrossing c s) t).ptp = t.ptp ∧
      (l.foldl (fun s c => handOnCrossing c s) t).ma = t.ma ∧
      (l.foldl (fun s c => handOnCrossing c s) t).mc = t.mc ∧
      (l.foldl (fun s c => handOnCrossing c s) t).freeCount = t.freeCount ∧
      (l.foldl (fun s c => handOnCrossing c s) t).inputs = t.inputs ∧
      (l.foldl (fun s c => handOnCrossing c s) t).pending = t.pending := by
    intro l
    induction l with
    | nil => simp
    | cons a l ih => intro t; simp [ih]
  simp [takeCrossings, h]

@[simp] theorem fillTest_frame :
    (fillTest s).oi = s.oi ∧ (fillTest s).ptp = s.ptp ∧ (fillTest s).ma = s.ma ∧ (fillTest s).mc = s.mc ∧
      (fillTest s).freeCount = s.freeCount ∧ (fillTest s).inputs = s.inputs ∧
      (fillTest s).pending = s.pending := by
  unfold fillTest
  try dsimp only
  (repeat' split) <;> simp

@[simp] theorem present_frame (p : PerReel (BitVec 10)) :
    (present p s).oi = s.oi ∧ (present p s).ptp = s.ptp ∧ (present p s).ma = s.ma ∧ (present p s).mc = s.mc ∧
      (present p s).freeCount = s.freeCount ∧ (present p s).inputs = s.inputs ∧
      (present p s).pending = s.pending := by
  unfold present
  try dsimp only
  (repeat' split) <;> simp

@[simp] theorem pairArrival_frame (p : PerReel (BitVec 10)) :
    (pairArrival p s).oi = s.oi ∧ (pairArrival p s).ptp = s.ptp ∧ (pairArrival p s).ma = s.ma ∧
      (pairArrival p s).mc = s.mc ∧ (pairArrival p s).freeCount = s.freeCount ∧
      (pairArrival p s).inputs = s.inputs ∧ (pairArrival p s).pending = s.pending := by
  unfold pairArrival
  try dsimp only
  simp

@[simp] theorem endUnloaded_frame (o : OrderOutcome) :
    (endUnloaded o s).mg = s.mg ∧ (endUnloaded o s).sc = s.sc ∧ (endUnloaded o s).wk = s.wk ∧
      (endUnloaded o s).oi = s.oi ∧ (endUnloaded o s).ptp = s.ptp ∧ (endUnloaded o s).ma = s.ma ∧
      (endUnloaded o s).mc = s.mc ∧ (endUnloaded o s).freeCount = s.freeCount ∧
      (endUnloaded o s).inputs = s.inputs ∧ (endUnloaded o s).pending = s.pending := by
  unfold endUnloaded
  try dsimp only
  simp

@[simp] theorem enterWindOff_frame :
    (enterWindOff s).mg = s.mg ∧ (enterWindOff s).sc = s.sc ∧ (enterWindOff s).wk = s.wk ∧
      (enterWindOff s).oi = s.oi ∧ (enterWindOff s).ptp = s.ptp ∧ (enterWindOff s).ma = s.ma ∧
      (enterWindOff s).mc = s.mc ∧ (enterWindOff s).freeCount = s.freeCount ∧
      (enterWindOff s).inputs = s.inputs ∧ (enterWindOff s).pending = s.pending := by
  unfold enterWindOff
  try dsimp only
  (repeat' split) <;> simp

@[simp] theorem windOffTapeLoss_frame :
    (windOffTapeLoss s).mg = s.mg ∧ (windOffTapeLoss s).sc = s.sc ∧ (windOffTapeLoss s).wk = s.wk ∧
      (windOffTapeLoss s).oi = s.oi ∧ (windOffTapeLoss s).ptp = s.ptp ∧ (windOffTapeLoss s).ma = s.ma ∧
      (windOffTapeLoss s).mc = s.mc ∧ (windOffTapeLoss s).freeCount = s.freeCount ∧
      (windOffTapeLoss s).inputs = s.inputs ∧ (windOffTapeLoss s).pending = s.pending := by
  unfold windOffTapeLoss
  try dsimp only
  (repeat' split) <;> simp

@[simp] theorem phaseTimer_frame :
    (phaseTimer s).mg = s.mg ∧ (phaseTimer s).sc = s.sc ∧ (phaseTimer s).wk = s.wk ∧
      (phaseTimer s).oi = s.oi ∧ (phaseTimer s).ptp = s.ptp ∧ (phaseTimer s).ma = s.ma ∧
      (phaseTimer s).mc = s.mc ∧ (phaseTimer s).freeCount = s.freeCount ∧ (phaseTimer s).inputs = s.inputs ∧
      (phaseTimer s).pending = s.pending := by
  unfold phaseTimer
  try dsimp only
  (repeat' split) <;> simp

@[simp] theorem endReady_frame (o : OrderOutcome) (pe : Int) :
    (endReady o pe s).mg = s.mg ∧ (endReady o pe s).sc = s.sc ∧ (endReady o pe s).wk = s.wk ∧
      (endReady o pe s).oi = s.oi ∧ (endReady o pe s).ptp = s.ptp ∧ (endReady o pe s).ma = s.ma ∧
      (endReady o pe s).mc = s.mc ∧ (endReady o pe s).freeCount = s.freeCount ∧
      (endReady o pe s).inputs = s.inputs ∧ (endReady o pe s).pending = s.pending := by
  unfold endReady
  try dsimp only
  simp

@[simp] theorem afterFast_frame (h : InHand) :
    (afterFast h s).oi = s.oi ∧ (afterFast h s).ptp = s.ptp ∧ (afterFast h s).ma = s.ma ∧
      (afterFast h s).mc = s.mc ∧ (afterFast h s).freeCount = s.freeCount ∧
      (afterFast h s).inputs = s.inputs ∧ (afterFast h s).pending = s.pending := by
  unfold afterFast
  try dsimp only
  (repeat' split) <;> simp

@[simp] theorem afterSearchReverse_frame (h : InHand) :
    (afterSearchReverse h s).oi = s.oi ∧ (afterSearchReverse h s).ptp = s.ptp ∧
      (afterSearchReverse h s).ma = s.ma ∧ (afterSearchReverse h s).mc = s.mc ∧
      (afterSearchReverse h s).freeCount = s.freeCount ∧ (afterSearchReverse h s).inputs = s.inputs ∧
      (afterSearchReverse h s).pending = s.pending := by
  unfold afterSearchReverse
  try dsimp only
  (repeat' split) <;> simp

@[simp] theorem legEnd_frame (e : MotionEnd) (m : ChainMarks) (h : InHand) :
    (legEnd e m h s).oi = s.oi ∧ (legEnd e m h s).ptp = s.ptp ∧ (legEnd e m h s).ma = s.ma ∧
      (legEnd e m h s).mc = s.mc ∧ (legEnd e m h s).freeCount = s.freeCount ∧
      (legEnd e m h s).inputs = s.inputs ∧ (legEnd e m h s).pending = s.pending := by
  unfold legEnd
  try dsimp only
  (repeat' split) <;> simp

@[simp] theorem motionEnd_frame (e : MotionEnd) :
    (motionEnd e s).oi = s.oi ∧ (motionEnd e s).ptp = s.ptp ∧ (motionEnd e s).ma = s.ma ∧
      (motionEnd e s).mc = s.mc ∧ (motionEnd e s).freeCount = s.freeCount ∧
      (motionEnd e s).inputs = s.inputs ∧ (motionEnd e s).pending = s.pending := by
  unfold motionEnd
  try dsimp only
  (repeat' split) <;> simp

@[simp] theorem motionEnds_frame (e : Option MotionEnd) :
    (motionEnds e s).oi = s.oi ∧ (motionEnds e s).ptp = s.ptp ∧ (motionEnds e s).ma = s.ma ∧
      (motionEnds e s).mc = s.mc ∧ (motionEnds e s).freeCount = s.freeCount ∧
      (motionEnds e s).inputs = s.inputs ∧ (motionEnds e s).pending = s.pending := by
  unfold motionEnds
  try dsimp only
  (repeat' split) <;> simp

@[simp] theorem onLine_frame (k : Fin 12) (f : Line → Line) :
    (onLine k f s).mu = s.mu ∧ (onLine k f s).mg = s.mg ∧ (onLine k f s).cl = s.cl ∧
      (onLine k f s).rl = s.rl ∧ (onLine k f s).sc = s.sc ∧ (onLine k f s).wk = s.wk ∧
      (onLine k f s).tsq = s.tsq ∧ (onLine k f s).fm = s.fm ∧ (onLine k f s).oi = s.oi ∧
      (onLine k f s).ptp = s.ptp ∧ (onLine k f s).ma = s.ma ∧ (onLine k f s).ru = s.ru ∧
      (onLine k f s).mc = s.mc ∧ (onLine k f s).freeCount = s.freeCount ∧ (onLine k f s).inputs = s.inputs ∧
      (onLine k f s).pending = s.pending := by
  unfold onLine
  try dsimp only
  simp

@[simp] theorem ringLost_frame :
    (ringLost s).mu = s.mu ∧ (ringLost s).mg = s.mg ∧ (ringLost s).cl = s.cl ∧ (ringLost s).rl = s.rl ∧
      (ringLost s).sc = s.sc ∧ (ringLost s).wk = s.wk ∧ (ringLost s).fm = s.fm ∧ (ringLost s).oi = s.oi ∧
      (ringLost s).ptp = s.ptp ∧ (ringLost s).ma = s.ma ∧ (ringLost s).mc = s.mc ∧
      (ringLost s).inputs = s.inputs ∧ (ringLost s).pending = s.pending := by
  unfold ringLost
  try dsimp only
  (repeat' split) <;> simp

@[simp] theorem handOnLevel_frame (f : Func) :
    (handOnLevel f s).oi = s.oi ∧ (handOnLevel f s).ptp = s.ptp ∧ (handOnLevel f s).ma = s.ma ∧
      (handOnLevel f s).mc = s.mc ∧ (handOnLevel f s).inputs = s.inputs ∧
      (handOnLevel f s).pending = s.pending := by
  unfold handOnLevel
  try dsimp only
  (repeat' split) <;> simp

@[simp] theorem noticeAction_frame (f : Func) :
    (noticeAction f s).oi = s.oi ∧ (noticeAction f s).ptp = s.ptp ∧ (noticeAction f s).ma = s.ma ∧
      (noticeAction f s).mc = s.mc ∧ (noticeAction f s).freeCount = s.freeCount ∧
      (noticeAction f s).inputs = s.inputs ∧ (noticeAction f s).pending = s.pending := by
  unfold noticeAction
  try dsimp only
  (repeat' split) <;> simp

@[simp] theorem notice_frame (k : Fin 12) :
    (notice k s).oi = s.oi ∧ (notice k s).ptp = s.ptp ∧ (notice k s).ma = s.ma ∧ (notice k s).mc = s.mc ∧
      (notice k s).freeCount = s.freeCount ∧ (notice k s).inputs = s.inputs ∧
      (notice k s).pending = s.pending := by
  unfold notice
  try dsimp only
  simp

@[simp] theorem acceptChange_frame (k : Fin 12) :
    (acceptChange k s).oi = s.oi ∧ (acceptChange k s).ptp = s.ptp ∧ (acceptChange k s).ma = s.ma ∧
      (acceptChange k s).mc = s.mc ∧ (acceptChange k s).inputs = s.inputs ∧
      (acceptChange k s).pending = s.pending := by
  unfold acceptChange
  try dsimp only
  (repeat' split) <;> simp

@[simp] theorem levelNotice_frame (k : Fin 12) :
    (levelNotice k s).oi = s.oi ∧ (levelNotice k s).ptp = s.ptp ∧ (levelNotice k s).ma = s.ma ∧
      (levelNotice k s).mc = s.mc ∧ (levelNotice k s).freeCount = s.freeCount ∧
      (levelNotice k s).inputs = s.inputs ∧ (levelNotice k s).pending = s.pending := by
  unfold levelNotice
  try dsimp only
  (repeat' split) <;> simp

@[simp] theorem tickLine_frame (raw : BitVec 12) (k : Fin 12) :
    (tickLine raw k s).oi = s.oi ∧ (tickLine raw k s).ptp = s.ptp ∧ (tickLine raw k s).ma = s.ma ∧
      (tickLine raw k s).mc = s.mc ∧ (tickLine raw k s).inputs = s.inputs ∧
      (tickLine raw k s).pending = s.pending := by
  unfold tickLine
  try dsimp only
  (repeat' split) <;> simp

@[simp] theorem tick_frame (raw : BitVec 12) (o : List (Fin 12)) :
    (tick raw o s).oi = s.oi ∧ (tick raw o s).ptp = s.ptp ∧ (tick raw o s).ma = s.ma ∧
      (tick raw o s).mc = s.mc ∧ (tick raw o s).inputs = s.inputs ∧ (tick raw o s).pending = s.pending := by
  have h : ∀ (l : List (Fin 12)) (t : State),
      (l.foldl (fun s k => tickLine raw k s) t).oi = t.oi ∧
      (l.foldl (fun s k => tickLine raw k s) t).ptp = t.ptp ∧
      (l.foldl (fun s k => tickLine raw k s) t).ma = t.ma ∧
      (l.foldl (fun s k => tickLine raw k s) t).mc = t.mc ∧
      (l.foldl (fun s k => tickLine raw k s) t).inputs = t.inputs ∧
      (l.foldl (fun s k => tickLine raw k s) t).pending = t.pending := by
    intro l
    induction l with
    | nil => simp
    | cons a l ih => intro t; simp [ih]
  simp [tick, h]

@[simp] theorem senseChange_frame :
    (senseChange s).mu = s.mu ∧ (senseChange s).mg = s.mg ∧ (senseChange s).cl = s.cl ∧
      (senseChange s).rl = s.rl ∧ (senseChange s).sc = s.sc ∧ (senseChange s).wk = s.wk ∧
      (senseChange s).tsq = s.tsq ∧ (senseChange s).fm = s.fm ∧ (senseChange s).oi = s.oi ∧
      (senseChange s).ptp = s.ptp ∧ (senseChange s).ma = s.ma ∧ (senseChange s).mc = s.mc ∧
      (senseChange s).freeCount = s.freeCount ∧ (senseChange s).inputs = s.inputs ∧
      (senseChange s).pending = s.pending := by
  unfold senseChange
  try dsimp only
  (repeat' split) <;> simp

@[simp] theorem freeFunction_frame (k : Fin 12) (f : Func) :
    (freeFunction k f s).oi = s.oi ∧ (freeFunction k f s).ptp = s.ptp ∧ (freeFunction k f s).ma = s.ma ∧
      (freeFunction k f s).mc = s.mc ∧ (freeFunction k f s).inputs = s.inputs ∧
      (freeFunction k f s).pending = s.pending := by
  unfold freeFunction
  try dsimp only
  (repeat' split) <;> simp

@[simp] theorem seeInputs_frame :
    (seeInputs s).mu = s.mu ∧ (seeInputs s).mg = s.mg ∧ (seeInputs s).cl = s.cl ∧ (seeInputs s).rl = s.rl ∧
      (seeInputs s).sc = s.sc ∧ (seeInputs s).wk = s.wk ∧ (seeInputs s).tsq = s.tsq ∧
      (seeInputs s).fm = s.fm ∧ (seeInputs s).oi = s.oi ∧ (seeInputs s).ptp = s.ptp ∧
      (seeInputs s).ma = s.ma ∧ (seeInputs s).ru = s.ru ∧ (seeInputs s).mc = s.mc ∧
      (seeInputs s).freeCount = s.freeCount ∧ (seeInputs s).pending = s.pending := by
  unfold seeInputs
  try dsimp only
  simp

@[simp] theorem applySenseLine_frame (k : Fin 12) (f : Func) (m : LineMode) (inv : Bool) (e : BitVec 3) :
    (applySenseLine k f m inv e s).oi = s.oi ∧ (applySenseLine k f m inv e s).ptp = s.ptp ∧
      (applySenseLine k f m inv e s).ma = s.ma ∧ (applySenseLine k f m inv e s).mc = s.mc ∧
      (applySenseLine k f m inv e s).pending = s.pending := by
  unfold applySenseLine
  try dsimp only
  (repeat' split) <;> simp

@[simp] theorem setParams_frame (p : Params) :
    (setParams p s).mu = s.mu ∧ (setParams p s).mg = s.mg ∧ (setParams p s).cl = s.cl ∧
      (setParams p s).rl = s.rl ∧ (setParams p s).sc = s.sc ∧ (setParams p s).wk = s.wk ∧
      (setParams p s).tsq = s.tsq ∧ (setParams p s).fm = s.fm ∧ (setParams p s).slu = s.slu ∧
      (setParams p s).oi = s.oi ∧ (setParams p s).ptp = s.ptp ∧ (setParams p s).ma = s.ma ∧
      (setParams p s).ru = s.ru ∧ (setParams p s).freeCount = s.freeCount ∧
      (setParams p s).inputs = s.inputs ∧ (setParams p s).pending = s.pending := by
  unfold setParams
  try dsimp only
  simp

@[simp] theorem levelAttention_frame :
    (levelAttention s).mu = s.mu ∧ (levelAttention s).mg = s.mg ∧ (levelAttention s).cl = s.cl ∧
      (levelAttention s).rl = s.rl ∧ (levelAttention s).sc = s.sc ∧ (levelAttention s).wk = s.wk ∧
      (levelAttention s).tsq = s.tsq ∧ (levelAttention s).fm = s.fm ∧ (levelAttention s).slu = s.slu ∧
      (levelAttention s).oi = s.oi ∧ (levelAttention s).ptp = s.ptp ∧ (levelAttention s).ma = s.ma ∧
      (levelAttention s).mc = s.mc ∧ (levelAttention s).freeCount = s.freeCount ∧
      (levelAttention s).inputs = s.inputs ∧ (levelAttention s).pending = s.pending := by
  unfold levelAttention
  try dsimp only
  simp

@[simp] theorem attentionAfterSetup_frame (b : Bool) :
    (attentionAfterSetup b s).mu = s.mu ∧ (attentionAfterSetup b s).mg = s.mg ∧
      (attentionAfterSetup b s).cl = s.cl ∧ (attentionAfterSetup b s).rl = s.rl ∧
      (attentionAfterSetup b s).sc = s.sc ∧ (attentionAfterSetup b s).wk = s.wk ∧
      (attentionAfterSetup b s).tsq = s.tsq ∧ (attentionAfterSetup b s).fm = s.fm ∧
      (attentionAfterSetup b s).slu = s.slu ∧ (attentionAfterSetup b s).oi = s.oi ∧
      (attentionAfterSetup b s).ptp = s.ptp ∧ (attentionAfterSetup b s).ma = s.ma ∧
      (attentionAfterSetup b s).mc = s.mc ∧ (attentionAfterSetup b s).freeCount = s.freeCount ∧
      (attentionAfterSetup b s).inputs = s.inputs ∧ (attentionAfterSetup b s).pending = s.pending := by
  unfold attentionAfterSetup
  try dsimp only
  (repeat' split) <;> simp

@[simp] theorem counterAfterSetup_frame (n : Nat) :
    (counterAfterSetup n s).mu = s.mu ∧ (counterAfterSetup n s).mg = s.mg ∧
      (counterAfterSetup n s).cl = s.cl ∧ (counterAfterSetup n s).rl = s.rl ∧
      (counterAfterSetup n s).sc = s.sc ∧ (counterAfterSetup n s).wk = s.wk ∧
      (counterAfterSetup n s).tsq = s.tsq ∧ (counterAfterSetup n s).fm = s.fm ∧
      (counterAfterSetup n s).slu = s.slu ∧ (counterAfterSetup n s).oi = s.oi ∧
      (counterAfterSetup n s).ptp = s.ptp ∧ (counterAfterSetup n s).ma = s.ma ∧
      (counterAfterSetup n s).mc = s.mc ∧ (counterAfterSetup n s).freeCount = s.freeCount ∧
      (counterAfterSetup n s).inputs = s.inputs ∧ (counterAfterSetup n s).pending = s.pending := by
  unfold counterAfterSetup
  try dsimp only
  (repeat' split) <;> simp

@[simp] theorem applyReporting_frame (b : Body) :
    (applyReporting b s).mu = s.mu ∧ (applyReporting b s).mg = s.mg ∧ (applyReporting b s).cl = s.cl ∧
      (applyReporting b s).rl = s.rl ∧ (applyReporting b s).sc = s.sc ∧ (applyReporting b s).wk = s.wk ∧
      (applyReporting b s).tsq = s.tsq ∧ (applyReporting b s).fm = s.fm ∧ (applyReporting b s).slu = s.slu ∧
      (applyReporting b s).oi = s.oi ∧ (applyReporting b s).ptp = s.ptp ∧ (applyReporting b s).ma = s.ma ∧
      (applyReporting b s).freeCount = s.freeCount ∧ (applyReporting b s).inputs = s.inputs ∧
      (applyReporting b s).pending = s.pending := by
  unfold applyReporting
  try dsimp only
  simp

@[simp] theorem setupApplied_frame (c : Code) (b : Bool) (seq : Byte) :
    (setupApplied c b seq s).mu = s.mu ∧ (setupApplied c b seq s).mg = s.mg ∧
      (setupApplied c b seq s).cl = s.cl ∧ (setupApplied c b seq s).rl = s.rl ∧
      (setupApplied c b seq s).sc = s.sc ∧ (setupApplied c b seq s).wk = s.wk ∧
      (setupApplied c b seq s).tsq = s.tsq ∧ (setupApplied c b seq s).fm = s.fm ∧
      (setupApplied c b seq s).oi = s.oi ∧ (setupApplied c b seq s).ptp = s.ptp ∧
      (setupApplied c b seq s).ma = s.ma ∧ (setupApplied c b seq s).mc = s.mc ∧
      (setupApplied c b seq s).freeCount = s.freeCount ∧ (setupApplied c b seq s).inputs = s.inputs ∧
      (setupApplied c b seq s).pending = s.pending := by
  unfold setupApplied
  try dsimp only
  simp

@[simp] theorem presentHeld_frame :
    (presentHeld s).oi = s.oi ∧ (presentHeld s).ptp = s.ptp ∧ (presentHeld s).ma = s.ma ∧
      (presentHeld s).mc = s.mc ∧ (presentHeld s).freeCount = s.freeCount ∧
      (presentHeld s).inputs = s.inputs ∧ (presentHeld s).pending = s.pending := by
  unfold presentHeld
  try dsimp only
  (repeat' split) <;> simp

@[simp] theorem missStage_frame :
    (missStage s).oi = s.oi ∧ (missStage s).ptp = s.ptp ∧ (missStage s).ma = s.ma ∧ (missStage s).mc = s.mc ∧
      (missStage s).freeCount = s.freeCount ∧ (missStage s).inputs = s.inputs ∧
      (missStage s).pending = s.pending := by
  unfold missStage
  try dsimp only
  (repeat' split) <;> simp

@[simp] theorem timerStage_frame (c : Context) :
    (timerStage c s).oi = s.oi ∧ (timerStage c s).ptp = s.ptp ∧ (timerStage c s).ma = s.ma ∧
      (timerStage c s).mc = s.mc ∧ (timerStage c s).freeCount = s.freeCount ∧
      (timerStage c s).inputs = s.inputs ∧ (timerStage c s).pending = s.pending := by
  unfold timerStage
  try dsimp only
  (repeat' split) <;> simp

@[simp] theorem generatorStage_frame :
    (generatorStage s).oi = s.oi ∧ (generatorStage s).ptp = s.ptp ∧ (generatorStage s).ma = s.ma ∧
      (generatorStage s).mc = s.mc ∧ (generatorStage s).freeCount = s.freeCount ∧
      (generatorStage s).inputs = s.inputs ∧ (generatorStage s).pending = s.pending := by
  unfold generatorStage
  try dsimp only
  simp

@[simp] theorem vacuumCheck_frame :
    (vacuumCheck s).oi = s.oi ∧ (vacuumCheck s).ptp = s.ptp ∧ (vacuumCheck s).ma = s.ma ∧
      (vacuumCheck s).mc = s.mc ∧ (vacuumCheck s).freeCount = s.freeCount ∧
      (vacuumCheck s).inputs = s.inputs ∧ (vacuumCheck s).pending = s.pending := by
  unfold vacuumCheck
  try dsimp only
  (repeat' split) <;> simp

@[simp] theorem stallCheck_frame (x : Reel) :
    (stallCheck x s).oi = s.oi ∧ (stallCheck x s).ptp = s.ptp ∧ (stallCheck x s).ma = s.ma ∧
      (stallCheck x s).mc = s.mc ∧ (stallCheck x s).freeCount = s.freeCount ∧
      (stallCheck x s).inputs = s.inputs ∧ (stallCheck x s).pending = s.pending := by
  unfold stallCheck
  try dsimp only
  (repeat' split) <;> simp

@[simp] theorem runawayCheck_frame (c : Context) :
    (runawayCheck c s).oi = s.oi ∧ (runawayCheck c s).ptp = s.ptp ∧ (runawayCheck c s).ma = s.ma ∧
      (runawayCheck c s).mc = s.mc ∧ (runawayCheck c s).freeCount = s.freeCount ∧
      (runawayCheck c s).inputs = s.inputs ∧ (runawayCheck c s).pending = s.pending := by
  unfold runawayCheck
  try dsimp only
  (repeat' split) <;> simp

@[simp] theorem positionCheck_frame (c : Context) :
    (positionCheck c s).oi = s.oi ∧ (positionCheck c s).ptp = s.ptp ∧ (positionCheck c s).ma = s.ma ∧
      (positionCheck c s).mc = s.mc ∧ (positionCheck c s).freeCount = s.freeCount ∧
      (positionCheck c s).inputs = s.inputs ∧ (positionCheck c s).pending = s.pending := by
  unfold positionCheck
  try dsimp only
  (repeat' split) <;> simp

@[simp] theorem endHalt_frame (b : Bool) :
    (endHalt b s).mg = s.mg ∧ (endHalt b s).sc = s.sc ∧ (endHalt b s).wk = s.wk ∧ (endHalt b s).slu = s.slu ∧
      (endHalt b s).oi = s.oi ∧ (endHalt b s).ptp = s.ptp ∧ (endHalt b s).ma = s.ma ∧
      (endHalt b s).mc = s.mc ∧ (endHalt b s).freeCount = s.freeCount ∧ (endHalt b s).inputs = s.inputs ∧
      (endHalt b s).pending = s.pending := by
  unfold endHalt
  try dsimp only
  simp

@[simp] theorem haltCheck_frame (c : Context) :
    (haltCheck c s).mg = s.mg ∧ (haltCheck c s).sc = s.sc ∧ (haltCheck c s).wk = s.wk ∧
      (haltCheck c s).slu = s.slu ∧ (haltCheck c s).oi = s.oi ∧ (haltCheck c s).ptp = s.ptp ∧
      (haltCheck c s).ma = s.ma ∧ (haltCheck c s).mc = s.mc ∧ (haltCheck c s).freeCount = s.freeCount ∧
      (haltCheck c s).inputs = s.inputs ∧ (haltCheck c s).pending = s.pending := by
  unfold haltCheck
  try dsimp only
  (repeat' split) <;> simp

@[simp] theorem checkStage_frame (c : Context) (k : ExpiryCheck) :
    (checkStage c k s).oi = s.oi ∧ (checkStage c k s).ptp = s.ptp ∧ (checkStage c k s).ma = s.ma ∧
      (checkStage c k s).mc = s.mc ∧ (checkStage c k s).freeCount = s.freeCount ∧
      (checkStage c k s).inputs = s.inputs ∧ (checkStage c k s).pending = s.pending := by
  unfold checkStage
  try dsimp only
  (repeat' split) <;> simp

@[simp] theorem intervalStage_frame :
    (intervalStage s).mu = s.mu ∧ (intervalStage s).mg = s.mg ∧ (intervalStage s).cl = s.cl ∧
      (intervalStage s).rl = s.rl ∧ (intervalStage s).sc = s.sc ∧ (intervalStage s).wk = s.wk ∧
      (intervalStage s).tsq = s.tsq ∧ (intervalStage s).fm = s.fm ∧ (intervalStage s).slu = s.slu ∧
      (intervalStage s).oi = s.oi ∧ (intervalStage s).ptp = s.ptp ∧ (intervalStage s).ma = s.ma ∧
      (intervalStage s).mc = s.mc ∧ (intervalStage s).freeCount = s.freeCount ∧
      (intervalStage s).inputs = s.inputs ∧ (intervalStage s).pending = s.pending := by
  unfold intervalStage
  try dsimp only
  (repeat' split) <;> simp

@[simp] theorem flushIntake_frame (e : Byte) :
    (flushIntake e s).mu = s.mu ∧ (flushIntake e s).mg = s.mg ∧ (flushIntake e s).cl = s.cl ∧
      (flushIntake e s).rl = s.rl ∧ (flushIntake e s).sc = s.sc ∧ (flushIntake e s).wk = s.wk ∧
      (flushIntake e s).tsq = s.tsq ∧ (flushIntake e s).fm = s.fm ∧ (flushIntake e s).slu = s.slu ∧
      (flushIntake e s).ptp = s.ptp ∧ (flushIntake e s).ma = s.ma ∧ (flushIntake e s).ru = s.ru ∧
      (flushIntake e s).mc = s.mc ∧ (flushIntake e s).freeCount = s.freeCount ∧
      (flushIntake e s).inputs = s.inputs ∧ (flushIntake e s).pending = s.pending := by
  unfold flushIntake
  try dsimp only
  simp

@[simp] theorem setReady_frame (j : Fin 64) :
    (setReady j s).mu = s.mu ∧ (setReady j s).mg = s.mg ∧ (setReady j s).cl = s.cl ∧
      (setReady j s).rl = s.rl ∧ (setReady j s).sc = s.sc ∧ (setReady j s).wk = s.wk ∧
      (setReady j s).tsq = s.tsq ∧ (setReady j s).fm = s.fm ∧ (setReady j s).slu = s.slu ∧
      (setReady j s).ptp = s.ptp ∧ (setReady j s).ma = s.ma ∧ (setReady j s).ru = s.ru ∧
      (setReady j s).mc = s.mc ∧ (setReady j s).freeCount = s.freeCount ∧ (setReady j s).inputs = s.inputs ∧
      (setReady j s).pending = s.pending := by
  unfold setReady
  try dsimp only
  simp

@[simp] theorem clearReady_frame (j : Fin 64) :
    (clearReady j s).mu = s.mu ∧ (clearReady j s).mg = s.mg ∧ (clearReady j s).cl = s.cl ∧
      (clearReady j s).rl = s.rl ∧ (clearReady j s).sc = s.sc ∧ (clearReady j s).wk = s.wk ∧
      (clearReady j s).tsq = s.tsq ∧ (clearReady j s).fm = s.fm ∧ (clearReady j s).slu = s.slu ∧
      (clearReady j s).ptp = s.ptp ∧ (clearReady j s).ma = s.ma ∧ (clearReady j s).ru = s.ru ∧
      (clearReady j s).mc = s.mc ∧ (clearReady j s).freeCount = s.freeCount ∧
      (clearReady j s).inputs = s.inputs ∧ (clearReady j s).pending = s.pending := by
  unfold clearReady
  try dsimp only
  simp

@[simp] theorem advanceExpected_frame :
    (advanceExpected s).mu = s.mu ∧ (advanceExpected s).mg = s.mg ∧ (advanceExpected s).cl = s.cl ∧
      (advanceExpected s).rl = s.rl ∧ (advanceExpected s).sc = s.sc ∧ (advanceExpected s).wk = s.wk ∧
      (advanceExpected s).tsq = s.tsq ∧ (advanceExpected s).fm = s.fm ∧ (advanceExpected s).slu = s.slu ∧
      (advanceExpected s).ptp = s.ptp ∧ (advanceExpected s).ma = s.ma ∧ (advanceExpected s).ru = s.ru ∧
      (advanceExpected s).mc = s.mc ∧ (advanceExpected s).freeCount = s.freeCount ∧
      (advanceExpected s).inputs = s.inputs ∧ (advanceExpected s).pending = s.pending := by
  unfold advanceExpected
  try dsimp only
  simp

@[simp] theorem joinQueue_frame (r : Record) :
    (joinQueue r s).mu = s.mu ∧ (joinQueue r s).mg = s.mg ∧ (joinQueue r s).cl = s.cl ∧
      (joinQueue r s).rl = s.rl ∧ (joinQueue r s).sc = s.sc ∧ (joinQueue r s).wk = s.wk ∧
      (joinQueue r s).tsq = s.tsq ∧ (joinQueue r s).fm = s.fm ∧ (joinQueue r s).slu = s.slu ∧
      (joinQueue r s).ptp = s.ptp ∧ (joinQueue r s).ma = s.ma ∧ (joinQueue r s).ru = s.ru ∧
      (joinQueue r s).mc = s.mc ∧ (joinQueue r s).freeCount = s.freeCount ∧
      (joinQueue r s).inputs = s.inputs ∧ (joinQueue r s).pending = s.pending := by
  unfold joinQueue
  try dsimp only
  simp

@[simp] theorem orderFetchTest_frame :
    (orderFetchTest s).mu = s.mu ∧ (orderFetchTest s).mg = s.mg ∧ (orderFetchTest s).cl = s.cl ∧
      (orderFetchTest s).rl = s.rl ∧ (orderFetchTest s).sc = s.sc ∧ (orderFetchTest s).wk = s.wk ∧
      (orderFetchTest s).tsq = s.tsq ∧ (orderFetchTest s).fm = s.fm ∧ (orderFetchTest s).slu = s.slu ∧
      (orderFetchTest s).ptp = s.ptp ∧ (orderFetchTest s).ma = s.ma ∧ (orderFetchTest s).ru = s.ru ∧
      (orderFetchTest s).mc = s.mc ∧ (orderFetchTest s).freeCount = s.freeCount ∧
      (orderFetchTest s).inputs = s.inputs ∧ (orderFetchTest s).pending = s.pending := by
  unfold orderFetchTest
  try dsimp only
  (repeat' split) <;> simp

@[simp] theorem takeRecord_frame (b : Body) (w : Word) :
    (takeRecord b w s).mu = s.mu ∧ (takeRecord b w s).mg = s.mg ∧ (takeRecord b w s).cl = s.cl ∧
      (takeRecord b w s).rl = s.rl ∧ (takeRecord b w s).sc = s.sc ∧ (takeRecord b w s).wk = s.wk ∧
      (takeRecord b w s).tsq = s.tsq ∧ (takeRecord b w s).fm = s.fm ∧ (takeRecord b w s).ptp = s.ptp ∧
      (takeRecord b w s).ma = s.ma ∧ (takeRecord b w s).mc = s.mc ∧
      (takeRecord b w s).freeCount = s.freeCount ∧ (takeRecord b w s).inputs = s.inputs ∧
      (takeRecord b w s).pending = s.pending := by
  unfold takeRecord
  try dsimp only
  (repeat' split) <;> simp

@[simp] theorem deferCompletion_frame (j : Fin 64) :
    (deferCompletion j s).mu = s.mu ∧ (deferCompletion j s).mg = s.mg ∧ (deferCompletion j s).cl = s.cl ∧
      (deferCompletion j s).rl = s.rl ∧ (deferCompletion j s).sc = s.sc ∧ (deferCompletion j s).wk = s.wk ∧
      (deferCompletion j s).tsq = s.tsq ∧ (deferCompletion j s).fm = s.fm ∧
      (deferCompletion j s).slu = s.slu ∧ (deferCompletion j s).ptp = s.ptp ∧
      (deferCompletion j s).ma = s.ma ∧ (deferCompletion j s).ru = s.ru ∧ (deferCompletion j s).mc = s.mc ∧
      (deferCompletion j s).freeCount = s.freeCount ∧ (deferCompletion j s).inputs = s.inputs ∧
      (deferCompletion j s).pending = s.pending := by
  unfold deferCompletion
  try dsimp only
  (repeat' split) <;> simp

@[simp] theorem completion_frame (j : Fin 64) (w : Option (Body × Word)) :
    (completion j w s).mu = s.mu ∧ (completion j w s).mg = s.mg ∧ (completion j w s).cl = s.cl ∧
      (completion j w s).rl = s.rl ∧ (completion j w s).sc = s.sc ∧ (completion j w s).wk = s.wk ∧
      (completion j w s).tsq = s.tsq ∧ (completion j w s).fm = s.fm ∧ (completion j w s).ptp = s.ptp ∧
      (completion j w s).ma = s.ma ∧ (completion j w s).mc = s.mc ∧
      (completion j w s).freeCount = s.freeCount ∧ (completion j w s).inputs = s.inputs ∧
      (completion j w s).pending = s.pending := by
  unfold completion
  try dsimp only
  (repeat' split) <;> simp

@[simp] theorem clearFetch_frame :
    (clearFetch s).mu = s.mu ∧ (clearFetch s).mg = s.mg ∧ (clearFetch s).cl = s.cl ∧
      (clearFetch s).rl = s.rl ∧ (clearFetch s).sc = s.sc ∧ (clearFetch s).wk = s.wk ∧
      (clearFetch s).tsq = s.tsq ∧ (clearFetch s).fm = s.fm ∧ (clearFetch s).slu = s.slu ∧
      (clearFetch s).ptp = s.ptp ∧ (clearFetch s).ma = s.ma ∧ (clearFetch s).ru = s.ru ∧
      (clearFetch s).mc = s.mc ∧ (clearFetch s).freeCount = s.freeCount ∧ (clearFetch s).inputs = s.inputs ∧
      (clearFetch s).pending = s.pending := by
  unfold clearFetch
  try dsimp only
  simp

@[simp] theorem orderFetchComplete_frame (b : Body) (w : Word) :
    (orderFetchComplete b w s).mu = s.mu ∧ (orderFetchComplete b w s).mg = s.mg ∧
      (orderFetchComplete b w s).cl = s.cl ∧ (orderFetchComplete b w s).rl = s.rl ∧
      (orderFetchComplete b w s).sc = s.sc ∧ (orderFetchComplete b w s).wk = s.wk ∧
      (orderFetchComplete b w s).tsq = s.tsq ∧ (orderFetchComplete b w s).fm = s.fm ∧
      (orderFetchComplete b w s).ptp = s.ptp ∧ (orderFetchComplete b w s).ma = s.ma ∧
      (orderFetchComplete b w s).mc = s.mc ∧ (orderFetchComplete b w s).freeCount = s.freeCount ∧
      (orderFetchComplete b w s).inputs = s.inputs ∧ (orderFetchComplete b w s).pending = s.pending := by
  unfold orderFetchComplete
  try dsimp only
  (repeat' split) <;> simp

@[simp] theorem orderFetchFail_frame :
    (orderFetchFail s).mu = s.mu ∧ (orderFetchFail s).mg = s.mg ∧ (orderFetchFail s).cl = s.cl ∧
      (orderFetchFail s).rl = s.rl ∧ (orderFetchFail s).sc = s.sc ∧ (orderFetchFail s).wk = s.wk ∧
      (orderFetchFail s).tsq = s.tsq ∧ (orderFetchFail s).fm = s.fm ∧ (orderFetchFail s).ptp = s.ptp ∧
      (orderFetchFail s).ma = s.ma ∧ (orderFetchFail s).mc = s.mc ∧
      (orderFetchFail s).freeCount = s.freeCount ∧ (orderFetchFail s).inputs = s.inputs ∧
      (orderFetchFail s).pending = s.pending := by
  unfold orderFetchFail
  try dsimp only
  (repeat' split) <;> simp

@[simp] theorem holdWaiting_frame :
    (holdWaiting s).mu = s.mu ∧ (holdWaiting s).mg = s.mg ∧ (holdWaiting s).cl = s.cl ∧
      (holdWaiting s).rl = s.rl ∧ (holdWaiting s).sc = s.sc ∧ (holdWaiting s).wk = s.wk ∧
      (holdWaiting s).tsq = s.tsq ∧ (holdWaiting s).fm = s.fm ∧ (holdWaiting s).slu = s.slu ∧
      (holdWaiting s).oi = s.oi ∧ (holdWaiting s).ma = s.ma ∧ (holdWaiting s).ru = s.ru ∧
      (holdWaiting s).mc = s.mc ∧ (holdWaiting s).freeCount = s.freeCount ∧
      (holdWaiting s).inputs = s.inputs ∧ (holdWaiting s).pending = s.pending := by
  unfold holdWaiting
  try dsimp only
  (repeat' split) <;> simp

@[simp] theorem releaseHold_frame :
    (releaseHold s).mu = s.mu ∧ (releaseHold s).mg = s.mg ∧ (releaseHold s).cl = s.cl ∧
      (releaseHold s).rl = s.rl ∧ (releaseHold s).sc = s.sc ∧ (releaseHold s).wk = s.wk ∧
      (releaseHold s).tsq = s.tsq ∧ (releaseHold s).fm = s.fm ∧ (releaseHold s).slu = s.slu ∧
      (releaseHold s).oi = s.oi ∧ (releaseHold s).ma = s.ma ∧ (releaseHold s).ru = s.ru ∧
      (releaseHold s).mc = s.mc ∧ (releaseHold s).freeCount = s.freeCount ∧
      (releaseHold s).inputs = s.inputs ∧ (releaseHold s).pending = s.pending := by
  unfold releaseHold
  try dsimp only
  (repeat' split) <;> simp

@[simp] theorem grantU_frame (a : Access) (b : Bool) :
    (grantU a b s).mu = s.mu ∧ (grantU a b s).mg = s.mg ∧ (grantU a b s).cl = s.cl ∧
      (grantU a b s).rl = s.rl ∧ (grantU a b s).sc = s.sc ∧ (grantU a b s).wk = s.wk ∧
      (grantU a b s).tsq = s.tsq ∧ (grantU a b s).fm = s.fm ∧ (grantU a b s).slu = s.slu ∧
      (grantU a b s).oi = s.oi ∧ (grantU a b s).ma = s.ma ∧ (grantU a b s).ru = s.ru ∧
      (grantU a b s).mc = s.mc ∧ (grantU a b s).freeCount = s.freeCount ∧ (grantU a b s).inputs = s.inputs ∧
      (grantU a b s).pending = s.pending := by
  unfold grantU
  try dsimp only
  (repeat' split) <;> simp

@[simp] theorem grantAgent_frame (j : Job) :
    (grantAgent j s).mu = s.mu ∧ (grantAgent j s).mg = s.mg ∧ (grantAgent j s).cl = s.cl ∧
      (grantAgent j s).rl = s.rl ∧ (grantAgent j s).sc = s.sc ∧ (grantAgent j s).wk = s.wk ∧
      (grantAgent j s).tsq = s.tsq ∧ (grantAgent j s).fm = s.fm ∧ (grantAgent j s).slu = s.slu ∧
      (grantAgent j s).oi = s.oi ∧ (grantAgent j s).ru = s.ru ∧ (grantAgent j s).mc = s.mc ∧
      (grantAgent j s).freeCount = s.freeCount ∧ (grantAgent j s).inputs = s.inputs ∧
      (grantAgent j s).pending = s.pending := by
  unfold grantAgent
  try dsimp only
  simp

@[simp] theorem arbitrate_frame :
    (arbitrate s).mu = s.mu ∧ (arbitrate s).mg = s.mg ∧ (arbitrate s).cl = s.cl ∧ (arbitrate s).rl = s.rl ∧
      (arbitrate s).sc = s.sc ∧ (arbitrate s).wk = s.wk ∧ (arbitrate s).tsq = s.tsq ∧
      (arbitrate s).fm = s.fm ∧ (arbitrate s).slu = s.slu ∧ (arbitrate s).oi = s.oi ∧
      (arbitrate s).ru = s.ru ∧ (arbitrate s).mc = s.mc ∧ (arbitrate s).freeCount = s.freeCount ∧
      (arbitrate s).inputs = s.inputs ∧ (arbitrate s).pending = s.pending := by
  unfold arbitrate
  try dsimp only
  (repeat' split) <;> simp

@[simp] theorem storeWord_frame (t : Target) (k : Fin 8) (d : Word) (c : Bool) :
    (storeWord t k d c s).mu = s.mu ∧ (storeWord t k d c s).mg = s.mg ∧ (storeWord t k d c s).cl = s.cl ∧
      (storeWord t k d c s).rl = s.rl ∧ (storeWord t k d c s).sc = s.sc ∧ (storeWord t k d c s).wk = s.wk ∧
      (storeWord t k d c s).tsq = s.tsq ∧ (storeWord t k d c s).fm = s.fm ∧
      (storeWord t k d c s).slu = s.slu ∧ (storeWord t k d c s).oi = s.oi ∧ (storeWord t k d c s).ma = s.ma ∧
      (storeWord t k d c s).ru = s.ru ∧ (storeWord t k d c s).mc = s.mc ∧
      (storeWord t k d c s).freeCount = s.freeCount ∧ (storeWord t k d c s).inputs = s.inputs ∧
      (storeWord t k d c s).pending = s.pending := by
  unfold storeWord
  try dsimp only
  simp

@[simp] theorem freeBuffer_frame (t : Target) :
    (freeBuffer t s).mu = s.mu ∧ (freeBuffer t s).mg = s.mg ∧ (freeBuffer t s).cl = s.cl ∧
      (freeBuffer t s).rl = s.rl ∧ (freeBuffer t s).sc = s.sc ∧ (freeBuffer t s).wk = s.wk ∧
      (freeBuffer t s).tsq = s.tsq ∧ (freeBuffer t s).fm = s.fm ∧ (freeBuffer t s).slu = s.slu ∧
      (freeBuffer t s).oi = s.oi ∧ (freeBuffer t s).ma = s.ma ∧ (freeBuffer t s).ru = s.ru ∧
      (freeBuffer t s).mc = s.mc ∧ (freeBuffer t s).freeCount = s.freeCount ∧
      (freeBuffer t s).inputs = s.inputs ∧ (freeBuffer t s).pending = s.pending := by
  unfold freeBuffer
  try dsimp only
  simp

@[simp] theorem tellRelease_frame (i : Byte) :
    (tellRelease i s).mu = s.mu ∧ (tellRelease i s).mg = s.mg ∧ (tellRelease i s).cl = s.cl ∧
      (tellRelease i s).rl = s.rl ∧ (tellRelease i s).sc = s.sc ∧ (tellRelease i s).wk = s.wk ∧
      (tellRelease i s).tsq = s.tsq ∧ (tellRelease i s).fm = s.fm ∧ (tellRelease i s).oi = s.oi ∧
      (tellRelease i s).ptp = s.ptp ∧ (tellRelease i s).ma = s.ma ∧ (tellRelease i s).ru = s.ru ∧
      (tellRelease i s).mc = s.mc ∧ (tellRelease i s).freeCount = s.freeCount ∧
      (tellRelease i s).inputs = s.inputs ∧ (tellRelease i s).pending = s.pending := by
  unfold tellRelease
  try dsimp only
  (repeat' split) <;> simp

@[simp] theorem reevaluateLevel_frame :
    (reevaluateLevel s).mu = s.mu ∧ (reevaluateLevel s).mg = s.mg ∧ (reevaluateLevel s).cl = s.cl ∧
      (reevaluateLevel s).rl = s.rl ∧ (reevaluateLevel s).sc = s.sc ∧ (reevaluateLevel s).wk = s.wk ∧
      (reevaluateLevel s).tsq = s.tsq ∧ (reevaluateLevel s).fm = s.fm ∧ (reevaluateLevel s).slu = s.slu ∧
      (reevaluateLevel s).oi = s.oi ∧ (reevaluateLevel s).ptp = s.ptp ∧ (reevaluateLevel s).ma = s.ma ∧
      (reevaluateLevel s).mc = s.mc ∧ (reevaluateLevel s).freeCount = s.freeCount ∧
      (reevaluateLevel s).inputs = s.inputs ∧ (reevaluateLevel s).pending = s.pending := by
  unfold reevaluateLevel
  try dsimp only
  (repeat' split) <;> simp

@[simp] theorem takeRelease_frame (w : Word) :
    (takeRelease w s).mu = s.mu ∧ (takeRelease w s).mg = s.mg ∧ (takeRelease w s).cl = s.cl ∧
      (takeRelease w s).rl = s.rl ∧ (takeRelease w s).sc = s.sc ∧ (takeRelease w s).wk = s.wk ∧
      (takeRelease w s).tsq = s.tsq ∧ (takeRelease w s).fm = s.fm ∧ (takeRelease w s).oi = s.oi ∧
      (takeRelease w s).ptp = s.ptp ∧ (takeRelease w s).ma = s.ma ∧ (takeRelease w s).mc = s.mc ∧
      (takeRelease w s).freeCount = s.freeCount ∧ (takeRelease w s).inputs = s.inputs ∧
      (takeRelease w s).pending = s.pending := by
  have h : ∀ (l : List Byte) (t : State),
      (l.foldl (fun s i => tellRelease i s) t).mu = t.mu ∧
      (l.foldl (fun s i => tellRelease i s) t).mg = t.mg ∧
      (l.foldl (fun s i => tellRelease i s) t).cl = t.cl ∧
      (l.foldl (fun s i => tellRelease i s) t).rl = t.rl ∧
      (l.foldl (fun s i => tellRelease i s) t).sc = t.sc ∧
      (l.foldl (fun s i => tellRelease i s) t).wk = t.wk ∧
      (l.foldl (fun s i => tellRelease i s) t).tsq = t.tsq ∧
      (l.foldl (fun s i => tellRelease i s) t).fm = t.fm ∧
      (l.foldl (fun s i => tellRelease i s) t).oi = t.oi ∧
      (l.foldl (fun s i => tellRelease i s) t).ptp = t.ptp ∧
      (l.foldl (fun s i => tellRelease i s) t).ma = t.ma ∧
      (l.foldl (fun s i => tellRelease i s) t).ru = t.ru ∧
      (l.foldl (fun s i => tellRelease i s) t).mc = t.mc ∧
      (l.foldl (fun s i => tellRelease i s) t).freeCount = t.freeCount ∧
      (l.foldl (fun s i => tellRelease i s) t).inputs = t.inputs ∧
      (l.foldl (fun s i => tellRelease i s) t).pending = t.pending := by
    intro l
    induction l with
    | nil => simp
    | cons a l ih => intro t; simp [ih]
  unfold takeRelease
  dsimp only
  (repeat' split) <;> simp [h]

@[simp] theorem takeAccess_frame (a : Access) :
    (takeAccess a s).mu = s.mu ∧ (takeAccess a s).mg = s.mg ∧ (takeAccess a s).cl = s.cl ∧
      (takeAccess a s).rl = s.rl ∧ (takeAccess a s).sc = s.sc ∧ (takeAccess a s).wk = s.wk ∧
      (takeAccess a s).tsq = s.tsq ∧ (takeAccess a s).fm = s.fm ∧ (takeAccess a s).slu = s.slu ∧
      (takeAccess a s).oi = s.oi ∧ (takeAccess a s).ma = s.ma ∧ (takeAccess a s).ru = s.ru ∧
      (takeAccess a s).mc = s.mc ∧ (takeAccess a s).freeCount = s.freeCount ∧
      (takeAccess a s).inputs = s.inputs ∧ (takeAccess a s).pending = s.pending := by
  unfold takeAccess
  try dsimp only
  (repeat' split) <;> simp

@[simp] theorem takeComing_frame :
    (takeComing s).mu = s.mu ∧ (takeComing s).mg = s.mg ∧ (takeComing s).cl = s.cl ∧
      (takeComing s).rl = s.rl ∧ (takeComing s).sc = s.sc ∧ (takeComing s).wk = s.wk ∧
      (takeComing s).tsq = s.tsq ∧ (takeComing s).fm = s.fm ∧ (takeComing s).slu = s.slu ∧
      (takeComing s).oi = s.oi ∧ (takeComing s).ma = s.ma ∧ (takeComing s).ru = s.ru ∧
      (takeComing s).mc = s.mc ∧ (takeComing s).freeCount = s.freeCount ∧ (takeComing s).inputs = s.inputs ∧
      (takeComing s).pending = s.pending := by
  unfold takeComing
  try dsimp only
  (repeat' split) <;> simp

@[simp] theorem completeU_frame (b : Bool) (d : Option Word) :
    (completeU b d s).mu = s.mu ∧ (completeU b d s).mg = s.mg ∧ (completeU b d s).cl = s.cl ∧
      (completeU b d s).rl = s.rl ∧ (completeU b d s).sc = s.sc ∧ (completeU b d s).wk = s.wk ∧
      (completeU b d s).tsq = s.tsq ∧ (completeU b d s).fm = s.fm ∧ (completeU b d s).slu = s.slu ∧
      (completeU b d s).oi = s.oi ∧ (completeU b d s).ma = s.ma ∧ (completeU b d s).ru = s.ru ∧
      (completeU b d s).mc = s.mc ∧ (completeU b d s).freeCount = s.freeCount ∧
      (completeU b d s).inputs = s.inputs ∧ (completeU b d s).pending = s.pending := by
  unfold completeU
  try dsimp only
  simp

@[simp] theorem startJob_frame (k : JobKind) (out : List Word) :
    (startJob k out s).mu = s.mu ∧ (startJob k out s).mg = s.mg ∧ (startJob k out s).cl = s.cl ∧
      (startJob k out s).rl = s.rl ∧ (startJob k out s).sc = s.sc ∧ (startJob k out s).wk = s.wk ∧
      (startJob k out s).tsq = s.tsq ∧ (startJob k out s).fm = s.fm ∧ (startJob k out s).slu = s.slu ∧
      (startJob k out s).oi = s.oi ∧ (startJob k out s).ru = s.ru ∧ (startJob k out s).mc = s.mc ∧
      (startJob k out s).freeCount = s.freeCount ∧ (startJob k out s).inputs = s.inputs ∧
      (startJob k out s).pending = s.pending := by
  unfold startJob
  try dsimp only
  simp

@[simp] theorem startReportWrite_frame :
    (startReportWrite s).mu = s.mu ∧ (startReportWrite s).mg = s.mg ∧ (startReportWrite s).cl = s.cl ∧
      (startReportWrite s).rl = s.rl ∧ (startReportWrite s).sc = s.sc ∧ (startReportWrite s).wk = s.wk ∧
      (startReportWrite s).tsq = s.tsq ∧ (startReportWrite s).fm = s.fm ∧ (startReportWrite s).slu = s.slu ∧
      (startReportWrite s).oi = s.oi ∧ (startReportWrite s).mc = s.mc ∧
      (startReportWrite s).freeCount = s.freeCount ∧ (startReportWrite s).inputs = s.inputs ∧
      (startReportWrite s).pending = s.pending := by
  unfold startReportWrite
  try dsimp only
  (repeat' split) <;> simp

@[simp] theorem startOrderFetch_frame :
    (startOrderFetch s).mu = s.mu ∧ (startOrderFetch s).mg = s.mg ∧ (startOrderFetch s).cl = s.cl ∧
      (startOrderFetch s).rl = s.rl ∧ (startOrderFetch s).sc = s.sc ∧ (startOrderFetch s).wk = s.wk ∧
      (startOrderFetch s).tsq = s.tsq ∧ (startOrderFetch s).fm = s.fm ∧ (startOrderFetch s).slu = s.slu ∧
      (startOrderFetch s).ru = s.ru ∧ (startOrderFetch s).mc = s.mc ∧
      (startOrderFetch s).freeCount = s.freeCount ∧ (startOrderFetch s).inputs = s.inputs ∧
      (startOrderFetch s).pending = s.pending := by
  unfold startOrderFetch
  try dsimp only
  (repeat' split) <;> simp

@[simp] theorem startSegmentFetch_frame :
    (startSegmentFetch s).mu = s.mu ∧ (startSegmentFetch s).mg = s.mg ∧ (startSegmentFetch s).cl = s.cl ∧
      (startSegmentFetch s).rl = s.rl ∧ (startSegmentFetch s).wk = s.wk ∧ (startSegmentFetch s).tsq = s.tsq ∧
      (startSegmentFetch s).fm = s.fm ∧ (startSegmentFetch s).slu = s.slu ∧ (startSegmentFetch s).oi = s.oi ∧
      (startSegmentFetch s).ru = s.ru ∧ (startSegmentFetch s).mc = s.mc ∧
      (startSegmentFetch s).freeCount = s.freeCount ∧ (startSegmentFetch s).inputs = s.inputs ∧
      (startSegmentFetch s).pending = s.pending := by
  unfold startSegmentFetch
  try dsimp only
  (repeat' split) <;> simp

@[simp] theorem startSnapshotWrite_frame :
    (startSnapshotWrite s).mu = s.mu ∧ (startSnapshotWrite s).mg = s.mg ∧ (startSnapshotWrite s).cl = s.cl ∧
      (startSnapshotWrite s).rl = s.rl ∧ (startSnapshotWrite s).sc = s.sc ∧
      (startSnapshotWrite s).wk = s.wk ∧ (startSnapshotWrite s).tsq = s.tsq ∧
      (startSnapshotWrite s).fm = s.fm ∧ (startSnapshotWrite s).slu = s.slu ∧
      (startSnapshotWrite s).oi = s.oi ∧ (startSnapshotWrite s).mc = s.mc ∧
      (startSnapshotWrite s).freeCount = s.freeCount ∧ (startSnapshotWrite s).inputs = s.inputs ∧
      (startSnapshotWrite s).pending = s.pending := by
  unfold startSnapshotWrite
  try dsimp only
  simp

@[simp] theorem chooseJob_frame :
    (chooseJob s).mu = s.mu ∧ (chooseJob s).mg = s.mg ∧ (chooseJob s).cl = s.cl ∧ (chooseJob s).rl = s.rl ∧
      (chooseJob s).wk = s.wk ∧ (chooseJob s).tsq = s.tsq ∧ (chooseJob s).fm = s.fm ∧
      (chooseJob s).slu = s.slu ∧ (chooseJob s).mc = s.mc ∧ (chooseJob s).freeCount = s.freeCount ∧
      (chooseJob s).inputs = s.inputs ∧ (chooseJob s).pending = s.pending := by
  unfold chooseJob
  try dsimp only
  (repeat' split) <;> simp

@[simp] theorem attentionAtCompletion_frame (u : Bool) :
    (attentionAtCompletion u s).mu = s.mu ∧ (attentionAtCompletion u s).mg = s.mg ∧
      (attentionAtCompletion u s).cl = s.cl ∧ (attentionAtCompletion u s).rl = s.rl ∧
      (attentionAtCompletion u s).sc = s.sc ∧ (attentionAtCompletion u s).wk = s.wk ∧
      (attentionAtCompletion u s).tsq = s.tsq ∧ (attentionAtCompletion u s).fm = s.fm ∧
      (attentionAtCompletion u s).slu = s.slu ∧ (attentionAtCompletion u s).oi = s.oi ∧
      (attentionAtCompletion u s).ptp = s.ptp ∧ (attentionAtCompletion u s).ma = s.ma ∧
      (attentionAtCompletion u s).mc = s.mc ∧ (attentionAtCompletion u s).freeCount = s.freeCount ∧
      (attentionAtCompletion u s).inputs = s.inputs ∧ (attentionAtCompletion u s).pending = s.pending := by
  unfold attentionAtCompletion
  try dsimp only
  (repeat' split) <;> simp

@[simp] theorem reportWritten_frame (i : Fin 128) (r : Report) :
    (reportWritten i r s).mu = s.mu ∧ (reportWritten i r s).mg = s.mg ∧ (reportWritten i r s).cl = s.cl ∧
      (reportWritten i r s).rl = s.rl ∧ (reportWritten i r s).sc = s.sc ∧ (reportWritten i r s).wk = s.wk ∧
      (reportWritten i r s).tsq = s.tsq ∧ (reportWritten i r s).fm = s.fm ∧
      (reportWritten i r s).slu = s.slu ∧ (reportWritten i r s).oi = s.oi ∧
      (reportWritten i r s).ptp = s.ptp ∧ (reportWritten i r s).ma = s.ma ∧ (reportWritten i r s).mc = s.mc ∧
      (reportWritten i r s).freeCount = s.freeCount ∧ (reportWritten i r s).inputs = s.inputs ∧
      (reportWritten i r s).pending = s.pending := by
  unfold reportWritten
  try dsimp only
  (repeat' split) <;> simp

@[simp] theorem reportLost_frame (r : Report) (n : Nat) :
    (reportLost r n s).mu = s.mu ∧ (reportLost r n s).mg = s.mg ∧ (reportLost r n s).cl = s.cl ∧
      (reportLost r n s).rl = s.rl ∧ (reportLost r n s).sc = s.sc ∧ (reportLost r n s).wk = s.wk ∧
      (reportLost r n s).tsq = s.tsq ∧ (reportLost r n s).fm = s.fm ∧ (reportLost r n s).oi = s.oi ∧
      (reportLost r n s).ptp = s.ptp ∧ (reportLost r n s).ma = s.ma ∧ (reportLost r n s).mc = s.mc ∧
      (reportLost r n s).freeCount = s.freeCount ∧ (reportLost r n s).inputs = s.inputs ∧
      (reportLost r n s).pending = s.pending := by
  unfold reportLost
  try dsimp only
  (repeat' split) <;> simp

@[simp] theorem snapshotWritten_frame :
    (snapshotWritten s).mu = s.mu ∧ (snapshotWritten s).mg = s.mg ∧ (snapshotWritten s).cl = s.cl ∧
      (snapshotWritten s).rl = s.rl ∧ (snapshotWritten s).sc = s.sc ∧ (snapshotWritten s).wk = s.wk ∧
      (snapshotWritten s).tsq = s.tsq ∧ (snapshotWritten s).fm = s.fm ∧ (snapshotWritten s).slu = s.slu ∧
      (snapshotWritten s).oi = s.oi ∧ (snapshotWritten s).ptp = s.ptp ∧ (snapshotWritten s).ma = s.ma ∧
      (snapshotWritten s).mc = s.mc ∧ (snapshotWritten s).freeCount = s.freeCount ∧
      (snapshotWritten s).inputs = s.inputs ∧ (snapshotWritten s).pending = s.pending := by
  unfold snapshotWritten
  try dsimp only
  simp

@[simp] theorem jobComplete_frame (k : JobKind) (got : List Word) :
    (jobComplete k got s).mu = s.mu ∧ (jobComplete k got s).mg = s.mg ∧ (jobComplete k got s).cl = s.cl ∧
      (jobComplete k got s).rl = s.rl ∧ (jobComplete k got s).wk = s.wk ∧ (jobComplete k got s).tsq = s.tsq ∧
      (jobComplete k got s).fm = s.fm ∧ (jobComplete k got s).ptp = s.ptp ∧ (jobComplete k got s).ma = s.ma ∧
      (jobComplete k got s).mc = s.mc ∧ (jobComplete k got s).freeCount = s.freeCount ∧
      (jobComplete k got s).inputs = s.inputs ∧ (jobComplete k got s).pending = s.pending := by
  unfold jobComplete
  try dsimp only
  (repeat' split) <;> simp

@[simp] theorem jobFailed_frame (k : JobKind) :
    (jobFailed k s).mu = s.mu ∧ (jobFailed k s).cl = s.cl ∧ (jobFailed k s).rl = s.rl ∧
      (jobFailed k s).wk = s.wk ∧ (jobFailed k s).tsq = s.tsq ∧ (jobFailed k s).fm = s.fm ∧
      (jobFailed k s).ptp = s.ptp ∧ (jobFailed k s).ma = s.ma ∧ (jobFailed k s).mc = s.mc ∧
      (jobFailed k s).freeCount = s.freeCount ∧ (jobFailed k s).inputs = s.inputs ∧
      (jobFailed k s).pending = s.pending := by
  unfold jobFailed
  try dsimp only
  (repeat' split) <;> simp

@[simp] theorem freeMSide_frame :
    (freeMSide s).mu = s.mu ∧ (freeMSide s).mg = s.mg ∧ (freeMSide s).cl = s.cl ∧ (freeMSide s).rl = s.rl ∧
      (freeMSide s).sc = s.sc ∧ (freeMSide s).wk = s.wk ∧ (freeMSide s).tsq = s.tsq ∧
      (freeMSide s).fm = s.fm ∧ (freeMSide s).slu = s.slu ∧ (freeMSide s).oi = s.oi ∧
      (freeMSide s).ma = s.ma ∧ (freeMSide s).ru = s.ru ∧ (freeMSide s).mc = s.mc ∧
      (freeMSide s).freeCount = s.freeCount ∧ (freeMSide s).inputs = s.inputs ∧
      (freeMSide s).pending = s.pending := by
  unfold freeMSide
  try dsimp only
  simp

@[simp] theorem agentToIdle_frame :
    (agentToIdle s).mu = s.mu ∧ (agentToIdle s).mg = s.mg ∧ (agentToIdle s).cl = s.cl ∧
      (agentToIdle s).rl = s.rl ∧ (agentToIdle s).sc = s.sc ∧ (agentToIdle s).wk = s.wk ∧
      (agentToIdle s).tsq = s.tsq ∧ (agentToIdle s).fm = s.fm ∧ (agentToIdle s).slu = s.slu ∧
      (agentToIdle s).oi = s.oi ∧ (agentToIdle s).ptp = s.ptp ∧ (agentToIdle s).ru = s.ru ∧
      (agentToIdle s).mc = s.mc ∧ (agentToIdle s).freeCount = s.freeCount ∧
      (agentToIdle s).inputs = s.inputs ∧ (agentToIdle s).pending = s.pending := by
  unfold agentToIdle
  try dsimp only
  simp

@[simp] theorem agentAnswered_frame (j : Job) (d : Word) :
    (agentAnswered j d s).mu = s.mu ∧ (agentAnswered j d s).mg = s.mg ∧ (agentAnswered j d s).cl = s.cl ∧
      (agentAnswered j d s).rl = s.rl ∧ (agentAnswered j d s).wk = s.wk ∧ (agentAnswered j d s).tsq = s.tsq ∧
      (agentAnswered j d s).fm = s.fm ∧ (agentAnswered j d s).mc = s.mc ∧
      (agentAnswered j d s).freeCount = s.freeCount ∧ (agentAnswered j d s).inputs = s.inputs ∧
      (agentAnswered j d s).pending = s.pending := by
  unfold agentAnswered
  try dsimp only
  (repeat' split) <;> simp

@[simp] theorem agentTimedOut_frame (j : Job) :
    (agentTimedOut j s).mu = s.mu ∧ (agentTimedOut j s).cl = s.cl ∧ (agentTimedOut j s).rl = s.rl ∧
      (agentTimedOut j s).wk = s.wk ∧ (agentTimedOut j s).tsq = s.tsq ∧ (agentTimedOut j s).fm = s.fm ∧
      (agentTimedOut j s).mc = s.mc ∧ (agentTimedOut j s).freeCount = s.freeCount ∧
      (agentTimedOut j s).inputs = s.inputs ∧ (agentTimedOut j s).pending = s.pending := by
  unfold agentTimedOut
  try dsimp only
  simp

end Sys2Proof.Machine
end

