-- ==== Sys2Proof/Laws/Ops.lean ====
section
/-! SUPPORT. What the shared operations do, each said once: the clamps, the reports, the outputs, the order in hand,
the head of the queue and the intake, the choice of speed, the arbiter and the Memory Agent's choice. -/

namespace Sys2Proof.Machine

/-! ## Clamps -/

theorem clampI_bounds {lo hi : Int} (h : lo ≤ hi) (x : Int) : lo ≤ clampI lo hi x ∧ clampI lo hi x ≤ hi := by
  unfold clampI; split <;> (try split) <;> omega

theorem clampI_eq_max_min {lo hi : Int} (h : lo ≤ hi) (x : Int) : clampI lo hi x = max lo (min hi x) := by
  unfold clampI; split <;> (try split) <;> omega

theorem clampI_of_mem {lo hi x : Int} (h : lo ≤ x) (h' : x ≤ hi) : clampI lo hi x = x := by
  unfold clampI; split <;> (try split) <;> omega

theorem clampN_bounds {lo hi : Nat} (h : lo ≤ hi) (x : Nat) : lo ≤ clampN lo hi x ∧ clampN lo hi x ≤ hi := by
  unfold clampN; split <;> (try split) <;> omega

theorem clampN_eq_held {lo hi : Nat} (h : lo ≤ hi) (x : Nat) : clampN lo hi x = held lo hi x := by
  unfold clampN held; split <;> (try split) <;> omega

theorem clampN_of_mem {lo hi x : Nat} (h : lo ≤ x) (h' : x ≤ hi) : clampN lo hi x = x := by
  unfold clampN; split <;> (try split) <;> omega

theorem satInc_eq_min (bound n : Nat) : satInc bound n = min bound (n + 1) ∨ bound < n := by
  unfold satInc; split <;> omega

theorem bits_lt (w : Word) (hi lo : Nat) : bits w hi lo < 2 ^ (hi - lo + 1) :=
  Nat.mod_lt _ (Nat.two_pow_pos _)

/-! ## Reports (R167 to R169) -/

/-- A report that passes the mask and finds room joins the tail of the pending list; nothing else happens. -/
theorem generate_of_room {s : State} {kind : ReportKind} (code : Nat) (value : Int) (seq : Option Byte)
    (mask : maskPasses s kind = true) (room : s.ru.pendingReports.length < 4) :
    generate kind code value seq s =
      s.onRu fun u => { u with
        pendingReports := u.pendingReports ++ [makeReport kind code value seq s], nextId := u.nextId + 1 } := by
  have passes : maskPasses (s.onRu fun u => { u with nextId := u.nextId + 1 }) kind = true := by
    simpa [maskPasses, State.onRu] using mask
  have room' : (s.onRu fun u => { u with nextId := u.nextId + 1 }).ru.pendingReports.length < 4 := room
  unfold generate enterPending
  simp only [passes, Config.pendingMax, room', if_true]
  rfl

/-- A report that the mask does not let pass only takes its name. -/
theorem generate_of_masked {s : State} {kind : ReportKind} (code : Nat) (value : Int) (seq : Option Byte)
    (mask : maskPasses s kind = false) :
    generate kind code value seq s = s.onRu fun u => { u with nextId := u.nextId + 1 } := by
  have stays : maskPasses (s.onRu fun u => { u with nextId := u.nextId + 1 }) kind = false := by
    simpa [maskPasses, State.onRu] using mask
  simp [generate, stays]

/-- The kinds that no mask stops (R168). -/
theorem maskPasses_of_unmasked (s : State) {kind : ReportKind}
    (h : kind = .orderDone ∨ kind = .orderRefused ∨ kind = .setupApplied ∨ kind.urgent = true) :
    maskPasses s kind = true := by
  cases kind <;> simp [maskPasses, ReportKind.urgent] at *

theorem reports_nil (s : State) : Reports s s [] :=
  ⟨by simp [reportsSaying], by simp, ⟨rfl, rfl, rfl, rfl⟩, rfl, ⟨rfl, rfl⟩, rfl⟩

/-- A report that `generate` adds with room, in the words of `Reports`. -/
theorem generate_reports {s : State} {kind : ReportKind} (code : Nat) (value : Int) (seq : Option Byte)
    (mask : maskPasses s kind = true) (room : Room 1 s) :
    Reports s (generate kind code value seq s) [⟨kind, code, value, seq, s.tsq.state⟩] := by
  have room' : s.ru.pendingReports.length < 4 := by unfold Room at room; omega
  rw [generate_of_room code value seq mask room']
  exact ⟨by simp [reportsSaying, makeReport, Config.detailMin, Config.detailMax], by simp, ⟨rfl, rfl, rfl, rfl⟩, rfl,
    ⟨rfl, rfl⟩, rfl⟩

/-! ## The transport state and the outputs (R73, R74, R176) -/

@[simp] theorem followModes_tsq (s : State) : (followModes s).tsq = s.tsq := by simp

theorem enter_tsq (st : TState) (brake vacuum : Bool) (s : State) :
    (enter st brake vacuum s).tsq = { s.tsq with state := st, brake := brake, vacuum := vacuum } := by
  unfold enter clearBandsAt
  simp only [followModes_tsq, State.onTsq_tsq]
  split <;> split <;> rfl

theorem enterKeeping_tsq (st : TState) (s : State) : (enterKeeping st s).tsq = { s.tsq with state := st } := by
  unfold enterKeeping
  rw [enter_tsq]

theorem dropWriteEnable_tsq (s : State) : (dropWriteEnable s).tsq = { s.tsq with writeEnable := false } := rfl

/-- R75, R79: the order in hand ends: it is absent afterwards, with the timer stopped and WRITE ENABLE off. -/
theorem finishOrder_tsq (outcome : OrderOutcome) (pe : Int) {s : State} {h : InHand} (hand : s.tsq.inHand = some h) :
    (finishOrder outcome pe s).tsq =
      { s.tsq with inHand := none, timer := 0, timerOn := false, writeEnable := false } := by
  unfold finishOrder clearHand
  rw [hand]
  simp

theorem finishOrder_of_none (outcome : OrderOutcome) (pe : Int) {s : State} (hand : s.tsq.inHand = none) :
    finishOrder outcome pe s = s := by
  unfold finishOrder
  rw [hand]

/-! ## The capstan loop -/

/-- R39, R53: after the modes follow, the capstan loop is in the mode that the state calls for. -/
theorem followCapstan_run (s : State) : (followCapstan s).cl.run = capstanToRun s := by
  unfold followCapstan
  dsimp only
  split
  · rename_i h; exact h.symm
  · rfl

/-! ## The head of the queue and the intake (R76, R139) -/

theorem serveHead_of_empty (n : Nat) {s : State} (h : s.oi.queue = []) : serveHead n s = s := by
  cases n with
  | zero => rfl
  | succ n => simp [serveHead, h]

/-- The head waits where it may not be taken. -/
theorem serveHead_of_wait (n : Nat) {s : State} (h : headMayBeTaken s = false) : serveHead n s = s := by
  cases n with
  | zero => rfl
  | succ n =>
    unfold serveHead
    split
    · rfl
    · simp [h]

theorem headMayBeTaken_iff (s : State) :
    headMayBeTaken s = true ↔ watching s = true ∧ s.tsq.inHand = none ∧ Serving s := by
  simp [headMayBeTaken, Serving, and_assoc, or_assoc]

/-- With nothing due, what closes a step changes nothing. -/
theorem conclude_of_nothingDue {s : State} (h : NothingDue s) : conclude s = s := by
  obtain ⟨empty, due⟩ := h
  simp [conclude, empty, serveHead, orderFetchTest, due]

/-- R142: a record of the expected sequence and with a code joins the queue, and consumes its sequence. -/
theorem takeRecord_of_expected {b : Body} {post : Word} {c : Code} {s : State} (hs : postSeq post = s.oi.expected)
    (hc : Code.ofNumber (postCode post) = some c) :
    takeRecord b post s =
      s.onOi fun o => { o with queue := o.queue ++ [⟨s.oi.expected, c, b⟩], expected := o.expected + 1 } := by
  simp [takeRecord, hs, hc, joinQueue, advanceExpected, State.onOi]

/-! ## The chain walker (R63) -/

theorem endChain_of_inactive {s : State} (h : s.wk.active = false) : endChain s = s := by simp [endChain, h]

/-! ## The choice of speed (R22) -/

/-- The search from above finds the largest number of lo..lo + n that passes the test. -/
theorem largest_eq_some_iff (ok : Nat → Bool) (lo n c : Nat) :
    largest ok lo n = some c ↔ lo ≤ c ∧ c ≤ lo + n ∧ ok c = true ∧ ∀ x, c < x → x ≤ lo + n → ok x = false := by
  induction n with
  | zero =>
    unfold largest
    split
    · rename_i h
      constructor
      · rintro ⟨⟩
        exact ⟨le_refl _, le_refl _, h, fun x _ _ => by omega⟩
      · rintro ⟨h1, h2, -, -⟩
        have : lo = c := by omega
        rw [this]
    · rename_i h
      constructor
      · rintro ⟨⟩
      · rintro ⟨h1, h2, h3, -⟩
        have : c = lo := by omega
        rw [this] at h3
        exact absurd h3 h
  | succ n ih =>
    unfold largest
    split
    · rename_i h
      constructor
      · rintro ⟨⟩
        exact ⟨by omega, le_refl _, h, fun x _ _ => by omega⟩
      · rintro ⟨-, h2, -, h4⟩
        by_contra hne
        have hlt : c < lo + (n + 1) := lt_of_le_of_ne h2 fun e => hne (by rw [e])
        rw [h4 _ hlt (le_refl _)] at h
        cases h
    · rename_i h
      rw [ih]
      constructor
      · rintro ⟨h1, h2, h3, h4⟩
        refine ⟨h1, by omega, h3, fun x hx hx' => ?_⟩
        by_cases e : x = lo + (n + 1)
        · rw [e]
          exact Bool.eq_false_iff.mpr h
        · exact h4 x hx (by omega)
      · rintro ⟨h1, h2, h3, h4⟩
        have hne : c ≠ lo + (n + 1) := by
          rintro rfl
          exact h h3
        exact ⟨h1, by omega, h3, fun x hx hx' => h4 x hx (by omega)⟩

/-- No number of lo..lo + n passes the test. -/
theorem largest_eq_none_iff (ok : Nat → Bool) (lo n : Nat) :
    largest ok lo n = none ↔ ∀ x, lo ≤ x → x ≤ lo + n → ok x = false := by
  constructor
  · intro h x h1 h2
    induction n with
    | zero =>
      have e : x = lo := by omega
      unfold largest at h
      split at h
      · cases h
      · rename_i hk
        rw [e]
        exact Bool.eq_false_iff.mpr hk
    | succ n ih =>
      unfold largest at h
      split at h
      · cases h
      · rename_i hk
        by_cases e : x = lo + (n + 1)
        · rw [e]
          exact Bool.eq_false_iff.mpr hk
        · exact ih h (by omega)
  · intro h
    cases hl : largest ok lo n with
    | none => rfl
    | some c =>
      obtain ⟨h1, h2, h3, -⟩ := (largest_eq_some_iff ok lo n c).mp hl
      rw [h c h1 h2] at h3
      cases h3

/-! ## The arbiter (R161) -/

theorem arbitrate_of_busy {s : State} (h : s.ptp.mSide ≠ .free) : arbitrate s = s := by simp [arbitrate, h]

/-- Everything the arbiter can do with the M-side FREE: grant the one that waits, or choose by the guard count. -/
theorem arbitrate_of_free {s : State} (h : s.ptp.mSide = .free) :
    (waitingU s = none ∧ waitingAgent s = none ∧ arbitrate s = s) ∨
    (∃ acc, waitingU s = some acc ∧ waitingAgent s = none ∧ arbitrate s = grantU acc false s) ∨
    (∃ j, waitingU s = none ∧ waitingAgent s = some j ∧ arbitrate s = grantAgent j s) ∨
    (∃ acc j, waitingU s = some acc ∧ waitingAgent s = some j ∧
      arbitrate s = if s.ptp.guard < Config.guardMax then grantU acc true s else grantAgent j s) := by
  unfold arbitrate
  rw [if_pos h]
  cases waitingU s <;> cases waitingAgent s <;> simp

/-- R162: what the end of a job does to a held read. -/
theorem releaseHold_eq (s : State) : releaseHold s = s.onPtp fun p => { p with u := releasedU p.u } := by
  unfold releaseHold State.onPtp
  split <;> rename_i h <;> simp only [h, releasedU] <;> rw [← h]

/-! ## The Memory Agent (R160, R164) -/

/-- Everything the IDLE agent's choice can do: start the first ready job, or nothing. -/
theorem chooseJob_of_idle {s : State} (h : agentIdle s = true) :
    chooseJob s =
      if reportReady s then startReportWrite s
      else if orderFetchReady s then startOrderFetch s
      else if segmentFetchReady s then startSegmentFetch s
      else if snapshotReady s then startSnapshotWrite s
      else s := by
  simp [chooseJob, h]

theorem chooseJob_of_busy {s : State} (h : agentIdle s = false) : chooseJob s = s := by simp [chooseJob, h]

/-- The end of a word of the job in progress: the job's own effect, what follows from it, the choice, the grant. -/
theorem endAgentWord_of_job (f : Job → State → State) {s : State} {a : Access} {n : Nat} {j : Job}
    (mSide : s.ptp.mSide = .agent a n) (job : s.ma.job = some j) :
    endAgentWord f s = arbitrate (chooseJob (conclude (f j (freeMSide s)))) := by
  have job' : (freeMSide s).ma.job = some j := job
  unfold endAgentWord
  rw [mSide]
  simp only [job']

/-- The end of a word that a line reset has left to nobody frees the M-side. -/
theorem endAgentWord_of_orphan (f : Job → State → State) {s : State} {a : Access} {n : Nat}
    (mSide : s.ptp.mSide = .orphan a n) : endAgentWord f s = arbitrate (freeMSide s) := by
  unfold endAgentWord
  rw [mSide]

/-- The command that starts a job takes the start under the job's name. -/
theorem exec_startCommand (k : AgentJob) (s : State) : exec (startCommand k) s = .next (takeStart k s) := by
  cases k <;> rfl

/-- Everything the command of a start can do: begin the job, keep the start for the end of a write, or nothing. -/
theorem takeStart_eq (k : AgentJob) (s : State) :
    takeStart k s =
      if agentIdle s && jobReady k s then beginJob k s
      else if awaitsWriteEnd s then s.onPtp fun p => { p with starting := p.starting <|> some k }
      else s := rfl

theorem awaitsWriteEnd_iff (s : State) : awaitsWriteEnd s = true ↔ KeepsStarts s := by
  have some_iff : s.ptp.coming.isSome = true ↔ s.ptp.coming ≠ none := by cases s.ptp.coming <;> simp
  have idle_iff : agentIdle s = true ↔ s.ma.job = none := by simp [agentIdle]
  unfold awaitsWriteEnd KeepsStarts
  rw [Bool.and_eq_true, Bool.and_eq_true, some_iff, idle_iff, and_assoc]
  cases s.ptp.mSide <;> rfl

/-- The end of a write's forwarded access, in the order of its parts. -/
theorem forwardedEnds_of_write {acc : Access} (h : acc.write = true) (answered : Bool) (data : Word) (s : State) :
    forwardedEnds acc answered data s =
      arbitrate (takeKept (if s.ptp.coming.isSome then s.ptp.starting else none)
        (conclude (takeComing (completeU (!answered) none
          (snoop (addressed acc.addr s) acc.be acc.data answered s))))) := by
  simp [forwardedEnds, startKept, h]

/-- The end of a read's forwarded access: no start is kept for it. -/
theorem forwardedEnds_of_read {acc : Access} (h : acc.write = false) (answered : Bool) (data : Word) (s : State) :
    forwardedEnds acc answered data s =
      arbitrate (conclude (takeComing (completeU (!answered) (if answered then some data else none) s))) := by
  simp [forwardedEnds, startKept, takeKept, h]

end Sys2Proof.Machine
end

