-- ==== Sys2Proof/Tests/Slice0.lean ====
section
/-! SUPPORT. Tests: the checks of well-formedness, worked examples of the spec, and for each statement with
hypotheses concrete values that meet all of them together. -/

namespace Sys2Proof.Tests

open Sys2Proof.Machine

set_option Elab.async false

/-! ## States of a small deck

Six lines are assigned: S UPPER LIMIT, DOOR CLOSED, VACUUM OK, TAPE IN PATH, WRITE RING and BOT MARK; the door is
closed, the vacuum OK, the tape in the path and the ring present. The expected sequence is 255. -/

def zeros : Body := ⟨0, 0, 0, 0, 0, 0, 0⟩

def deckLine (f : Func) (level : Bool) : Line := ⟨f, .rising, false, 0, level, 0, false, .none⟩

def unloaded : State :=
  { State.reset with
    mu := { State.reset.mu with pair := some ⟨512, 512⟩, arrival := true }
    slu :=
      ⟨#v[deckLine (.limit .s true) false, deckLine .doorClosed true, deckLine .vacuumOk true, deckLine .tapeInPath true,
        deckLine .writeRing true, deckLine .botMark false, Line.reset, Line.reset, Line.reset, Line.reset, Line.reset,
        Line.reset], 0, false, 0x01E⟩
    oi := ⟨255, 0, [], .none⟩
    mc := { State.reset.mc with mode := .run, initRunning := false } }

def lineLow (k : Fin 12) (s : State) : State :=
  s.onSlu fun u => { u with
    lines := u.lines.set k.val { u.lines.get k with level := false } k.isLt, raw := u.raw &&& ~~~(1#12 <<< k.val) }

def inSetup (s : State) : State := s.onMc fun c => { c with mode := .setup }

def looping : PerReel ReelLoop := ⟨⟨.loop, 0, 0, .none, true⟩, ⟨.loop, 0, 0, .none, true⟩⟩

def ready : State :=
  { unloaded with tsq := ⟨.ready, false, true, false, false, none, 0, false⟩, cl := ⟨true, 0, 0, .none⟩, rl := looping }

def hand (c : Code) (leg : Leg) : InHand :=
  ⟨254, c, ⟨2000, false, 0, 0, false, false, false⟩, false, 0, leg, false, false⟩

def moving : State :=
  { ready with
    tsq := { ready.tsq with state := .moving, inHand := some (hand .space .space) }
    mg := { Mg.reset with
      phase := .run, motion := some ⟨.space, true, 4, 25, true⟩, accel := 4, l := 2000, r := 2000, finalStop := true } }

def settling : State :=
  { moving with
    tsq := { moving.tsq with state := .settling }
    mg := { Mg.reset with phase := .settle false, motion := some ⟨.space, true, 4, 25, true⟩, l := 2000, d := 2000 } }

def filling : State :=
  { unloaded with
    tsq := ⟨.loadingFill, false, true, false, false, some (hand .load .none), 0, true⟩
    rl := ⟨⟨.fill, -300, 0, .none, false⟩, ⟨.fill, -300, 0, .none, false⟩⟩ }

def windingOff : State :=
  { unloaded with
    tsq := ⟨.unloadingWindOff, false, false, false, false, some (hand .unload .none), 0, true⟩
    rl := ⟨⟨.wind, 250, 0, .none, false⟩, ReelLoop.reset⟩ }

def halting : State :=
  { ready with tsq := { ready.tsq with state := .halting }, fm := { Fm.reset with first := some .capstanRunaway } }

def faulted (k : FaultKind) : State :=
  { unloaded with
    tsq := ⟨.fault, true, true, false, false, none, 0, false⟩, fm := { Fm.reset with first := some k } }

/-- A forward write-marked segment of 600 counts, the last of its chain. -/
def segment : Segment := ⟨false, 600, 20, 4, 0, true, true, true, 0, false⟩

def writing : State :=
  { moving with
    tsq := { moving.tsq with
      writeEnable := true
      inHand := some { hand .runChain .chain with
        fields := { (hand .runChain .chain).fields with writeIntent := true } } }
    wk := { Wk.reset with active := true, current := some (0, segment), visits := 1, inUse := [0] } }

def said : Report := ⟨0, .orderDone, .ready, 0, 0, 0, 0, some 0⟩

/-- A REPORT WRITE whose last word waits for the arbiter. -/
def reportJob : Job := ⟨.reportWrite 127 said 0 0, 3, true, [1, 2, 3, 4], []⟩

theorem parameters_in_range : ParameterLaw (Params.defaults ⟨0, false, false⟩) := by
  constructor <;> (try intro x; cases x) <;> decide +kernel

theorem nothing_stale : ∀ (i : Fin 32) (copy : Segment), State.reset.sc.entries.get i ≠ .stale copy := by
  have invalid : ∀ i : Fin 32, State.reset.sc.entries.get i = .invalid := by decide +kernel
  intro i copy h
  rw [invalid] at h
  cases h

/-! ## The hypotheses of the statements are met together -/

theorem witness_StepRunsTheFrontCommand :
    (∃ (c : Instr) (rest : List Instr) (s : State), s.pending = c :: rest) ∧
    (∃ s : State, s.pending = []) := by
  refine ⟨⟨.resetRelease, [.convertPulseEnd], { ready with pending := [.resetRelease, .convertPulseEnd] }, ?_⟩,
    ⟨ready, ?_⟩⟩ <;>
    (repeat' first
      | decide +kernel)

theorem witness_ParametersStayInRange :
    ∃ s t : State, ParameterLaw s.mc.params ∧ step s = .next t := by
  refine ⟨{ inSetup ready with pending := [.setSpeeds 255 ⟨0, 0, 0, 0, 0, 0, 0⟩] }, _, ?_, rfl⟩
  repeat' first
    | decide +kernel
    | exact parameters_in_range

theorem witness_SpeedsStayWithin127 :
    ∃ s t : State, SpeedLaw s ∧ step s = .next t := by
  refine ⟨{ ready with pending := [.periodExpiry ⟨false, false, false, []⟩] }, _, ?_, rfl⟩
  repeat' first
    | decide +kernel
    | exact parameters_in_range
    | exact nothing_stale
    | unfold Room | unfold NothingDue | unfold SpeedFollows | unfold DriveLow | unfold WithinBounds
    | unfold DoorAndRange | unfold SettlesNow | unfold Serving
    | constructor

theorem witness_DistanceNeverExceedsLimit :
    ∃ s t : State, DistanceLaw s ∧ step s = .next t := by
  refine ⟨{ moving with pending := [.periodExpiry ⟨false, false, false, []⟩] }, _, ?_, rfl⟩
  repeat' first
    | decide +kernel
    | exact parameters_in_range
    | exact nothing_stale
    | unfold Room | unfold NothingDue | unfold SpeedFollows | unfold DriveLow | unfold WithinBounds
    | unfold DoorAndRange | unfold SettlesNow | unfold Serving
    | constructor

theorem witness_MeasurementsStayInRange :
    ∃ s t : State, MeasurementLaw s.mu ∧ step s = .next t := by
  refine
    ⟨{ { ready with mu := { ready.mu with p := 33554431, accum := 1 } } with pending := [.periodExpiry ⟨false, false, false, []⟩] },
    _, ?_, rfl⟩
  repeat' first
    | decide +kernel
    | exact parameters_in_range
    | exact nothing_stale
    | unfold Room | unfold NothingDue | unfold SpeedFollows | unfold DriveLow | unfold WithinBounds
    | unfold DoorAndRange | unfold SettlesNow | unfold Serving
    | constructor
    | (intro x; cases x)

theorem witness_QueueNeverHoldsMoreThanEight :
    ∃ s t : State, IntakeLaw s ∧ step s = .next t := by
  refine
    ⟨{ { moving with oi := ⟨255, 0, List.replicate 8 ⟨0, .marker, zeros⟩, .none⟩ } with pending := [.marker 255 zeros] },
    _, ?_, rfl⟩
  repeat' first
    | decide +kernel
    | exact parameters_in_range
    | exact nothing_stale
    | unfold Room | unfold NothingDue | unfold SpeedFollows | unfold DriveLow | unfold WithinBounds
    | unfold DoorAndRange | unfold SettlesNow | unfold Serving
    | constructor

theorem witness_RingNeverOverflows :
    ∃ s t : State, RingLaw s ∧ step s = .next t := by
  refine
    ⟨{ { ready with ru := { ready.ru with pendingReports := List.replicate 4 said, writeIdx := 128, nextSeq := 128 } } with pending := [.marker 255 zeros] },
    _, ?_, rfl⟩
  repeat' first
    | decide +kernel
    | exact parameters_in_range
    | exact nothing_stale
    | unfold Room | unfold NothingDue | unfold SpeedFollows | unfold DriveLow | unfold WithinBounds
    | unfold DoorAndRange | unfold SettlesNow | unfold Serving
    | constructor

theorem witness_OutputsFollowState :
    ∃ s t : State, OutputLaw s ∧ step s = .next t := by
  refine ⟨{ ready with pending := [.rewind 255 zeros] }, _, ?_, rfl⟩
  repeat' first
    | decide +kernel
    | exact parameters_in_range
    | exact nothing_stale
    | unfold Room | unfold NothingDue | unfold SpeedFollows | unfold DriveLow | unfold WithinBounds
    | unfold DoorAndRange | unfold SettlesNow | unfold Serving
    | constructor
    | (intro x; cases x)

theorem witness_FaultRecordFollowsState :
    ∃ s t : State, FaultLaw s ∧ step s = .next t := by
  refine ⟨{ faulted .tapeBreak with pending := [.clearFault 255 zeros] }, _, ?_, rfl⟩
  repeat' first
    | decide +kernel
    | exact parameters_in_range
    | exact nothing_stale
    | unfold Room | unfold NothingDue | unfold SpeedFollows | unfold DriveLow | unfold WithinBounds
    | unfold DoorAndRange | unfold SettlesNow | unfold Serving
    | constructor

theorem witness_WriteEnableOnlyWhileWriting :
    ∃ s t : State, WriteEnableLaw s ∧ step s = .next t := by
  refine ⟨{ writing with pending := [.stopWord 0 true] }, _, ?_, rfl⟩
  repeat' first
    | decide +kernel
    | exact parameters_in_range
    | exact nothing_stale
    | unfold Room | unfold NothingDue | unfold SpeedFollows | unfold DriveLow | unfold WithinBounds
    | unfold DoorAndRange | unfold SettlesNow | unfold Serving
    | constructor
    | (intro x; cases x)

theorem witness_ResetsAndStartUp :
    (∃ (s : State) (_levels : TachLevels) (acc : Access) (n : Nat), s.ptp.mSide = .agent acc n) ∧
    (∃ (s : State) (_levels : TachLevels) (acc : Access) (n : Nat), s.ptp.mSide = .forwarded acc n) ∧
    (∃ (s : State) (_levels : TachLevels) (acc : Access), s.ptp.mSide ≠ .free ∧ s.ptp.u = some (acc, .held)) ∧
    (∃ s : State, s.mc.resetAsserted = true) ∧
    (∃ s : State, s.mc.resetAsserted = false) ∧
    (∃ (s : State) (_active : Bool), s.mc.mode = .initialising ∧ s.mc.initRunning = true) ∧
    (∃ (s : State) (_active : Bool), (s.mc.mode ≠ .initialising ∨ s.mc.initRunning = false)) := by
  refine ⟨⟨{ ready with ptp := { ready.ptp with mSide := .agent ⟨0, 0xF#4, false, 0⟩ 32 } }, ⟨⟨true, false⟩, ⟨⟨false,
    true⟩, ⟨true, true⟩⟩⟩, ⟨0, 0xF#4, false, 0⟩, 32, ?_⟩,
    ⟨{ ready with ptp := { ready.ptp with mSide := .forwarded ⟨0, 0xF#4, false, 0⟩ 32 } }, ⟨⟨true, false⟩, ⟨⟨false,
    true⟩, ⟨true, true⟩⟩⟩, ⟨0, 0xF#4, false, 0⟩, 32, ?_⟩,
    ⟨{ ready with ptp := { ready.ptp with u := some (⟨0, 0xF#4, false, 0⟩, .held), mSide := .agent ⟨0, 0xF#4, false, 0⟩ 32 } },
    ⟨⟨true, false⟩, ⟨⟨false, true⟩, ⟨true, true⟩⟩⟩, ⟨0, 0xF#4, false, 0⟩, ?_, ?_⟩,
    ⟨{ State.reset with mc := { State.reset.mc with resetAsserted := true, initRunning := false } }, ?_⟩,
    ⟨State.reset, ?_⟩, ⟨State.reset, true, ?_, ?_⟩, ⟨ready, false, ?_⟩⟩ <;>
    (repeat' first
      | decide +kernel)

theorem witness_ExpiryMeasuresAndCounts :
    (∃ (s : State) (_o : ExpiryOrder), watching s = true) ∧
    (∃ (s : State) (_o : ExpiryOrder), watching s = true ∧ s.mc.params.snapInterval ≠ 0 ∧ s.mc.params.snapInterval ≤
      s.ru.snapCounter + 1) ∧
    (∃ (s : State) (_o : ExpiryOrder), watching s = false) ∧
    (∃ (s : State) (_o : ExpiryOrder) (mark : Mark) (pos : Int), Resting { s with mu := { s.mu with notices := [] } }
      ∧ s.mu.notices = [⟨mark, pos⟩] ∧ Unfaulted s ∧ s.mu.arrival = true ∧ s.mc.params.mask.markCrossed = true) ∧
    (∃ (s : State) (_o : ExpiryOrder), Resting { s with slu := { s.slu with request := false } } ∧ s.slu.request =
      true ∧ Unfaulted s ∧ s.mu.arrival = true) := by
  refine ⟨⟨ready, ⟨false, false, false, []⟩, ?_⟩, ⟨{ ready with ru := { ready.ru with snapCounter := 39 } }, ⟨true,
    true, true, [.halt]⟩, ?_, ?_, ?_⟩, ⟨State.reset, ⟨false, false, false, []⟩, ?_⟩,
    ⟨{ ready with mu := { ready.mu with notices := [⟨.eot, 7⟩] } }, ⟨false, false, false, []⟩, .eot, 7, ?_, ?_, ?_,
    ?_, ?_⟩, ⟨{ ready with slu := { ready.slu with request := true, changeSet := 1 } }, ⟨false, false, false, []⟩,
    ?_, ?_, ?_, ?_⟩⟩ <;>
    (repeat' first
      | decide +kernel
      | exact parameters_in_range
      | exact nothing_stale
      | unfold Room | unfold NothingDue | unfold SpeedFollows | unfold DriveLow | unfold WithinBounds
      | unfold DoorAndRange | unfold SettlesNow | unfold Serving
      | constructor
      | (intro x; cases x))

theorem witness_RestingExpiryHoldsTheTape :
    ∃ (s : State) (_o : ExpiryOrder), Resting s ∧ Faultless s ∧ s.mu.arrival = true := by
  refine ⟨ready, ⟨true, true, true, [.halt]⟩, ?_, ?_, ?_⟩ <;>
    (repeat' first
      | decide +kernel
      | exact parameters_in_range
      | exact nothing_stale
      | unfold Room | unfold NothingDue | unfold SpeedFollows | unfold DriveLow | unfold WithinBounds
      | unfold DoorAndRange | unfold SettlesNow | unfold Serving
      | constructor
      | (intro x; cases x))

theorem witness_RunCommitsTheFittingSpeed :
    (∃ a _w _c : Nat, 1 ≤ a) ∧
    (∃ (s : State) (_o : ExpiryOrder) (m : Motion) (c : Nat), Undisturbed s ∧ NothingDue s ∧ Faultless s ∧
      s.mu.arrival = true ∧ s.tsq.state = .moving ∧ s.mg.phase = .run ∧ s.mg.motion = some m ∧ s.mg.w = 0 ∧ s.mu.eot
      = none ∧ s.wk.active = false ∧ s.fm.first = none ∧ satFlag .s s = false ∧ satFlag .t s = false ∧ 1 ≤ c ∧ s.mg.v
      ≤ c + s.mg.accel ∧ c ≤ s.mg.v + s.mg.accel ∧ c ≤ m.ceiling ∧ c ≤ s.mc.params.globalLimit ∧ c ≤
      s.mg.reduction.getD c ∧ ((c + brakingDistance s.mg.accel 0 c : Nat) : Int) ≤ s.mg.r ∧ (∀ c' : Nat, c' ≤ s.mg.v
      + s.mg.accel → c < c' → c' ≤ m.ceiling → c' ≤ s.mc.params.globalLimit → c' ≤ s.mg.reduction.getD c' → s.mg.r <
      ((c' + brakingDistance s.mg.accel 0 c' : Nat) : Int))) ∧
    (∃ (s : State) (_o : ExpiryOrder) (m : Motion), OnlyMotion s ∧ s.tsq.state = .moving ∧ s.mg.phase = .run ∧
      s.mg.motion = some m ∧ s.mg.w = 0 ∧ s.mu.eot = none ∧ s.wk.active = false ∧ satFlag .s s = false ∧ satFlag .t s
      = false ∧ s.mg.accel < s.mg.v ∧ NothingFits s.mg.v s.mg.accel (topSpeed m.ceiling s) 0 s.mg.r) ∧
    (∃ (s : State) (_o : ExpiryOrder) (m : Motion) (h : InHand) (k : Fin 32) (n : Segment) (c : Nat), OnlyMotion s ∧
      s.tsq.state = .moving ∧ s.mg.phase = .run ∧ s.mg.motion = some m ∧ s.tsq.inHand = some h ∧ s.wk.active = true ∧
      s.wk.approachReports = false ∧ s.mg.stopped = false ∧ s.mg.overrun = none ∧ s.mu.eot = none ∧ satFlag .s s =
      false ∧ satFlag .t s = false ∧ s.mg.lookAhead = some (k, n) ∧ s.sc.entries.get k = .valid n ∧ n.reverse =
      !m.forward ∧ n.last = true ∧ n.distance ≠ 0 ∧ 0 < s.mg.w ∧ s.mg.w ≤ topSpeed m.ceiling s ∧ (Fits s.mg.v
      s.mg.accel (topSpeed m.ceiling s) s.mg.w s.mg.r c ∨ (NothingFits s.mg.v s.mg.accel (topSpeed m.ceiling s)
      s.mg.w s.mg.r ∧ c = s.mg.v - s.mg.accel)) ∧ s.mg.r ≤ c ∧ ((c : Int) < s.mg.r + n.distance ∨ n.accel < s.mg.v)) ∧
    (∃ (s : State) (_o : ExpiryOrder) (m : Motion) (pos : Int) (c : Nat), OnlyMotion s ∧ s.tsq.state = .moving ∧
      s.mg.phase = .run ∧ s.mg.motion = some m ∧ m.forward = true ∧ s.mu.eot = some ⟨.eot, true, pos⟩ ∧ s.wk.active =
      false ∧ satFlag .s s = false ∧ satFlag .t s = false ∧ (let k : Int := pos + s.mc.params.eotOverrun - s.mg.q; k
      < s.mg.r ∧ 0 ≤ k ∧ (brakingDistance m.accel 0 s.mg.v : Int) ≤ k ∧ Fits s.mg.v s.mg.accel (topSpeed m.ceiling s)
      0 k c) ∧ 1 ≤ c) ∧
    (∃ (s : State) (_o : ExpiryOrder) (m : Motion) (pos : Int), OnlyMotion s ∧ s.tsq.state = .moving ∧ s.mg.phase =
      .run ∧ s.mg.motion = some m ∧ m.forward = true ∧ s.mu.eot = some ⟨.eot, true, pos⟩ ∧ s.wk.active = false ∧
      satFlag .s s = false ∧ satFlag .t s = false ∧ 1 ≤ s.mg.accel ∧ s.mg.accel < s.mg.v ∧
      (let k : Int := pos + s.mc.params.eotOverrun - s.mg.q; k < s.mg.r ∧ (k < 0 ∨ k < (brakingDistance m.accel 0
      s.mg.v : Int)))) ∧
    (∃ (s : State) (_o : ExpiryOrder) (m : Motion) (h : InHand), OnlyMotion s ∧ OutputLaw s ∧ s.tsq.state = .moving ∧
      s.tsq.vacuum = true ∧ s.mg.phase = .run ∧ s.mg.motion = some m ∧ m.settles = true ∧ s.tsq.inHand = some h ∧
      s.mg.w = 0 ∧ s.mg.r = 0 ∧ s.mg.v ≤ s.mg.accel ∧ s.mg.finalStop = true ∧ s.mg.stopped = false ∧ s.mg.overrun.any
      Overrun.boundary = false ∧ s.mu.eot = none ∧ s.wk.active = false ∧ satFlag .s s = false ∧ satFlag .t s = false) ∧
    (∃ (s : State) (_o : ExpiryOrder) (m : Motion) (h : InHand) (k : Fin 32) (n : Segment) (c : Nat), OnlyMotion s ∧
      OutputLaw s ∧ s.tsq.state = .moving ∧ s.tsq.vacuum = true ∧ s.mg.phase = .run ∧ s.mg.motion = some m ∧
      s.tsq.inHand = some h ∧ s.wk.active = true ∧ s.wk.approachReports = false ∧ s.mg.stopped = false ∧ s.mg.overrun
      = none ∧ s.mu.eot = none ∧ satFlag .s s = false ∧ satFlag .t s = false ∧ s.mg.lookAhead = some (k, n) ∧
      s.sc.entries.get k = .valid n ∧ n.reverse = !m.forward ∧ n.last = true ∧ 0 < s.mg.w ∧ s.mg.w ≤ topSpeed
      m.ceiling s ∧ (Fits s.mg.v s.mg.accel (topSpeed m.ceiling s) s.mg.w s.mg.r c ∨ (NothingFits s.mg.v s.mg.accel
      (topSpeed m.ceiling s) s.mg.w s.mg.r ∧ c = s.mg.v - s.mg.accel)) ∧ s.mg.r + n.distance ≤ c ∧ s.mg.v ≤ n.accel ∧
      Room 1 s ∧ s.mc.params.mask.segmentEmpty = true) := by
  refine ⟨⟨1, 0, 0, ?_⟩, ⟨{ moving with mg := { moving.mg with v := 8, vt := 8, r := 24, l := 2000, d := 1976 } },
    ⟨false, false, false, []⟩, ⟨.space, true, 4, 25, true⟩, 12, ?_, ?_, ?_, ?_, ?_, ?_, ?_, ?_, ?_, ?_, ?_, ?_, ?_,
    ?_, ?_, ?_, ?_, ?_, ?_, ?_, ?_⟩, ⟨{ moving with mg := { moving.mg with v := 8, vt := 8, r := 3, d := 1997 } },
    ⟨false, false, false, []⟩, ⟨.space, true, 4, 25, true⟩, ?_, ?_, ?_, ?_, ?_, ?_, ?_, ?_, ?_, ?_, ?_⟩,
    ⟨{ writing with mg := { moving.mg with motion := some ⟨.chain, true, 4, 25, true⟩, v := 8, vt := 8, r := 5, d := 1995, w := 8, lookAhead := some (1, segment), finalStop := false }, sc := { writing.sc with entries := writing.sc.entries.set 1 (.valid segment) } },
    ⟨false, false, false, []⟩, ⟨.chain, true, 4, 25, true⟩,
    { hand .runChain .chain with fields := { (hand .runChain .chain).fields with writeIntent := true } }, 1, segment,
    5, ?_, ?_, ?_, ?_, ?_, ?_, ?_, ?_, ?_, ?_, ?_, ?_, ?_, ?_, ?_, ?_, ?_, ?_, ?_, ?_, ?_, ?_⟩,
    ⟨{ moving with mg := { moving.mg with v := 8, vt := 8 }, mu := { moving.mu with eot := some ⟨.eot, true, -3988⟩ } },
    ⟨false, false, false, []⟩, ⟨.space, true, 4, 25, true⟩, -3988, 8, ?_, ?_, ?_, ?_, ?_, ?_, ?_, ?_, ?_, ?_, ?_⟩,
    ⟨{ moving with mg := { moving.mg with v := 8, vt := 8 }, mu := { moving.mu with eot := some ⟨.eot, true, -3997⟩ } },
    ⟨false, false, false, []⟩, ⟨.space, true, 4, 25, true⟩, -3997, ?_, ?_, ?_, ?_, ?_, ?_, ?_, ?_, ?_, ?_, ?_, ?_⟩,
    ⟨{ moving with mg := { moving.mg with v := 4, vt := 4, r := 0, d := 2000 } }, ⟨false, false, false, []⟩, ⟨.space,
    true, 4, 25, true⟩, hand .space .space, ?_, ?_, ?_, ?_, ?_, ?_, ?_, ?_, ?_, ?_, ?_, ?_, ?_, ?_, ?_, ?_, ?_, ?_⟩,
    ⟨{ writing with mg := { moving.mg with motion := some ⟨.chain, true, 4, 25, true⟩, v := 8, vt := 8, r := 5, d := 1995, w := 8, lookAhead := some (1, { segment with distance := 0, accel := 8 }), finalStop := false }, sc := { writing.sc with entries := writing.sc.entries.set 1 (.valid { segment with distance := 0, accel := 8 }) } },
    ⟨false, false, false, []⟩, ⟨.chain, true, 4, 25, true⟩,
    { hand .runChain .chain with fields := { (hand .runChain .chain).fields with writeIntent := true } }, 1,
    { segment with distance := 0, accel := 8 }, 5, ?_, ?_, ?_, ?_, ?_, ?_, ?_, ?_, ?_, ?_, ?_, ?_, ?_, ?_, ?_, ?_,
    ?_, ?_, ?_, ?_, ?_, ?_, ?_, ?_, ?_⟩⟩ <;>
    (repeat' first
      | decide +kernel
      | exact parameters_in_range
      | exact nothing_stale
      | unfold Room | unfold NothingDue | unfold SpeedFollows | unfold DriveLow | unfold WithinBounds
      | unfold DoorAndRange | unfold SettlesNow | unfold Serving
      | constructor
      | (intro x; cases x))

theorem witness_SampleLossBrakes :
    ∃ (s : State) (_o : ExpiryOrder), Resting s ∧ Faultless s ∧ s.mu.arrival = false ∧ 2 ≤ s.mu.missCount ∧
      s.mu.lossReported = false := by
  refine ⟨{ ready with mu := { ready.mu with arrival := false, missCount := 2 } }, ⟨false, false, false, []⟩, ?_, ?_,
    ?_, ?_, ?_⟩ <;>
    (repeat' first
      | decide +kernel
      | exact parameters_in_range
      | exact nothing_stale
      | unfold Room | unfold NothingDue | unfold SpeedFollows | unfold DriveLow | unfold WithinBounds
      | unfold DoorAndRange | unfold SettlesNow | unfold Serving
      | constructor
      | (intro x; cases x))

theorem witness_SettleEndsTheOrder :
    (∃ (h : InHand) (s : State) (_o : ExpiryOrder), FinalSettle h s ∧ OutputLaw s ∧ NothingDue s ∧ Room 1 s ∧
      SettlesNow s) ∧
    (∃ (h : InHand) (s : State) (_o : ExpiryOrder), FinalSettle h s ∧ OutputLaw s ∧ NothingDue s ∧ Room 1 s ∧ (¬
      SettlesNow s) ∧ 1 ≤ s.mc.params.settleCount ∧ s.mc.params.settleTimeout ≤ s.mg.settle.elapsed + 1) := by
  refine ⟨⟨hand .space .space, { settling with mg := { settling.mg with settle := ⟨4, 3, 10⟩ } }, ⟨false, false,
    false, []⟩, ?_, ?_, ?_, ?_, ?_⟩, ⟨hand .space .space,
    { settling with mg := { settling.mg with settle := ⟨5, 0, 199⟩ } }, ⟨false, false, false, []⟩, ?_, ?_, ?_, ?_,
    ?_, ?_, ?_⟩⟩ <;>
    (repeat' first
      | decide +kernel
      | exact parameters_in_range
      | exact nothing_stale
      | unfold Room | unfold NothingDue | unfold SpeedFollows | unfold DriveLow | unfold WithinBounds
      | unfold DoorAndRange | unfold SettlesNow | unfold Serving
      | constructor
      | (intro x; cases x))

theorem witness_SaturationReducesSpeed :
    ∃ (s : State) (_o : ExpiryOrder) (m : Motion) (h : InHand), OnlyMotion s ∧ OutputLaw s ∧ s.tsq.state = .moving ∧
      s.mg.phase = .run ∧ s.mg.motion = some m ∧ s.tsq.inHand = some h ∧ (h.leg = .space ∨ h.leg = .chain) ∧ (satFlag
      .s s = true ∨ satFlag .t s = true) ∧ 39 ≤ s.mg.satRun := by
  refine
    ⟨{ moving with mg := { moving.mg with satRun := 39 }, rl := ⟨moving.rl.s, { moving.rl.t with d := -2047, sat := .negative }⟩ },
    ⟨false, false, false, []⟩, ⟨.space, true, 4, 25, true⟩, hand .space .space, ?_, ?_, ?_, ?_, ?_, ?_, ?_, ?_, ?_⟩ <;>
    (repeat' first
      | decide +kernel
      | exact parameters_in_range
      | exact nothing_stale
      | unfold Room | unfold NothingDue | unfold SpeedFollows | unfold DriveLow | unfold WithinBounds
      | unfold DoorAndRange | unfold SettlesNow | unfold Serving
      | constructor
      | (intro x; cases x))

theorem witness_HaltWaitLimitBrakes :
    (∃ (s : State) (_o : ExpiryOrder) (n : Nat), Undisturbed s ∧ NothingDue s ∧ Faultless s ∧ OutputLaw s ∧
      s.mu.arrival = true ∧ s.tsq.state = .halting ∧ s.mg.phase = .idle ∧ s.fm.haltWait = some n ∧ 399 ≤ n ∧ 1 <
      (newM s).natAbs) ∧
    (∃ (s : State) (_o : ExpiryOrder) (m : Motion), OnlyMotion { s with mg := { s.mg with pendHalt := false } } ∧
      s.mg.pendHalt = true ∧ s.tsq.state = .halting ∧ s.mg.phase = .run ∧ s.mg.motion = some m ∧
      s.mc.params.emergencyAccel < s.mg.v ∧ s.fm.haltWait = none) ∧
    (∃ (s : State) (_o : ExpiryOrder) (m : Motion), OnlyMotion s ∧ s.tsq.state = .halting ∧ s.mg.phase = .ramp ∧
      s.mg.motion = some m ∧ s.mg.accel < s.mg.v ∧ s.fm.haltWait = none) ∧
    (∃ (s : State) (_o : ExpiryOrder), OnlyMotion s ∧ s.tsq.state = .halting ∧ s.mg.phase = .ramp ∧ s.mg.v ≤
      s.mg.accel ∧ s.fm.haltWait = none ∧ 1 < (newM s).natAbs) ∧
    (∃ (s : State) (_o : ExpiryOrder) (n : Nat), OnlyMotion s ∧ OutputLaw s ∧ s.tsq.state = .halting ∧ s.mg.phase =
      .idle ∧ s.fm.haltWait = some n ∧ (newM s).natAbs ≤ 1) := by
  refine ⟨⟨{ halting with mu := { halting.mu with accum := 2 }, fm := { halting.fm with haltWait := some 399 } },
    ⟨false, false, false, []⟩, 399, ?_, ?_, ?_, ?_, ?_, ?_, ?_, ?_, ?_, ?_⟩,
    ⟨{ halting with mg := { moving.mg with v := 9, vt := 9, pendHalt := true } }, ⟨false, false, false, []⟩, ⟨.space,
    true, 4, 25, true⟩, ?_, ?_, ?_, ?_, ?_, ?_, ?_⟩,
    ⟨{ halting with mg := { moving.mg with phase := .ramp, accel := 8, v := 9, vt := 9 } }, ⟨false, false, false,
    []⟩, ⟨.space, true, 4, 25, true⟩, ?_, ?_, ?_, ?_, ?_, ?_⟩,
    ⟨{ halting with mu := { halting.mu with accum := 2 }, mg := { moving.mg with phase := .ramp, accel := 8, v := 8, vt := 8 } },
    ⟨false, false, false, []⟩, ?_, ?_, ?_, ?_, ?_, ?_⟩,
    ⟨{ halting with mu := { halting.mu with accum := -1 }, fm := { halting.fm with haltWait := some 0 } }, ⟨false,
    false, false, []⟩, 0, ?_, ?_, ?_, ?_, ?_, ?_⟩⟩ <;>
    (repeat' first
      | decide +kernel
      | exact parameters_in_range
      | exact nothing_stale
      | unfold Room | unfold NothingDue | unfold SpeedFollows | unfold DriveLow | unfold WithinBounds
      | unfold DoorAndRange | unfold SettlesNow | unfold Serving
      | constructor
      | (intro x; cases x))

theorem witness_ReelStallBrakes :
    ∃ (s : State) (x y : Reel) (_o : ExpiryOrder), Resting s ∧ ParameterLaw s.mc.params ∧ s.mu.arrival = true ∧ x ≠ y
      ∧ s.mc.params.stallThreshold ≤ (s.rl.get x).d.natAbs ∧ s.mc.params.stallTime ≤ s.fm.highRun.get x + 1 ∧
      s.mc.params.stallTime ≤ s.mu.silence.get x + 1 ∧ DriveLow y s ∧ SpeedFollows s ∧ DoorAndRange s ∧ level
      .vacuumOk s = true := by
  refine
    ⟨{ ready with rl := ⟨{ ready.rl.s with d := -512 }, { ready.rl.t with d := 511 }⟩, fm := { ready.fm with highRun := ⟨799, 0⟩ }, mu := { ready.mu with silence := ⟨799, 0⟩ } },
    .s, .t, ⟨false, false, false, []⟩, ?_, ?_, ?_, ?_, ?_, ?_, ?_, ?_, ?_, ?_, ?_⟩ <;>
    (repeat' first
      | decide +kernel
      | exact parameters_in_range
      | exact nothing_stale
      | unfold Room | unfold NothingDue | unfold SpeedFollows | unfold DriveLow | unfold WithinBounds
      | unfold DoorAndRange | unfold SettlesNow | unfold Serving
      | constructor
      | (intro x; cases x))

theorem witness_CapstanRunawayHalts :
    (∃ (s : State) (_o : ExpiryOrder), Resting s ∧ s.mu.arrival = true ∧ 7 ≤ s.fm.runaway ∧ (¬ SpeedFollows s) ∧ 1 ≤
      s.mc.params.stallTime ∧ (∀ x : Reel, DriveLow x s) ∧ DoorAndRange s ∧ level .vacuumOk s = true) ∧
    (∃ (s : State) (_o : ExpiryOrder), Resting s ∧ s.mu.arrival = true ∧ (newP s = -33554432 ∨ newP s = 33554431) ∧
      newP s ≠ s.mu.p ∧ StallFree s ∧ SpeedFollows s ∧ level .doorClosed s = true ∧ level .vacuumOk s = true) := by
  refine ⟨⟨{ ready with fm := { ready.fm with runaway := 7 }, mu := { ready.mu with accum := 17 } }, ⟨false, false,
    false, []⟩, ?_, ?_, ?_, ?_, ?_, ?_, ?_, ?_⟩, ⟨{ ready with mu := { ready.mu with p := 33554430, accum := 1 } },
    ⟨false, false, false, []⟩, ?_, ?_, ?_, ?_, ?_, ?_, ?_, ?_⟩⟩ <;>
    (repeat' first
      | decide +kernel
      | exact parameters_in_range
      | exact nothing_stale
      | unfold Room | unfold NothingDue | unfold SpeedFollows | unfold DriveLow | unfold WithinBounds
      | unfold DoorAndRange | unfold SettlesNow | unfold Serving
      | constructor
      | (intro x; cases x))

theorem witness_VacuumSettlesOrIsLost :
    (∃ (s : State) (_o : ExpiryOrder), Resting s ∧ Faultless s ∧ s.mu.arrival = true ∧ s.fm.vacSettled = false ∧
      s.fm.vacTimer < 65535 ∧ s.mc.params.vacuumSettle * 4 ≤ s.fm.vacTimer + 1) ∧
    (∃ (s : State) (_o : ExpiryOrder), Resting s ∧ s.mu.arrival = true ∧ s.fm.vacSettled = false ∧ s.fm.vacTimer <
      65535 ∧ s.mc.params.vacuumSettle * 4 ≤ s.fm.vacTimer + 1 ∧ 1 ≤ s.mc.params.stallTime ∧ (∀ x : Reel, DriveLow x
      s) ∧ SpeedFollows s ∧ DoorAndRange s ∧ level .vacuumOk s = false) := by
  refine ⟨⟨{ ready with fm := { ready.fm with vacTimer := 1999 } }, ⟨false, false, false, []⟩, ?_, ?_, ?_, ?_, ?_,
    ?_⟩, ⟨{ lineLow 2 ready with fm := { ready.fm with vacTimer := 1999 } }, ⟨false, false, false, []⟩, ?_, ?_, ?_,
    ?_, ?_, ?_, ?_, ?_, ?_, ?_⟩⟩ <;>
    (repeat' first
      | decide +kernel
      | exact parameters_in_range
      | exact nothing_stale
      | unfold Room | unfold NothingDue | unfold SpeedFollows | unfold DriveLow | unfold WithinBounds
      | unfold DoorAndRange | unfold SettlesNow | unfold Serving
      | constructor
      | (intro x; cases x))

theorem witness_PhaseTimeoutsUnload :
    (∃ (s : State) (_o : ExpiryOrder) (h : InHand), Undisturbed s ∧ NothingDue s ∧ OutputLaw s ∧ Room 1 s ∧
      s.mu.arrival = true ∧ s.tsq.state = .loadingFill ∧ s.mg.phase = .idle ∧ s.tsq.inHand = some h ∧ h.code = .load
      ∧ s.mc.params.loadTimeout * 4000 ≤ s.tsq.timer + 1) ∧
    (∃ (s : State) (_o : ExpiryOrder) (h : InHand), Undisturbed s ∧ NothingDue s ∧ OutputLaw s ∧ Room 1 s ∧
      s.mu.arrival = true ∧ s.tsq.state = .unloadingWindOff ∧ s.mg.phase = .idle ∧ s.tsq.inHand = some h ∧ h.code =
      .unload ∧ s.mc.params.unloadTime * 4000 ≤ s.tsq.timer + 1) := by
  refine ⟨⟨{ filling with tsq := { filling.tsq with timer := 15999 } }, ⟨false, false, false, []⟩, hand .load .none,
    ?_, ?_, ?_, ?_, ?_, ?_, ?_, ?_, ?_, ?_⟩, ⟨{ windingOff with tsq := { windingOff.tsq with timer := 31999 } },
    ⟨false, false, false, []⟩, hand .unload .none, ?_, ?_, ?_, ?_, ?_, ?_, ?_, ?_, ?_, ?_⟩⟩ <;>
    (repeat' first
      | decide +kernel
      | exact parameters_in_range
      | exact nothing_stale
      | unfold Room | unfold NothingDue | unfold SpeedFollows | unfold DriveLow | unfold WithinBounds
      | unfold DoorAndRange | unfold SettlesNow | unfold Serving
      | constructor
      | (intro x; cases x))

theorem witness_CapstanCountsAreDecoded :
    (∃ (s : State) (_ph : Phase), s.mc.resetAsserted = false) ∧
    (∃ (s : State) (_ph : Phase), s.mc.resetAsserted = true) := by
  refine ⟨⟨ready, .a, ?_⟩, ⟨{ ready with mc := { ready.mc with resetAsserted := true } }, .b, ?_⟩⟩ <;>
    (repeat' first
      | decide +kernel)

theorem witness_ReelCountsMeasureTheReels :
    (∃ (s : State) (_x : Reel) (_ph : Phase), s.mc.resetAsserted = false) ∧
    (∃ (s : State) (x : Reel) (ph : Phase), MeasurementLaw s.mu ∧ s.mc.resetAsserted = false ∧ s.tsq.vacuum = true ∧
      (s.rl.get x).mode ≠ .fill ∧ (s.mu.est.get x).tally = 63 ∧
      ((s.mu.est.get x).winding = match ph with | .a => decide ((!(s.mu.reelRef.get x).a) ≠ (s.mu.reelRef.get x).b) | .b => decide ((!(s.mu.reelRef.get x).b) = (s.mu.reelRef.get x).a))) ∧
    (∃ (s : State) (_x : Reel) (_ph : Phase), s.mc.resetAsserted = true) := by
  refine ⟨⟨ready, .s, .b, ?_⟩,
    ⟨{ ready with mu := { ready.mu with est := ⟨ready.mu.est.s, ⟨63, false, 12000, some 6000⟩⟩, reelRef := ⟨⟨false, false⟩, ⟨true, false⟩⟩ } },
    .t, .a, ?_, ?_, ?_, ?_, ?_, ?_⟩, ⟨{ ready with mc := { ready.mc with resetAsserted := true } }, .t, .b, ?_⟩⟩ <;>
    (repeat' first
      | decide +kernel
      | exact parameters_in_range
      | exact nothing_stale
      | unfold Room | unfold NothingDue | unfold SpeedFollows | unfold DriveLow | unfold WithinBounds
      | unfold DoorAndRange | unfold SettlesNow | unfold Serving
      | constructor
      | (intro x; cases x))

theorem witness_PulsesEnd :
    (∃ s : State, s.ru.pulse = true) ∧
    (∃ s : State, s.ru.pulse = false) := by
  refine ⟨⟨{ ready with ru := { ready.ru with attention := true, pulse := true } }, ?_⟩, ⟨ready, ?_⟩⟩ <;>
    (repeat' first
      | decide +kernel)

theorem witness_FramesDriveTheReels :
    (∃ (s : State) (_p : PerReel (BitVec 10)), watching s = true ∧ s.mu.frame = .idle ∧ s.tsq.state ≠ .loadingFill ∧
      (∀ x : Reel, (s.rl.get x).mode ≠ .fill)) ∧
    (∃ (s : State) (l : List Bool), watching s = true ∧ s.mu.frame = .idle ∧ (l.length ≠ 21 ∨ (l.filter id).length %
      2 = 1)) ∧
    (∃ (s : State) (_l : List Bool), watching s = true ∧ s.mu.frame = .passing) ∧
    (∃ (s : State) (_l : List Bool), watching s = false) := by
  refine ⟨⟨ready, ⟨0#10, 1023#10⟩, ?_, ?_, ?_, ?_⟩, ⟨ready, List.replicate 20 false, ?_, ?_, ?_⟩,
    ⟨{ ready with mu := { ready.mu with frame := .passing } }, [], ?_, ?_⟩, ⟨State.reset, [], ?_⟩⟩ <;>
    (repeat' first
      | decide +kernel
      | exact parameters_in_range
      | exact nothing_stale
      | unfold Room | unfold NothingDue | unfold SpeedFollows | unfold DriveLow | unfold WithinBounds
      | unfold DoorAndRange | unfold SettlesNow | unfold Serving
      | constructor
      | (intro x; cases x))

theorem witness_FillEndsInBand :
    (∃ (s : State) (p : PerReel (BitVec 10)), watching s = true ∧ s.mu.frame = .idle ∧ s.tsq.state = .loadingFill ∧
      (∀ x : Reel, (s.rl.get x).mode = .fill ∧ (s.rl.get x).band = false) ∧ (∀ (x : Reel) (upper : Bool), level
      (.limit x upper) s = false) ∧ (¬ (InBand .s (p.get .s).toNat s ∧ InBand .t (p.get .t).toNat s))) ∧
    (∃ (s : State) (p : PerReel (BitVec 10)) (h : InHand), watching s = true ∧ s.mu.frame = .idle ∧ s.tsq.state =
      .loadingFill ∧ (∀ x : Reel, (s.rl.get x).mode = .fill ∧ (s.rl.get x).band = false) ∧ (∀ (x : Reel) (upper :
      Bool), level (.limit x upper) s = false) ∧ s.tsq.inHand = some h ∧ s.tsq.brake = false ∧ s.tsq.vacuum = true ∧
      s.mg.phase = .idle ∧ InBand .s (p.get .s).toNat s ∧ InBand .t (p.get .t).toNat s) := by
  refine ⟨⟨filling, ⟨416#10, 415#10⟩, ?_, ?_, ?_, ?_, ?_, ?_⟩, ⟨filling, ⟨416#10, 608#10⟩, hand .load .none, ?_, ?_,
    ?_, ?_, ?_, ?_, ?_, ?_, ?_, ?_, ?_⟩⟩ <;>
    (repeat' first
      | decide +kernel
      | exact parameters_in_range
      | exact nothing_stale
      | unfold Room | unfold NothingDue | unfold SpeedFollows | unfold DriveLow | unfold WithinBounds
      | unfold DoorAndRange | unfold SettlesNow | unfold Serving
      | constructor
      | (intro x; cases x))

theorem witness_TicksDebounceTheLines :
    (∃ (s : State) (_raw : BitVec 12) (_order : List (Fin 12)), s.oi.queue = []) ∧
    (∃ (s : State) (raw : BitVec 12) (_order : List (Fin 12)), NothingDue s ∧ (∀ k : Fin 12, Quiet k raw s)) := by
  refine ⟨⟨ready, 0xFFF#12, [3], ?_⟩, ⟨ready, 0x01E#12, [], ?_, ?_⟩⟩ <;>
    (repeat' first
      | decide +kernel
      | exact parameters_in_range
      | exact nothing_stale
      | unfold Room | unfold NothingDue)

theorem witness_AcceptedChangesAreFollowed :
    (∃ (s : State) (k : Fin 12) (mark : Mark) (raw : BitVec 12) (_order : List (Fin 12)), (LineChange k
      (match mark with | .bot => .botMark | .eot => .eotMark) raw s)) ∧
    (∃ (s : State) (k : Fin 12) (raw : BitVec 12) (_order : List (Fin 12)) (h : InHand) (i : Fin 32) (seg : Segment),
      LineChange k .writeRing raw s ∧ (s.slu.lines.get k).level = true ∧ s.tsq.inHand = some h ∧ h.code = .runChain ∧
      h.fields.writeIntent = true ∧ s.wk.current = some (i, seg) ∧ Room 1 s ∧ s.mc.params.mask.markCrossed = true) ∧
    (∃ (s : State) (k : Fin 12) (raw : BitVec 12) (_order : List (Fin 12)) (h : InHand), LineChange k .tapeInPath raw
      s ∧ (s.slu.lines.get k).level = true ∧ OutputLaw s ∧ s.tsq.state = .unloadingWindOff ∧ s.tsq.vacuum = false ∧
      s.tsq.inHand = some h ∧ h.code = .unload ∧ Room 1 s) := by
  refine ⟨⟨{ ready with mu := { ready.mu with notices := List.replicate 4 ⟨.eot, 0⟩ } }, 5, .bot, 0x03E#12, [], ?_⟩,
    ⟨{ writing with wk := { writing.wk with current := some (0, segment) } }, 4, 0x00E#12, [],
    { hand .runChain .chain with fields := { (hand .runChain .chain).fields with writeIntent := true } }, 0, segment,
    ?_, ?_, ?_, ?_, ?_, ?_, ?_, ?_⟩, ⟨windingOff, 3, 0x016#12, [], hand .unload .none, ?_, ?_, ?_, ?_, ?_, ?_, ?_,
    ?_⟩⟩ <;>
    (repeat' first
      | decide +kernel
      | exact parameters_in_range
      | exact nothing_stale
      | unfold Room | unfold NothingDue | unfold SpeedFollows | unfold DriveLow | unfold WithinBounds
      | unfold DoorAndRange | unfold SettlesNow | unfold Serving
      | constructor
      | (intro x; cases x))

theorem witness_LineFaultsAreTaken :
    (∃ (s : State) (k : Fin 12) (x : Reel) (upper : Bool) (raw : BitVec 12) (_order : List (Fin 12)) (h : InHand),
      watching s = true ∧ LineChange k (.limit x upper) raw s ∧ (s.slu.lines.get k).level = false ∧ (s.slu.lines.get
      k).mode = .rising ∧ OutputLaw s ∧ s.tsq.state = .moving ∧ s.tsq.brake = false ∧ s.tsq.vacuum = true ∧
      s.tsq.inHand = some h ∧ (h.code = .space ∨ h.code = .runChain) ∧ s.fm.first = none ∧ Room 2 s) ∧
    (∃ (s : State) (k : Fin 12) (raw : BitVec 12) (_order : List (Fin 12)), watching s = true ∧ LineChange k
      .tapeInPath raw s ∧ (s.slu.lines.get k).level = true ∧ OutputLaw s ∧ s.tsq.state = .ready ∧ s.tsq.brake = false
      ∧ s.tsq.vacuum = true ∧ s.tsq.inHand = none ∧ s.fm.first = none ∧ Room 1 s) ∧
    (∃ (s : State) (k : Fin 12) (raw : BitVec 12) (_order : List (Fin 12)) (f : FaultKind), watching s = true ∧
      LineChange k .tapeInPath raw s ∧ (s.slu.lines.get k).level = true ∧ OutputLaw s ∧ s.tsq.state = .halting ∧
      s.tsq.brake = false ∧ s.tsq.vacuum = true ∧ s.tsq.inHand = none ∧ s.fm.first = some f ∧ f ≠ .tapeBreak ∧
      FaultKind.tapeBreak ∉ s.fm.later ∧ s.fm.later.length < 3 ∧ Room 1 s) ∧
    (∃ (s : State) (k : Fin 12) (x : Reel) (upper : Bool) (raw : BitVec 12) (_order : List (Fin 12)) (f : FaultKind),
      watching s = true ∧ LineChange k (.limit x upper) raw s ∧ (s.slu.lines.get k).level = false ∧ (s.slu.lines.get
      k).mode = .rising ∧ s.tsq.state = .fault ∧ s.tsq.vacuum = true ∧ s.tsq.inHand = none ∧ s.fm.first = some f ∧
      Room 1 s) ∧
    (∃ (s : State) (k : Fin 12) (raw : BitVec 12) (_order : List (Fin 12)) (h : InHand), watching s = true ∧
      LineChange k .doorClosed raw s ∧ (s.slu.lines.get k).level = true ∧ (s.slu.lines.get k).mode = .falling ∧
      OutputLaw s ∧ s.tsq.state = .moving ∧ s.tsq.brake = false ∧ s.tsq.vacuum = true ∧ s.tsq.inHand = some h ∧
      (h.code = .space ∨ h.code = .runChain) ∧ s.fm.first = none ∧ s.fm.doorCond = false ∧ Room 2 s) := by
  refine ⟨⟨moving, 0, .s, true, 0x01F#12, [], hand .space .space, ?_, ?_, ?_, ?_, ?_, ?_, ?_, ?_, ?_, ?_, ?_, ?_⟩,
    ⟨ready, 3, 0x016#12, [], ?_, ?_, ?_, ?_, ?_, ?_, ?_, ?_, ?_, ?_⟩,
    ⟨{ halting with fm := { halting.fm with later := [.doorOpen, .positionRange] } }, 3, 0x016#12, [],
    .capstanRunaway, ?_, ?_, ?_, ?_, ?_, ?_, ?_, ?_, ?_, ?_, ?_, ?_, ?_⟩,
    ⟨{ faulted .tapeBreak with fm := { (faulted .tapeBreak).fm with later := [.vacuumLoss, .sampleLoss, .columnLimit .s true], further := 255 } },
    0, .s, true, 0x01F#12, [], .tapeBreak, ?_, ?_, ?_, ?_, ?_, ?_, ?_, ?_, ?_⟩,
    ⟨{ moving with slu := { moving.slu with lines := moving.slu.lines.set 1 { deckLine .doorClosed true with mode := .falling } }, mg := { moving.mg with vt := 1 } },
    1, 0x01C#12, [], hand .space .space, ?_, ?_, ?_, ?_, ?_, ?_, ?_, ?_, ?_, ?_, ?_, ?_, ?_⟩⟩ <;>
    (repeat' first
      | decide +kernel
      | exact parameters_in_range
      | exact nothing_stale
      | unfold Room | unfold NothingDue | unfold SpeedFollows | unfold DriveLow | unfold WithinBounds
      | unfold DoorAndRange | unfold SettlesNow | unfold Serving
      | constructor
      | (intro x; cases x))

theorem witness_USideAccessesAreArbitrated :
    (∃ (s : State) (acc : Access), s.ptp.u = none ∧ (¬ ReadsProtected acc s) ∧ s.ptp.mSide = .free ∧ NoAgentWord s) ∧
    (∃ (s : State) (acc : Access), s.ptp.u = none ∧ (¬ ReadsProtected acc s) ∧ s.ptp.mSide ≠ .free) ∧
    (∃ (s : State) (acc : Access), s.ptp.u = none ∧ ReadsProtected acc s ∧ (s.ptp.mSide ≠ .free ∨ NoAgentWord s)) ∧
    (∃ (s : State) (acc : Access) (j : Job), s.ptp.u = none ∧ (¬ ReadsProtected acc s) ∧ s.ptp.mSide = .free ∧
      s.ma.job = some j ∧ j.waiting = true ∧ s.ptp.guard < 4) ∧
    (∃ (s : State) (acc : Access) (j : Job), s.ptp.u = none ∧ (¬ ReadsProtected acc s) ∧ s.ptp.mSide = .free ∧
      s.ma.job = some j ∧ j.waiting = true ∧ InProgress j ∧ 4 ≤ s.ptp.guard) ∧
    (∃ (s : State) (_acc acc' : Access), s.ptp.u = some (acc', .granted)) ∧
    (∃ (s : State) (_acc acc' : Access), (s.ptp.u = some (acc', .waiting) ∨ s.ptp.u = some (acc', .held))) := by
  refine ⟨⟨ready, ⟨0x0A00#24, 0xF#4, false, 0⟩, ?_, ?_, ?_, ?_⟩,
    ⟨{ ready with ptp := { ready.ptp with mSide := .agent ⟨0, 0xF#4, false, 0⟩ 32 } }, ⟨0x11FF#24, 0xF#4, false, 0⟩,
    ?_, ?_, ?_⟩, ⟨{ ready with ma := ⟨some { reportJob with waiting := false }⟩ }, ⟨0x11FF#24, 0xF#4, false, 0⟩, ?_,
    ?_, ?_⟩, ⟨{ ready with ma := ⟨some reportJob⟩, ptp := { ready.ptp with guard := 3 } }, ⟨0x11EF#24, 0xF#4, false,
    0⟩, reportJob, ?_, ?_, ?_, ?_, ?_, ?_⟩,
    ⟨{ ready with ma := ⟨some reportJob⟩, ptp := { ready.ptp with guard := 4 } }, ⟨0x1200#24, 0xF#4, false, 0⟩,
    reportJob, ?_, ?_, ?_, ?_, ?_, ?_, ?_⟩,
    ⟨{ ready with ptp := { ready.ptp with u := some (⟨0, 0xF#4, false, 0⟩, .granted), mSide := .forwarded ⟨0, 0xF#4, false, 0⟩ 32 } },
    ⟨0x11FF#24, 0xF#4, false, 0⟩, ⟨0, 0xF#4, false, 0⟩, ?_⟩,
    ⟨{ ready with ptp := { ready.ptp with u := some (⟨0, 0xF#4, false, 0⟩, .waiting), mSide := .agent ⟨0, 0xF#4, false, 0⟩ 32 } },
    ⟨0x11FF#24, 0xF#4, false, 0⟩, ⟨0, 0xF#4, false, 0⟩, ?_⟩⟩ <;>
    (repeat' first
      | decide +kernel)

theorem witness_ForwardedAccessesEnd :
    (∃ (s : State) (acc : Access) (n : Nat) (_data : Word), s.ptp.mSide = .forwarded acc n ∧ NothingDue s ∧ acc.write
      = false ∧ NoAgentWord s ∧ s.ptp.coming = none) ∧
    (∃ (s : State) (acc : Access) (n : Nat) (_data : Word), s.ptp.mSide = .forwarded acc n ∧ NothingDue s ∧ acc.write
      = true ∧ NoAgentWord s ∧ s.ptp.coming = none ∧ (∀ off : Fin 2048, AtOffset acc (4 * off.val) s → 640 ≤ off.val
      ∧ (off.val = 1152 ∨ off.val = 1153 → acc.be ≠ 0xF#4))) ∧
    (∃ (s : State) (acc : Access) (n : Nat) (_data : Word) (j : Job), s.ptp.mSide = .forwarded acc n ∧ NothingDue s ∧
      acc.write = false ∧ s.ma.job = some j ∧ j.waiting = true ∧ InProgress j ∧ s.ptp.coming = none) ∧
    (∃ (s : State) (acc : Access) (n : Nat) (_data : Word) (j : Fin 64) (k : Fin 7), s.ptp.mSide = .forwarded acc n ∧
      acc.write = true ∧ AtOffset acc (32 * j.val + 4 * k.val) s) ∧
    (∃ (s : State) (acc : Access) (n : Nat) (_data : Word) (j : Fin 64), s.ptp.mSide = .forwarded acc n ∧ acc.write =
      true ∧ AtOffset acc (32 * j.val + 28) s) ∧
    (∃ (s : State) (acc : Access) (n : Nat) (_data : Word) (i : Fin 32) (k : Fin 3), s.ptp.mSide = .forwarded acc n ∧
      acc.write = true ∧ AtOffset acc (0x0800 + 16 * i.val + 4 * k.val) s) ∧
    (∃ (s : State) (acc : Access) (n : Nat) (_data : Word) (i : Fin 32), s.ptp.mSide = .forwarded acc n ∧ acc.write =
      true ∧ AtOffset acc (0x0800 + 16 * i.val + 12) s) ∧
    (∃ (s : State) (acc : Access) (n : Nat) (_data : Word), s.ptp.mSide = .forwarded acc n ∧ acc.write = true ∧ acc.be
      = 0xF#4) ∧
    (∃ (s : State) (acc next : Access) (n : Nat) (_data : Word), s.ptp.mSide = .forwarded acc n ∧ NothingDue s ∧
      acc.write = false ∧ s.ptp.coming = some next ∧ (¬ ReadsProtected next s)) ∧
    (∃ (s : State) (acc next : Access) (n : Nat) (_data : Word) (j : Job), s.ptp.mSide = .forwarded acc n ∧ NothingDue
      s ∧ acc.write = false ∧ s.ptp.coming = some next ∧ ReadsProtected next s ∧ s.ma.job = some j ∧ j.waiting = true
      ∧ InProgress j) ∧
    (∃ (s : State) (acc : Access) (n : Nat) (answered : Bool) (c : Instr), s.ptp.mSide = .forwarded acc n ∧ acc.write
      = true ∧ s.ptp.coming = none ∧ EndsWrite acc answered s c) ∧
    (∃ (s : State) (acc next : Access) (n : Nat) (answered : Bool) (c : Instr), s.ptp.mSide = .forwarded acc n ∧
      acc.write = true ∧ s.ptp.coming = some next ∧ EndsWrite acc answered s c) ∧
    (∃ (s : State) (acc next : Access) (n : Nat) (_data : Word), s.ptp.mSide = .forwarded acc n ∧ NothingDue s ∧
      acc.write = true ∧ s.ptp.coming = some next ∧ (∀ off : Fin 2048, AtOffset acc (4 * off.val) s → 640 ≤ off.val ∧
      (off.val = 1152 ∨ off.val = 1153 → acc.be ≠ 0xF#4))) ∧
    (∃ (s : State) (acc : Access) (n : Nat) (_answered : Bool) (slot : Fin 64) (k : Fin 7), s.ptp.mSide = .forwarded
      acc n ∧ acc.write = true ∧ AtOffset acc (32 * slot.val + 4 * k.val) s ∧ watching s = true ∧ NothingDue s ∧
      s.ptp.coming = none ∧ NoAgentWord s) := by
  refine
    ⟨⟨{ ready with ptp := { ready.ptp with u := some (⟨0x0A00#24, 0xF#4, false, 0⟩, .granted), mSide := .forwarded ⟨0x0A00#24, 0xF#4, false, 0⟩ 32 } },
    ⟨0x0A00#24, 0xF#4, false, 0⟩, 32, 7, ?_, ?_, ?_, ?_, ?_⟩,
    ⟨{ ready with ptp := { ready.ptp with u := some (⟨0x1204#24, 7#4, true, 0⟩, .granted), mSide := .forwarded ⟨0x1204#24, 7#4, true, 0⟩ 32 } },
    ⟨0x1204#24, 7#4, true, 0⟩, 32, 7, ?_, ?_, ?_, ?_, ?_, ?_⟩,
    ⟨{ ready with ptp := { ready.ptp with u := some (⟨0x0A00#24, 0xF#4, false, 0⟩, .granted), mSide := .forwarded ⟨0x0A00#24, 0xF#4, false, 0⟩ 32 }, ma := ⟨some reportJob⟩ },
    ⟨0x0A00#24, 0xF#4, false, 0⟩, 32, 7, reportJob, ?_, ?_, ?_, ?_, ?_, ?_, ?_⟩,
    ⟨{ ready with ptp := { ready.ptp with u := some (⟨0x07F8#24, 0xF#4, true, 0⟩, .granted), mSide := .forwarded ⟨0x07F8#24, 0xF#4, true, 0⟩ 32 } },
    ⟨0x07F8#24, 0xF#4, true, 0⟩, 32, 7, 63, 6, ?_, ?_, ?_⟩,
    ⟨{ ready with ptp := { ready.ptp with u := some (⟨0x07FC#24, 0xF#4, true, 0⟩, .granted), mSide := .forwarded ⟨0x07FC#24, 0xF#4, true, 0⟩ 32 } },
    ⟨0x07FC#24, 0xF#4, true, 0⟩, 32, 7, 63, ?_, ?_, ?_⟩,
    ⟨{ ready with ptp := { ready.ptp with u := some (⟨0x09F8#24, 0xF#4, true, 0⟩, .granted), mSide := .forwarded ⟨0x09F8#24, 0xF#4, true, 0⟩ 32 } },
    ⟨0x09F8#24, 0xF#4, true, 0⟩, 32, 7, 31, 2, ?_, ?_, ?_⟩,
    ⟨{ ready with ptp := { ready.ptp with u := some (⟨0x09FC#24, 0xF#4, true, 0⟩, .granted), mSide := .forwarded ⟨0x09FC#24, 0xF#4, true, 0⟩ 32 } },
    ⟨0x09FC#24, 0xF#4, true, 0⟩, 32, 7, 31, ?_, ?_, ?_⟩,
    ⟨{ ready with ptp := { ready.ptp with u := some (⟨0x1204#24, 0xF#4, true, 0⟩, .granted), mSide := .forwarded ⟨0x1204#24, 0xF#4, true, 0⟩ 32 } },
    ⟨0x1204#24, 0xF#4, true, 0⟩, 32, 7, ?_, ?_, ?_⟩,
    ⟨{ ready with ptp := { ready.ptp with u := some (⟨0x0A00#24, 0xF#4, false, 0⟩, .granted), mSide := .forwarded ⟨0x0A00#24, 0xF#4, false, 0⟩ 32, coming := some ⟨0x11EF#24, 0xF#4, false, 0⟩, guard := 4 }, ma := ⟨some reportJob⟩ },
    ⟨0x0A00#24, 0xF#4, false, 0⟩, ⟨0x11EF#24, 0xF#4, false, 0⟩, 32, 7, ?_, ?_, ?_, ?_, ?_⟩,
    ⟨{ ready with ptp := { ready.ptp with u := some (⟨0x0A00#24, 0xF#4, false, 0⟩, .granted), mSide := .forwarded ⟨0x0A00#24, 0xF#4, false, 0⟩ 32, coming := some ⟨0x11FF#24, 0xF#4, false, 0⟩, guard := 4 }, ma := ⟨some reportJob⟩ },
    ⟨0x0A00#24, 0xF#4, false, 0⟩, ⟨0x11FF#24, 0xF#4, false, 0⟩, 32, 7, reportJob, ?_, ?_, ?_, ?_, ?_, ?_, ?_, ?_⟩,
    ⟨{ ready with ptp := { ready.ptp with u := some (⟨0x1204#24, 0xF#4, true, 0⟩, .granted), mSide := .forwarded ⟨0x1204#24, 0xF#4, true, 0⟩ 32 } },
    ⟨0x1204#24, 0xF#4, true, 0⟩, 32, false, .stopWord 0 false, ?_, ?_, ?_, ?_⟩,
    ⟨{ ready with ptp := { ready.ptp with u := some (⟨0x07FC#24, 0xF#4, true, 0x0500#32⟩, .granted), mSide := .forwarded ⟨0x07FC#24, 0xF#4, true, 0x0500#32⟩ 32, coming := some ⟨0x0A00#24, 0xF#4, false, 0⟩, starting := some .orderFetch }, oi := ⟨63, 0, [], .none⟩ },
    ⟨0x07FC#24, 0xF#4, true, 0x0500#32⟩, ⟨0x0A00#24, 0xF#4, false, 0⟩, 32, true, .orderPostWordWrite 63 0xF 0x0500#32
    true, ?_, ?_, ?_, ?_⟩,
    ⟨{ ready with ptp := { ready.ptp with u := some (⟨0x0A00#24, 0xF#4, true, 0⟩, .granted), mSide := .forwarded ⟨0x0A00#24, 0xF#4, true, 0⟩ 32, coming := some ⟨0x11F0#24, 0xF#4, false, 0⟩, starting := some .orderFetch }, ru := { ready.ru with snapDue := true } },
    ⟨0x0A00#24, 0xF#4, true, 0⟩, ⟨0x11F0#24, 0xF#4, false, 0⟩, 32, 7, ?_, ?_, ?_, ?_, ?_⟩,
    ⟨{ ready with ptp := { ready.ptp with u := some (⟨0x07F8#24, 0xF#4, true, 0⟩, .granted), mSide := .forwarded ⟨0x07F8#24, 0xF#4, true, 0⟩ 32 } },
    ⟨0x07F8#24, 0xF#4, true, 0⟩, 32, true, 63, 6, ?_, ?_, ?_, ?_, ?_, ?_, ?_⟩⟩ <;>
    (repeat' first
      | decide +kernel
      | exact parameters_in_range
      | exact nothing_stale
      | unfold Room | unfold NothingDue | unfold SpeedFollows | unfold DriveLow | unfold WithinBounds
      | unfold DoorAndRange | unfold SettlesNow | unfold Serving
      | constructor)

theorem witness_RecordWordsAreAssembled :
    (∃ (s : State) (_j : Fin 64) (_k : Fin 7) (_be : ByteEnables) (_data : Word) (_answered : Bool), Snooping s) ∧
    (∃ (s : State) (_i : Fin 32) (_k : Fin 3) (_be : ByteEnables) (_data : Word) (_answered : Bool), Snooping s) := by
  refine ⟨⟨ready, 63, 0, 0xF#4, 1, true, ?_⟩, ⟨ready, 31, 2, 1#4, 1, false, ?_⟩⟩ <;>
    (repeat' first
      | decide +kernel
      | exact parameters_in_range
      | exact nothing_stale
      | unfold Room | unfold NothingDue | unfold SpeedFollows | unfold DriveLow | unfold WithinBounds
      | unfold DoorAndRange | unfold SettlesNow | unfold Serving
      | constructor)

theorem witness_PostWordsComplete :
    (∃ (s : State) (_j : Fin 64) (be : ByteEnables) (data : Word) (_answered : Bool), Snooping s ∧ be.getLsbD 1 = true
      ∧ bits data 15 8 = 0) ∧
    (∃ (s : State) (j : Fin 64) (a : Assembly) (c : Code) (b : Body) (data : Word), Snooping s ∧ Completed a (.slot
      j) [b.w0, b.w1, b.w2, b.w3, b.w4, b.w5, b.w6] s ∧ bits data 15 8 = c.number ∧ bits data 7 0 % 64 = j.val) ∧
    (∃ (s : State) (j : Fin 64) (a : Assembly) (b : Body) (data : Word), Snooping s ∧ Completed a (.slot j) [b.w0,
      b.w1, b.w2, b.w3, b.w4, b.w5, b.w6] s ∧ bits data 15 8 ≠ 0 ∧ (∀ c : Code, bits data 15 8 ≠ c.number) ∧
      BitVec.ofNat 8 (bits data 7 0) = s.oi.expected ∧ s.oi.expected.toNat % 64 = j.val ∧ s.oi.fetch = .none ∧ Room 1
      s) ∧
    (∃ (s : State) (j : Fin 64) (be : ByteEnables) (data : Word) (answered : Bool), Snooping s ∧ (¬ (be.getLsbD 1 =
      true ∧ bits data 15 8 = 0)) ∧ (be ≠ 0xF#4 ∨ answered = false ∨ (∀ a ∈ s.ptp.bufs, a.target = .slot j → a.torn =
      true ∨ a.byWord0 = false ∨ ∃ k : Fin 7, a.words.get (k.castLE (by decide)) = none))) := by
  refine ⟨⟨ready, 63, 2#4, 0xFF#32, true, ?_, ?_, ?_⟩,
    ⟨{ ready with ptp := { ready.ptp with bufs := [⟨.slot 63, #v[some 1, some 0, some 0, some 0, some 0, some 0, some 0, none], true, false⟩] } },
    63, ⟨.slot 63, #v[some 1, some 0, some 0, some 0, some 0, some 0, some 0, none], true, false⟩, .space, ⟨1, 0, 0,
    0, 0, 0, 0⟩, 0x05FF#32, ?_, ?_, ?_, ?_⟩,
    ⟨{ ready with ptp := { ready.ptp with bufs := [⟨.slot 63, #v[some 1, some 0, some 0, some 0, some 0, some 0, some 0, none], true, false⟩] } },
    63, ⟨.slot 63, #v[some 1, some 0, some 0, some 0, some 0, some 0, some 0, none], true, false⟩, ⟨1, 0, 0, 0, 0, 0,
    0⟩, 0x0AFF#32, ?_, ?_, ?_, ?_, ?_, ?_, ?_, ?_⟩,
    ⟨{ ready with ptp := { ready.ptp with bufs := [⟨.slot 63, #v[some 1, some 0, some 0, some 0, some 0, some 0, some 0, none], true, false⟩] } },
    63, 0xE#4, 0x0500#32, true, ?_, ?_, ?_⟩⟩ <;>
    (repeat' first
      | decide +kernel
      | exact parameters_in_range
      | exact nothing_stale
      | unfold Room | unfold NothingDue | unfold SpeedFollows | unfold DriveLow | unfold WithinBounds
      | unfold DoorAndRange | unfold SettlesNow | unfold Serving
      | constructor
      | (intro x; cases x))

theorem witness_SegmentClosingsAreCaptured :
    (∃ (s : State) (i : Fin 32) (a : Assembly) (w0 w1 w2 _data : Word), Snooping s ∧ Completed a (.entry i) [w0, w1,
      w2] s ∧ i ∉ s.wk.inUse) ∧
    (∃ (s : State) (i : Fin 32) (_be : ByteEnables) (_data : Word) (_answered : Bool) (old : Segment), Snooping s ∧ i ∈
      s.wk.inUse ∧ (s.sc.entries.get i = .valid old ∨ s.sc.entries.get i = .stale old)) ∧
    (∃ (s : State) (i : Fin 32) (be : ByteEnables) (_data : Word) (answered : Bool), Snooping s ∧ i ∉ s.wk.inUse ∧ (be
      ≠ 0xF#4 ∨ answered = false ∨ (∀ a ∈ s.ptp.bufs, a.target ≠ .entry i))) := by
  refine
    ⟨⟨{ ready with ptp := { ready.ptp with bufs := [⟨.entry 31, #v[some 0, some 0, some 0, none, none, none, none, none], true, false⟩] } },
    31, ⟨.entry 31, #v[some 0, some 0, some 0, none, none, none, none, none], true, false⟩, 0, 0, 0, 2, ?_, ?_, ?_⟩,
    ⟨{ ready with wk := { ready.wk with inUse := [31] }, sc := { ready.sc with entries := ready.sc.entries.set 31 (.valid segment) } },
    31, 0xF#4, 0, true, segment, ?_, ?_, ?_⟩, ⟨{ ready with sc := { ready.sc with inFlight := some ⟨31, .none⟩ } },
    31, 0xF#4, 0, true, ?_, ?_, ?_⟩⟩ <;>
    (repeat' first
      | decide +kernel
      | exact parameters_in_range
      | exact nothing_stale
      | unfold Room | unfold NothingDue | unfold SpeedFollows | unfold DriveLow | unfold WithinBounds
      | unfold DoorAndRange | unfold SettlesNow | unfold Serving
      | constructor)

theorem witness_ReleasesMoveTheReadIndex :
    (∃ (s : State) (data : Word) (_answered : Bool), Snooping s ∧ ((if reportUnderWrite s = true then 127 else 128) <
      (s.ru.writeIdx - data.setWidth 8).toNat)) ∧
    (∃ (s : State) (data : Word) (_answered : Bool), Snooping s ∧ ((s.ru.writeIdx - data.setWidth 8).toNat ≤ (if
      reportUnderWrite s = true then 127 else 128))) := by
  refine ⟨⟨{ ready with ru := { ready.ru with writeIdx := 128 } }, 0xFF#32, true, ?_, ?_⟩,
    ⟨{ ready with ru := { ready.ru with writeIdx := 128, readIdx := 64 } }, 0#32, false, ?_, ?_⟩⟩ <;>
    (repeat' first
      | decide +kernel
      | exact parameters_in_range
      | exact nothing_stale
      | unfold Room | unfold NothingDue | unfold SpeedFollows | unfold DriveLow | unfold WithinBounds
      | unfold DoorAndRange | unfold SettlesNow | unfold Serving
      | constructor)

theorem witness_StopWordsStopAndFlush :
    (∃ (s : State) (data : Word) (_answered : Bool) (h : InHand), watching s = true ∧ forwarding s = false ∧ fetchDue
      s = false ∧ data.getLsbD 1 = false ∧ s.tsq.inHand = some h ∧ (s.tsq.state = .loadingSeek ∨ s.tsq.state =
      .moving ∨ s.tsq.state = .settling ∨ s.tsq.state = .rewindingFast ∨ s.tsq.state = .rewindingSearch ∨ s.tsq.state
      = .rewindingReturn ∨ s.tsq.state = .unloadingReturn)) ∧
    (∃ (s : State) (data : Word) (_answered : Bool), Snooping s ∧ data.getLsbD 1 = false ∧ (s.tsq.state = .ready ∨
      s.tsq.state = .unloaded ∨ s.tsq.state = .fault ∨ s.tsq.state = .halting)) ∧
    (∃ (s : State) (data : Word) (_answered : Bool) (h : InHand), Snooping s ∧ OutputLaw s ∧ data.getLsbD 1 = false ∧
      s.tsq.inHand = some h ∧ (h.code = .load ∨ h.code = .unload) ∧ (s.tsq.state = .loadingFill ∨ s.tsq.state =
      .unloadingWindOff) ∧ Room 1 s) ∧
    (∃ (s : State) (data : Word) (_answered : Bool), watching s = true ∧ forwarding s = false ∧ data.getLsbD 1 = true
      ∧ (s.tsq.state = .ready ∨ s.tsq.state = .unloaded ∨ s.tsq.state = .fault ∨ s.tsq.state = .halting) ∧ Room 1 s) ∧
    (∃ (s : State) (data : Word) (_answered : Bool) (h : InHand), watching s = true ∧ forwarding s = false ∧
      data.getLsbD 1 = true ∧ s.tsq.inHand = some h ∧ (s.tsq.state = .moving ∨ s.tsq.state = .settling) ∧ Room 1 s) ∧
    (∃ (s : State) (_o : ExpiryOrder) (m : Motion) (kind : StopKind), OnlyMotion
      { s with mg := { s.mg with pendStops := [] } } ∧ s.mg.pendStops = [kind] ∧ s.tsq.state = .moving ∧ s.mg.phase =
      .run ∧ s.mg.motion = some m ∧ s.mg.stopped = false ∧ s.mg.emergency = false ∧ s.mu.eot = none ∧ satFlag .s s =
      false ∧ satFlag .t s = false ∧
      (let a := if kind = StopKind.emergency then s.mc.params.emergencyAccel else s.mg.accel; 1 ≤ a ∧ a < s.mg.v)) ∧
    (∃ (s : State) (_o : ExpiryOrder) (kind : StopKind) (h : InHand), OnlyMotion
      { s with mg := { s.mg with pendStops := [] } } ∧ OutputLaw s ∧ s.mg.pendStops = [kind] ∧ s.tsq.inHand = some h
      ∧ h.stopping = true ∧ (h.code = .space ∨ h.code = .runChain) ∧ ((s.tsq.state = .settling ∧ ∃ boundary : Bool,
      s.mg.phase = .settle boundary) ∨ (s.tsq.state = .moving ∧ s.mg.phase = .hold)) ∧ (∀ (i : Fin 32) (copy :
      Segment), s.sc.entries.get i ≠ .stale copy) ∧ s.tsq.vacuum = true ∧ Room 1 s) := by
  refine ⟨⟨moving, 1#32, true, hand .space .space, ?_, ?_, ?_, ?_, ?_, ?_⟩, ⟨ready, 1#32, true, ?_, ?_, ?_⟩,
    ⟨windingOff, 1#32, true, hand .unload .none, ?_, ?_, ?_, ?_, ?_, ?_, ?_⟩, ⟨ready, 0x4203#32, true, ?_, ?_, ?_,
    ?_, ?_⟩, ⟨moving, 0x4202#32, true, hand .space .space, ?_, ?_, ?_, ?_, ?_, ?_⟩,
    ⟨{ moving with mg := { moving.mg with v := 9, vt := 9, pendStops := [.emergency] } }, ⟨false, false, false, []⟩,
    ⟨.space, true, 4, 25, true⟩, .emergency, ?_, ?_, ?_, ?_, ?_, ?_, ?_, ?_, ?_, ?_, ?_⟩,
    ⟨{ settling with mg := { settling.mg with pendStops := [.controlled] }, tsq := { settling.tsq with inHand := some { hand .space .space with stopping := true } } },
    ⟨false, false, false, []⟩, .controlled, { hand .space .space with stopping := true }, ?_, ?_, ?_, ?_, ?_, ?_, ?_,
    ?_, ?_, ?_⟩⟩ <;>
    (repeat' first
      | decide +kernel
      | exact parameters_in_range
      | exact nothing_stale
      | unfold Room | unfold NothingDue | unfold SpeedFollows | unfold DriveLow | unfold WithinBounds
      | unfold DoorAndRange | unfold SettlesNow | unfold Serving
      | constructor
      | (intro x; cases x))

theorem witness_LoadStartsTheFill :
    (∃ (s : State) (seq : Byte) (_b : Body), HeadFree seq s ∧ OutputLaw s ∧ s.mc.mode = .run ∧ s.tsq.state = .unloaded
      ∧ level .doorClosed s = true ∧ level .tapeInPath s = true) ∧
    (∃ (s : State) (seq : Byte) (_b : Body), HeadFree seq s ∧ s.mc.mode = .run ∧ s.tsq.state = .unloaded ∧ level
      .doorClosed s = false ∧ Room 1 s) ∧
    (∃ (s : State) (seq : Byte) (_b : Body), HeadFree seq s ∧ s.mc.mode = .run ∧ s.tsq.state = .unloaded ∧ level
      .doorClosed s = true ∧ level .tapeInPath s = false ∧ Room 1 s) := by
  refine ⟨⟨unloaded, 255, zeros, ?_, ?_, ?_, ?_, ?_, ?_⟩, ⟨lineLow 1 unloaded, 255, zeros, ?_, ?_, ?_, ?_, ?_⟩,
    ⟨lineLow 3 unloaded, 255, zeros, ?_, ?_, ?_, ?_, ?_, ?_⟩⟩ <;>
    (repeat' first
      | decide +kernel
      | exact parameters_in_range
      | exact nothing_stale
      | unfold Room | unfold NothingDue | unfold SpeedFollows | unfold DriveLow | unfold WithinBounds
      | unfold DoorAndRange | unfold SettlesNow | unfold Serving
      | constructor
      | (intro x; cases x))

theorem witness_RewindAndUnloadAreTaken :
    (∃ (s : State) (_unload : Bool) (seq : Byte) (_b : Body), HeadFree seq s ∧ ReadyAtRest s ∧ s.mc.mode = .run ∧
      s.tsq.referenced = true ∧ 0 < s.mu.p + s.mc.params.botMargin) ∧
    (∃ (s : State) (_unload : Bool) (seq : Byte) (_b : Body), HeadFree seq s ∧ ReadyAtRest s ∧ s.mc.mode = .run ∧
      (s.tsq.referenced = false ∨ s.mu.p + s.mc.params.botMargin ≤ 0)) ∧
    (∃ (s : State) (seq : Byte) (_b : Body), HeadFree seq s ∧ OutputLaw s ∧ s.mc.mode = .run ∧ s.tsq.state = .fault ∧
      Room 1 s) ∧
    (∃ (s : State) (o : ExpiryOrder) (m : Motion) (h : InHand) (pos : Int) (c : Nat), OnlyMotion
      { s with mu := { s.mu with notices := [] } } ∧ s.mu.notices = [⟨.bot, pos⟩] ∧ newDirection s = false ∧
      s.tsq.state = .rewindingSearch ∧ s.mg.phase = .run ∧ s.mg.motion = some m ∧ s.mg.accel = m.accel ∧ s.mg.w = 0 ∧
      s.mu.eot = none ∧ s.wk.active = false ∧ s.tsq.inHand = some h ∧ h.leg = .searchReverse ∧ h.stopping = false ∧
      h.crossingSeen = false ∧ s.mc.params.mask.markCrossed = true ∧ Room 1 s ∧ (if o.crossingsFirst then 1 ≤ m.accel
      ∧ m.accel < s.mg.v ∧ c = s.mg.v - m.accel else Fits s.mg.v s.mg.accel (topSpeed m.ceiling s) 0 s.mg.r c ∧ 1 ≤
      c)) ∧
    (∃ (s : State) (o : ExpiryOrder) (m : Motion) (h : InHand) (pos : Int) (c : Nat), OnlyMotion
      { s with mu := { s.mu with notices := [] } } ∧ s.mu.notices = [⟨.bot, pos⟩] ∧ newDirection s = true ∧
      o.crossingsFirst = true ∧ s.tsq.state = .rewindingReturn ∧ s.mg.phase = .run ∧ s.mg.motion = some m ∧ m.forward
      = true ∧ s.mg.stopped = false ∧ s.wk.active = false ∧ s.tsq.inHand = some h ∧ h.leg = .searchForward ∧
      h.stopping = false ∧ h.crossingSeen = false ∧ s.mc.params.mask.markCrossed = true ∧ Room 1 s ∧
      (let x : Int := newP s - pos - s.mc.params.loadOffset; x < 33554431 ∧ -33554432 < x ∧ Fits s.mg.v s.mg.accel
      (topSpeed m.ceiling s) 0 (max (-x) (brakingDistance s.mg.accel 0 s.mg.v)) c) ∧ 1 ≤ c) ∧
    (∃ (s : State) (o : ExpiryOrder) (m : Motion) (h : InHand) (pos : Int) (c : Nat), OnlyMotion
      { s with mu := { s.mu with notices := [] } } ∧ s.mu.notices = [⟨.bot, pos⟩] ∧ newDirection s = true ∧
      o.crossingsFirst = false ∧ s.tsq.state = .rewindingReturn ∧ s.mg.phase = .run ∧ s.mg.motion = some m ∧
      m.forward = true ∧ s.mg.w = 0 ∧ s.mu.eot = none ∧ s.wk.active = false ∧ s.tsq.inHand = some h ∧ h.leg =
      .searchForward ∧ h.stopping = false ∧ h.crossingSeen = false ∧ s.mc.params.mask.markCrossed = true ∧ Room 1 s ∧
      (let x : Int := newP s - pos - s.mc.params.loadOffset; x < 33554431 ∧ -33554432 < x) ∧ Fits s.mg.v s.mg.accel
      (topSpeed m.ceiling s) 0 s.mg.r c ∧ 1 ≤ c) := by
  refine ⟨⟨{ ready with mu := { ready.mu with p := -1499 }, tsq := { ready.tsq with referenced := true } }, true,
    255, zeros, ?_, ?_, ?_, ?_, ?_⟩,
    ⟨{ ready with mu := { ready.mu with p := -1500 }, tsq := { ready.tsq with referenced := true } }, false, 255,
    zeros, ?_, ?_, ?_, ?_⟩, ⟨faulted .tapeBreak, 255, zeros, ?_, ?_, ?_, ?_, ?_⟩,
    ⟨{ moving with tsq := { moving.tsq with state := .rewindingSearch, inHand := some (hand .rewind .searchReverse) }, mg := { moving.mg with motion := some ⟨.search, false, 4, 4, false⟩, v := 5, vt := -5 }, mu := { moving.mu with accum := -1, notices := [⟨.bot, 0⟩] } },
    ⟨true, true, false, []⟩, ⟨.search, false, 4, 4, false⟩, hand .rewind .searchReverse, 0, 1, ?_, ?_, ?_, ?_, ?_,
    ?_, ?_, ?_, ?_, ?_, ?_, ?_, ?_, ?_, ?_, ?_, ?_⟩,
    ⟨{ moving with tsq := { moving.tsq with state := .rewindingReturn, inHand := some (hand .rewind .searchForward) }, mg := { moving.mg with motion := some ⟨.search, true, 4, 4, false⟩, v := 4, vt := 4 }, mu := { moving.mu with p := 1236, accum := 4, notices := [⟨.bot, 1239⟩] } },
    ⟨true, true, false, []⟩, ⟨.search, true, 4, 4, false⟩, hand .rewind .searchForward, 1239, 4, ?_, ?_, ?_, ?_, ?_,
    ?_, ?_, ?_, ?_, ?_, ?_, ?_, ?_, ?_, ?_, ?_, ?_, ?_⟩,
    ⟨{ moving with tsq := { moving.tsq with state := .rewindingReturn, inHand := some (hand .rewind .searchForward) }, mg := { moving.mg with motion := some ⟨.search, true, 4, 4, false⟩, v := 4, vt := 4 }, mu := { moving.mu with p := 1236, accum := 4, notices := [⟨.bot, 1239⟩] } },
    ⟨false, true, false, []⟩, ⟨.search, true, 4, 4, false⟩, hand .rewind .searchForward, 1239, 4, ?_, ?_, ?_, ?_, ?_,
    ?_, ?_, ?_, ?_, ?_, ?_, ?_, ?_, ?_, ?_, ?_, ?_, ?_, ?_, ?_⟩⟩ <;>
    (repeat' first
      | decide +kernel
      | exact parameters_in_range
      | exact nothing_stale
      | unfold Room | unfold NothingDue | unfold SpeedFollows | unfold DriveLow | unfold WithinBounds
      | unfold DoorAndRange | unfold SettlesNow | unfold Serving
      | constructor
      | (intro x; cases x))

theorem witness_RunChainEntersItsStart :
    (∃ (s : State) (seq : Byte) (b : Body) (i : Fin 32) (seg : Segment), HeadFree seq s ∧ ReadyAtRest s ∧ s.mc.mode =
      .run ∧ i.val = b.w1.toNat / 65536 % 32 ∧ s.sc.entries.get i = .valid seg ∧ seg.distance ≠ 0 ∧ seg.approach = 0
      ∧ (¬ (seg.reverse = true ∧ seg.write = true)) ∧ seg.last = true ∧ (b.w1.getLsbD 24 = false ∨ level .writeRing s
      = true)) ∧
    (∃ (s : State) (seq : Byte) (b : Body) (i : Fin 32) (seg n : Segment), HeadFree seq s ∧ ReadyAtRest s ∧ s.mc.mode
      = .run ∧ i.val = b.w1.toNat / 65536 % 32 ∧ s.sc.entries.get i = .valid seg ∧ seg.distance ≠ 0 ∧ seg.approach =
      0 ∧ (¬ (seg.reverse = true ∧ seg.write = true)) ∧ seg.last = false ∧ seg.flow = true ∧ s.sc.entries.get
      seg.next = .valid n ∧ n.reverse = seg.reverse ∧ (¬ (n.reverse = true ∧ n.write = true)) ∧ 1 ≤ seg.vmax ∧ 1 ≤
      n.vmax ∧ 1 ≤ s.mc.params.globalLimit ∧ (b.w1.getLsbD 24 = false ∨ level .writeRing s = true)) ∧
    (∃ (s : State) (seq : Byte) (b : Body) (i : Fin 32), HeadFree seq s ∧ ReadyAtRest s ∧ s.mc.mode = .run ∧ i.val =
      b.w1.toNat / 65536 % 32 ∧ s.sc.entries.get i = .invalid ∧ (b.w1.getLsbD 24 = false ∨ level .writeRing s =
      true)) ∧
    (∃ (s : State) (seq : Byte) (b : Body), HeadFree seq s ∧ s.mc.mode = .run ∧ s.tsq.state = .ready ∧ b.w1.getLsbD
      24 = true ∧ level .writeRing s = false ∧ Room 1 s) ∧
    (∃ (s : State) (_o : ExpiryOrder) (m : Motion) (h : InHand) (i : Fin 32) (seg : Segment), OnlyMotion s ∧
      s.tsq.state = .moving ∧ s.mg.phase = .hold ∧ s.mg.chainEnd = none ∧ s.mg.motion = some m ∧ s.tsq.inHand = some
      h ∧ s.wk.active = true ∧ s.wk.awaited = some i ∧ s.wk.approachReports = false ∧ (s.sc.entries.get i = .valid
      seg ∨ s.sc.entries.get i = .stale seg) ∧ seg.distance ≠ 0 ∧ (¬ (seg.reverse = true ∧ seg.write = true)) ∧
      seg.last = true) ∧
    (∃ (s : State) (_o : ExpiryOrder) (i : Fin 32), OnlyMotion s ∧ s.tsq.state = .moving ∧ s.mg.phase = .hold ∧
      s.mg.chainEnd = none ∧ s.wk.awaited = some i ∧ (s.sc.entries.get i = .invalid ∨ s.sc.entries.get i =
      .fetching)) ∧
    (∃ (s : State) (_o : ExpiryOrder) (h : InHand), OnlyMotion s ∧ OutputLaw s ∧ s.tsq.state = .moving ∧ s.tsq.vacuum
      = true ∧ s.mg.phase = .hold ∧ s.mg.chainEnd = some .segmentUnavailable ∧ s.tsq.inHand = some h ∧ h.leg = .chain
      ∧ h.code = .runChain ∧ h.stopping = false ∧ s.wk.active = true ∧ (∀ (k : Fin 32) (copy : Segment),
      s.sc.entries.get k ≠ .stale copy) ∧ Room 1 s) ∧
    (∃ (s : State) (seq : Byte) (b : Body) (i : Fin 32) (seg : Segment), HeadFree seq s ∧ ReadyAtRest s ∧ s.mc.mode =
      .run ∧ i.val = b.w1.toNat / 65536 % 32 ∧ s.sc.entries.get i = .valid seg ∧ seg.distance = 0 ∧ (¬ (seg.reverse =
      true ∧ seg.write = true)) ∧ seg.last = true ∧ Room 1 s ∧ s.mc.params.mask.segmentEmpty = true ∧ (b.w1.getLsbD
      24 = false ∨ level .writeRing s = true)) ∧
    (∃ (s : State) (_o : ExpiryOrder) (m : Motion) (i : Fin 32) (seg : Segment), OnlyMotion s ∧ s.tsq.state = .moving
      ∧ s.mg.phase = .hold ∧ s.mg.chainEnd = none ∧ s.mg.motion = some m ∧ s.wk.active = true ∧ s.wk.awaited = some i
      ∧ (s.sc.entries.get i = .valid seg ∨ s.sc.entries.get i = .stale seg) ∧ seg.distance = 0 ∧ (¬ (seg.reverse =
      true ∧ seg.write = true)) ∧ seg.last = false ∧ s.wk.visits + 1 ≠ 32 ∧ s.sc.entries.get seg.next = .invalid ∧
      Room 1 s ∧ s.mc.params.mask.segmentEmpty = true) := by
  refine ⟨⟨{ ready with sc := { ready.sc with entries := ready.sc.entries.set 31 (.valid segment) } }, 255, ⟨0,
    0x011F0000, 0, 0, 0, 0, 0⟩, 31, segment, ?_, ?_, ?_, ?_, ?_, ?_, ?_, ?_, ?_, ?_⟩,
    ⟨{ ready with sc := { ready.sc with entries := (ready.sc.entries.set 31 (.valid { segment with last := false, next := 30 })).set 30 (.valid segment) } },
    255, ⟨0, 0x011F0000, 0, 0, 0, 0, 0⟩, 31, { segment with last := false, next := 30 }, segment, ?_, ?_, ?_, ?_, ?_,
    ?_, ?_, ?_, ?_, ?_, ?_, ?_, ?_, ?_, ?_, ?_, ?_⟩, ⟨ready, 255, ⟨0, 0x011F0000, 0, 0, 0, 0, 0⟩, 31, ?_, ?_, ?_, ?_,
    ?_, ?_⟩, ⟨lineLow 4 ready, 255, ⟨0, 0x011F0000, 0, 0, 0, 0, 0⟩, ?_, ?_, ?_, ?_, ?_, ?_⟩,
    ⟨{ writing with mg := { Mg.reset with phase := .hold, motion := some ⟨.chain, true, 4, 25, true⟩ }, wk := { writing.wk with awaited := some 31 }, sc := { writing.sc with entries := writing.sc.entries.set 31 (.valid segment) } },
    ⟨false, false, false, []⟩, ⟨.chain, true, 4, 25, true⟩,
    { hand .runChain .chain with fields := { (hand .runChain .chain).fields with writeIntent := true } }, 31,
    segment, ?_, ?_, ?_, ?_, ?_, ?_, ?_, ?_, ?_, ?_, ?_, ?_, ?_⟩,
    ⟨{ writing with mg := { Mg.reset with phase := .hold, motion := some ⟨.chain, true, 4, 25, true⟩ }, wk := { writing.wk with awaited := some 31 } },
    ⟨false, false, false, []⟩, 31, ?_, ?_, ?_, ?_, ?_, ?_⟩,
    ⟨{ writing with mg := { Mg.reset with phase := .hold, motion := some ⟨.chain, true, 4, 25, true⟩, chainEnd := some .segmentUnavailable }, wk := { writing.wk with awaited := some 31 } },
    ⟨false, false, false, []⟩,
    { hand .runChain .chain with fields := { (hand .runChain .chain).fields with writeIntent := true } }, ?_, ?_, ?_,
    ?_, ?_, ?_, ?_, ?_, ?_, ?_, ?_, ?_, ?_⟩,
    ⟨{ ready with sc := { ready.sc with entries := ready.sc.entries.set 31 (.valid { segment with distance := 0 }) } },
    255, ⟨0, 0x011F0000, 0, 0, 0, 0, 0⟩, 31, { segment with distance := 0 }, ?_, ?_, ?_, ?_, ?_, ?_, ?_, ?_, ?_, ?_,
    ?_⟩,
    ⟨{ writing with mg := { Mg.reset with phase := .hold, motion := some ⟨.chain, true, 4, 25, true⟩ }, wk := { writing.wk with awaited := some 31, visits := 30 }, sc := { writing.sc with entries := writing.sc.entries.set 31 (.valid { segment with distance := 0, last := false, next := 30 }) } },
    ⟨false, false, false, []⟩, ⟨.chain, true, 4, 25, true⟩, 31,
    { segment with distance := 0, last := false, next := 30 }, ?_, ?_, ?_, ?_, ?_, ?_, ?_, ?_, ?_, ?_, ?_, ?_, ?_,
    ?_, ?_⟩⟩ <;>
    (repeat' first
      | decide +kernel
      | exact parameters_in_range
      | exact nothing_stale
      | unfold Room | unfold NothingDue | unfold SpeedFollows | unfold DriveLow | unfold WithinBounds
      | unfold DoorAndRange | unfold SettlesNow | unfold Serving
      | constructor
      | (intro x; cases x))

theorem witness_SpaceStartsItsMotion :
    (∃ (s : State) (seq : Byte) (b : Body), HeadFree seq s ∧ ReadyAtRest s ∧ s.mc.mode = .run ∧ b.w0.toNat % 16777216
      ≠ 0) ∧
    (∃ (s : State) (seq : Byte) (b : Body), HeadFree seq s ∧ s.mc.mode = .run ∧ s.tsq.state = .ready ∧ b.w0.toNat %
      16777216 = 0 ∧ Room 1 s) := by
  refine ⟨⟨ready, 255, ⟨0xFFFFFF, 0x0301, 0, 0, 0, 0, 0⟩, ?_, ?_, ?_, ?_⟩, ⟨ready, 255, ⟨0xFF000000, 0, 0, 0, 0, 0,
    0⟩, ?_, ?_, ?_, ?_, ?_⟩⟩ <;>
    (repeat' first
      | decide +kernel
      | exact parameters_in_range
      | exact nothing_stale
      | unfold Room | unfold NothingDue | unfold SpeedFollows | unfold DriveLow | unfold WithinBounds
      | unfold DoorAndRange | unfold SettlesNow | unfold Serving
      | constructor
      | (intro x; cases x))

theorem witness_MarkersAnswerInOrder :
    (∃ (s : State) (seq : Byte) (_b : Body), HeadFree seq s ∧ s.mc.mode = .run ∧ Room 1 s) ∧
    (∃ (s : State) (seq : Byte) (_b : Body) (h : InHand), TakenDirectly seq s ∧ s.tsq.inHand = some h) ∧
    (∃ (h : InHand) (s : State) (seq : Byte) (b : Body) (_o : ExpiryOrder), FinalSettle h s ∧ s.mc.mode = .run ∧
      s.oi.queue = [⟨seq, .marker, b⟩] ∧ fetchDue s = false ∧ Room 2 s ∧ SettlesNow s) ∧
    (∃ (h : InHand) (s : State) (seq : Byte) (b : Body) (_o : ExpiryOrder), watching s = true ∧ s.tsq.inHand = some h
      ∧ s.oi.queue = [⟨seq, .marker, b⟩]) := by
  refine ⟨⟨faulted .tapeBreak, 255, zeros, ?_, ?_, ?_⟩,
    ⟨{ moving with oi := { moving.oi with queue := List.replicate 7 ⟨0, .marker, zeros⟩ } }, 255, zeros, hand .space
    .space, ?_, ?_⟩, ⟨hand .space .space,
    { settling with mg := { settling.mg with settle := ⟨-4, 3, 10⟩ }, oi := { settling.oi with queue := [⟨254, .marker, zeros⟩] } },
    254, zeros, ⟨false, false, false, []⟩, ?_, ?_, ?_, ?_, ?_, ?_⟩, ⟨hand .space .space,
    { settling with oi := { settling.oi with queue := [⟨254, .marker, zeros⟩] } }, 254, zeros, ⟨false, false, false,
    []⟩, ?_, ?_, ?_⟩⟩ <;>
    (repeat' first
      | decide +kernel
      | exact parameters_in_range
      | exact nothing_stale
      | unfold Room | unfold NothingDue | unfold SpeedFollows | unfold DriveLow | unfold WithinBounds
      | unfold DoorAndRange | unfold SettlesNow | unfold Serving
      | constructor
      | (intro x; cases x))

theorem witness_ClearFaultChoosesTheState :
    (∃ (s : State) (seq : Byte) (_b : Body) (f : FaultKind) (p : PerReel (BitVec 10)), HeadFree seq s ∧ s.mc.mode =
      .run ∧ s.tsq.state = .fault ∧ s.fm.first = some f ∧ (∀ k ∈ f :: s.fm.later, persists s k = false) ∧
      s.tsq.vacuum = true ∧ s.mu.pair = some p ∧ s.mu.missCount < 3 ∧ (∀ x : Reel, InBand x (p.get x).toNat s) ∧ Room
      2 s) ∧
    (∃ (s : State) (seq : Byte) (_b : Body) (f : FaultKind), HeadFree seq s ∧ OutputLaw s ∧ s.mc.mode = .run ∧
      s.tsq.state = .fault ∧ s.fm.first = some f ∧ (∀ k ∈ f :: s.fm.later, persists s k = false) ∧ (s.tsq.vacuum =
      false ∨ s.mu.pair = none ∨ 3 ≤ s.mu.missCount ∨ (∃ x : Reel, ∀ p : PerReel (BitVec 10), s.mu.pair = some p → ¬
      InBand x (p.get x).toNat s)) ∧ Room 2 s) ∧
    (∃ (s : State) (seq : Byte) (_b : Body) (f k : FaultKind) (before after : List FaultKind), HeadFree seq s ∧
      s.mc.mode = .run ∧ s.tsq.state = .fault ∧ s.fm.first = some f ∧ f :: s.fm.later = before ++ k :: after ∧ (∀ x ∈
      before, persists s x = false) ∧ persists s k = true ∧ Room 1 s) := by
  refine
    ⟨⟨{ faulted .capstanRunaway with mu := { (faulted .capstanRunaway).mu with pair := some ⟨416#10, 608#10⟩, missCount := 2 }, fm := { (faulted .capstanRunaway).fm with later := [.sampleLoss], further := 1 } },
    255, zeros, .capstanRunaway, ⟨416#10, 608#10⟩, ?_, ?_, ?_, ?_, ?_, ?_, ?_, ?_, ?_, ?_⟩,
    ⟨{ faulted .capstanRunaway with mu := { (faulted .capstanRunaway).mu with missCount := 3 } }, 255, zeros,
    .capstanRunaway, ?_, ?_, ?_, ?_, ?_, ?_, ?_, ?_⟩, ⟨lineLow 1
    { faulted .capstanRunaway with fm := { (faulted .capstanRunaway).fm with later := [.doorOpen] } }, 255, zeros,
    .capstanRunaway, .doorOpen, [.capstanRunaway], [], ?_, ?_, ?_, ?_, ?_, ?_, ?_, ?_⟩⟩ <;>
    (repeat' first
      | decide +kernel
      | exact parameters_in_range
      | exact nothing_stale
      | unfold Room | unfold NothingDue | unfold SpeedFollows | unfold DriveLow | unfold WithinBounds
      | unfold DoorAndRange | unfold SettlesNow | unfold Serving
      | exact .inr (.inr (.inl (by decide +kernel)))
      | constructor
      | (intro x; cases x))

theorem witness_ReturnToSetupCompletes :
    (∃ (s : State) (seq : Byte) (_b : Body), HeadFree seq s ∧ s.mc.mode = .run ∧ (s.tsq.state = .ready ∨ s.tsq.state =
      .unloaded) ∧ Room 1 s) ∧
    (∃ (s : State) (seq : Byte) (_b : Body), HeadFree seq s ∧ s.mc.mode = .setup ∧ Room 1 s) := by
  refine ⟨⟨ready, 255, zeros, ?_, ?_, ?_, ?_⟩, ⟨inSetup ready, 255, zeros, ?_, ?_, ?_⟩⟩ <;>
    (repeat' first
      | decide +kernel
      | exact parameters_in_range
      | exact nothing_stale
      | unfold Room | unfold NothingDue | unfold SpeedFollows | unfold DriveLow | unfold WithinBounds
      | unfold DoorAndRange | unfold SettlesNow | unfold Serving
      | constructor)

theorem witness_TransportResetStartsAfresh :
    ∃ (s : State) (seq : Byte) (_b : Body), HeadFree seq s ∧ s.mc.mode = .run ∧ s.wk.active = false ∧ Room 1 s := by
  refine ⟨faulted .tapeBreak, 255, zeros, ?_, ?_, ?_, ?_⟩ <;>
    (repeat' first
      | decide +kernel
      | exact parameters_in_range
      | exact nothing_stale
      | unfold Room | unfold NothingDue | unfold SpeedFollows | unfold DriveLow | unfold WithinBounds
      | unfold DoorAndRange | unfold SettlesNow | unfold Serving
      | constructor)

theorem witness_RecordsAreRefusedByModeAndState :
    (∃ (s : State) (c : Code) (seq : Byte) (_b : Body), HeadFree seq s ∧ s.mc.mode = .run ∧ ((c = .load ∧ s.tsq.state
      ≠ .unloaded) ∨ (c = .unload ∧ s.tsq.state = .unloaded) ∨ ((c = .rewind ∨ c = .runChain ∨ c = .space) ∧
      s.tsq.state ≠ .ready) ∨ (c = .clearFault ∧ s.tsq.state ≠ .fault) ∨ (c = .returnToSetup ∧ s.tsq.state = .fault))
      ∧ Room 1 s) ∧
    (∃ (s : State) (c : Code) (seq : Byte) (_b : Body), HeadFree seq s ∧ s.mc.mode = .setup ∧ c.number < 16 ∧ c ≠
      .returnToSetup ∧ Room 1 s) ∧
    (∃ (s : State) (c : Code) (seq : Byte) (_b : Body), HeadFree seq s ∧ s.mc.mode = .run ∧ 16 ≤ c.number ∧ Room 1 s) := by
  refine ⟨⟨ready, .load, 255, zeros, ?_, ?_, ?_, ?_⟩, ⟨inSetup ready, .transportReset, 255, zeros, ?_, ?_, ?_, ?_,
    ?_⟩, ⟨ready, .setReelGains, 255, zeros, ?_, ?_, ?_, ?_⟩⟩ <;>
    (repeat' first
      | decide +kernel
      | exact parameters_in_range
      | exact nothing_stale
      | unfold Room | unfold NothingDue | unfold SpeedFollows | unfold DriveLow | unfold WithinBounds
      | unfold DoorAndRange | unfold SettlesNow | unfold Serving
      | constructor)

theorem witness_ParameterRecordsSetTheirGroups :
    (∃ (s : State) (seq : Byte) (_b : Body), HeadFree seq s ∧ s.mc.mode = .setup ∧ Room 1 s) ∧
    (∃ (s : State) (seq : Byte) (_b : Body), HeadFree seq s ∧ s.mc.mode = .setup ∧ Room 1 s) ∧
    (∃ (s : State) (seq : Byte) (_b : Body), HeadFree seq s ∧ s.mc.mode = .setup ∧ Room 1 s) ∧
    (∃ (s : State) (seq : Byte) (_b : Body), HeadFree seq s ∧ s.mc.mode = .setup ∧ Room 1 s) ∧
    (∃ (s : State) (seq : Byte) (_b : Body), HeadFree seq s ∧ s.mc.mode = .setup ∧ Room 1 s) := by
  refine ⟨⟨inSetup ready, 255, ⟨0xFFFFFFFF, 0xFFFFFFFF, 0xFFFFFFFF, 0xFFFFFFFF, 0xFFFFFFFF, 0, 0⟩, ?_, ?_, ?_⟩,
    ⟨inSetup ready, 255, ⟨0xFFFFFFFF, 0xFFFFFFFF, 0xFFFFFFFF, 0xFFFFFFFF, 0xFFFFFFFF, 0, 0⟩, ?_, ?_, ?_⟩, ⟨inSetup
    ready, 255, ⟨0xFFFFFFFF, 0xFFFFFFFF, 0xFFFFFFFF, 0xFFFFFFFF, 0xFFFFFFFF, 0, 0⟩, ?_, ?_, ?_⟩, ⟨inSetup ready, 255,
    ⟨0xFFFFFFFF, 0xFFFFFFFF, 0xFFFFFFFF, 0xFFFFFFFF, 0xFFFFFFFF, 0, 0⟩, ?_, ?_, ?_⟩, ⟨inSetup ready, 255,
    ⟨0xFFFFFFFF, 0xFFFFFFFF, 0xFFFFFFFF, 0xFFFFFFFF, 0xFFFFFFFF, 0, 0⟩, ?_, ?_, ?_⟩⟩ <;>
    (repeat' first
      | decide +kernel
      | exact parameters_in_range
      | exact nothing_stale
      | unfold Room | unfold NothingDue | unfold SpeedFollows | unfold DriveLow | unfold WithinBounds
      | unfold DoorAndRange | unfold SettlesNow | unfold Serving
      | constructor)

theorem witness_SetColumnsTestsTheBands :
    ∃ (s : State) (seq : Byte) (_b : Body), HeadFree seq s ∧ s.mc.mode = .setup ∧ Room 1 s := by
  refine ⟨inSetup ready, 255, ⟨0xFFFFFFFF, 0xFFFFFFFF, 0xFFFFFFFF, 0xFFFFFFFF, 0xFFFFFFFF, 0, 0⟩, ?_, ?_, ?_⟩ <;>
    (repeat' first
      | decide +kernel
      | exact parameters_in_range
      | exact nothing_stale
      | unfold Room | unfold NothingDue | unfold SpeedFollows | unfold DriveLow | unfold WithinBounds
      | unfold DoorAndRange | unfold SettlesNow | unfold Serving
      | constructor)

theorem witness_SetSenseLineIsChecked :
    (∃ (s : State) (seq : Byte) (b : Body), HeadFree seq s ∧ s.mc.mode = .setup ∧ Room 1 s ∧ (11 < bits b.w0 3 0 ∨ 10
      < bits b.w0 11 8 ∨ 4 < bits b.w0 18 16)) ∧
    (∃ (s : State) (seq : Byte) (b : Body) (f : Func) (j k : Fin 12), HeadFree seq s ∧ s.mc.mode = .setup ∧ Room 1 s
      ∧ bits b.w0 3 0 = k.val ∧ bits b.w0 11 8 = f.number ∧ bits b.w0 18 16 ≤ 4 ∧ f ≠ .none ∧ (∀ i : Fin 12, i ≠ k →
      ((s.slu.lines.get i).func = f ↔ i = j)) ∧ j ≠ k) ∧
    (∃ (s : State) (seq : Byte) (b : Body) (f : Func) (m : LineMode) (k : Fin 12), HeadFree seq s ∧ s.mc.mode =
      .setup ∧ bits b.w0 3 0 = k.val ∧ bits b.w0 11 8 = f.number ∧ (bits b.w0 18 16 =
      (match m with | .rising => 0 | .falling => 1 | .both => 2 | .high => 3 | .low => 4)) ∧ (∀ i : Fin 12, i ≠ k → f
      ≠ .none → (s.slu.lines.get i).func ≠ f)) ∧
    (∃ (s : State) (seq : Byte) (b : Body) (f : Func) (m : LineMode) (k : Fin 12), HeadFree seq s ∧ s.mc.mode =
      .setup ∧ Room 1 s ∧ bits b.w0 3 0 = k.val ∧ bits b.w0 11 8 = f.number ∧ (bits b.w0 18 16 =
      (match m with | .rising => 0 | .falling => 1 | .both => 2 | .high => 3 | .low => 4)) ∧ (∀ i : Fin 12, i ≠ k → f
      ≠ .none → (s.slu.lines.get i).func ≠ f) ∧ (∀ i : Fin 12, i ≠ k → (s.slu.lines.get k).func ≠ .none →
      (s.slu.lines.get i).func ≠ (s.slu.lines.get k).func) ∧ ((s.slu.lines.get k).func = .none ∨ (s.slu.lines.get
      k).func = f ∨ (s.slu.lines.get k).level = (s.slu.lines.get k).func.unassignedLevel) ∧ (f = .none ∨
      ((s.inputs.headD s.slu.raw).getLsbD k.val != b.w0.getLsbD 24) = level f s)) := by
  refine ⟨⟨inSetup ready, 255, ⟨12, 0, 0, 0, 0, 0, 0⟩, ?_, ?_, ?_, ?_⟩, ⟨inSetup ready, 255, ⟨0x0004080B, 0, 0, 0, 0,
    0, 0⟩, .doorClosed, 1, 11, ?_, ?_, ?_, ?_, ?_, ?_, ?_, ?_, ?_⟩, ⟨{ inSetup ready with inputs := [0x81E] }, 255,
    ⟨0x7004060B, 0, 0, 0, 0, 0, 0⟩, .eotMark, .low, 11, ?_, ?_, ?_, ?_, ?_, ?_⟩, ⟨inSetup ready, 255, ⟨0x7003000B, 0,
    0, 0, 0, 0, 0⟩, .none, .high, 11, ?_, ?_, ?_, ?_, ?_, ?_, ?_, ?_, ?_, ?_⟩⟩ <;>
    (repeat' first
      | decide +kernel
      | exact parameters_in_range
      | exact nothing_stale
      | unfold Room | unfold NothingDue | unfold SpeedFollows | unfold DriveLow | unfold WithinBounds
      | unfold DoorAndRange | unfold SettlesNow | unfold Serving
      | constructor)

theorem witness_SetReportingTakesEffect :
    ∃ (s : State) (seq : Byte) (_b : Body), HeadFree seq s ∧ s.mc.mode = .setup ∧ Room 1 s := by
  refine ⟨inSetup ready, 255, ⟨0xFFFFFFFF, 0xFFFFFFFF, 0xFFFFFFFF, 0xFFFFFFFF, 0xFFFFFFFF, 0, 0⟩, ?_, ?_, ?_⟩ <;>
    (repeat' first
      | decide +kernel
      | exact parameters_in_range
      | exact nothing_stale
      | unfold Room | unfold NothingDue | unfold SpeedFollows | unfold DriveLow | unfold WithinBounds
      | unfold DoorAndRange | unfold SettlesNow | unfold Serving
      | constructor)

theorem witness_EnterRunChangesTheMode :
    (∃ (s : State) (seq : Byte) (_b : Body), HeadFree seq s ∧ s.mc.mode = .setup ∧ Room 1 s) ∧
    (∃ (s t : State) (seq : Byte) (_c : Code) (b _b' : Body), HeadFree seq s ∧ s.mc.mode = .setup ∧ Room 1 s ∧ exec
      (.enterRun seq b) s = .next t ∧ HeadFree (seq + 1) t ∧ Room 1 t) ∧
    (∃ (s : State) (seq : Byte) (_b : Body), HeadFree seq s ∧ s.mc.mode = .run ∧ Room 1 s) := by
  refine ⟨⟨inSetup ready, 255, zeros, ?_, ?_, ?_⟩, ⟨inSetup ready, _, 255, .marker, zeros, zeros, ?_, ?_, ?_, rfl,
    ?_, ?_⟩, ⟨ready, 255, zeros, ?_, ?_, ?_⟩⟩ <;>
    (repeat' first
      | decide +kernel
      | exact parameters_in_range
      | exact nothing_stale
      | unfold Room | unfold NothingDue | unfold SpeedFollows | unfold DriveLow | unfold WithinBounds
      | unfold DoorAndRange | unfold SettlesNow | unfold Serving
      | constructor)

theorem witness_RecordsWaitTheirTurn :
    (∃ (s : State) (_c : Code) (seq : Byte) (_b : Body) (h : InHand), TakenDirectly seq s ∧ s.tsq.inHand = some h) ∧
    (∃ (s : State) (_c : Code) (_seq : Byte) (_b : Body) (h : InHand), watching s = true ∧ s.tsq.inHand = some h ∧ 8 ≤
      s.oi.queue.length ∧ s.oi.fetch = .none) ∧
    (∃ (s : State) (_c : Code) (seq : Byte) (_b : Body), watching s = true ∧ NothingDue s ∧ s.oi.fetch = .none ∧
      seqSlot seq ≠ seqSlot s.oi.expected) ∧
    (∃ (s : State) (_c : Code) (seq : Byte) (_b : Body) (reseen : Bool), watching s = true ∧ NothingDue s ∧ s.oi.fetch
      = .inFlight (seqSlot seq) reseen false) ∧
    (∃ (s : State) (_c : Code) (seq : Byte) (_b : Body), watching s = true ∧ NothingDue s ∧ s.oi.fetch = .none ∧
      seqSlot seq = seqSlot s.oi.expected ∧ seq ≠ s.oi.expected ∧ Room 1 s) ∧
    (∃ (s : State) (_c : Code) (_seq : Byte) (_b : Body), watching s = false) := by
  refine ⟨⟨{ moving with oi := { moving.oi with queue := List.replicate 7 ⟨0, .marker, zeros⟩ } }, .space, 255,
    zeros, hand .space .space, ?_, ?_⟩,
    ⟨{ moving with oi := { moving.oi with queue := List.replicate 8 ⟨0, .marker, zeros⟩ } }, .space, 255, zeros, hand
    .space .space, ?_, ?_, ?_, ?_⟩, ⟨ready, .space, 0, zeros, ?_, ?_, ?_, ?_⟩,
    ⟨{ ready with oi := { ready.oi with fetch := .inFlight 63 false false } }, .space, 255, zeros, false, ?_, ?_,
    ?_⟩, ⟨ready, .space, 63, zeros, ?_, ?_, ?_, ?_, ?_, ?_⟩, ⟨State.reset, .space, 0, zeros, ?_⟩⟩ <;>
    (repeat' first
      | decide +kernel
      | exact parameters_in_range
      | exact nothing_stale
      | unfold Room | unfold NothingDue | unfold SpeedFollows | unfold DriveLow | unfold WithinBounds
      | unfold DoorAndRange | unfold SettlesNow | unfold Serving
      | constructor)

theorem witness_JobsStartInOrder :
    (∃ (s : State) (r : Report) (rest : List Report), s.ma.job = none ∧ s.ru.pendingReports = r :: rest ∧
      (s.ru.writeIdx - s.ru.readIdx).toNat < 128) ∧
    (∃ (s : State) (i : Fin 64), s.ma.job = none ∧ s.oi.fetch = .ordered i) ∧
    (∃ (s : State) (i : Fin 32) (rest : List (Fin 32)), s.ma.job = none ∧ s.sc.fetchList = i :: rest ∧ s.sc.inFlight
      = none) ∧
    (∃ s : State, s.ma.job = none ∧ s.ru.snapDue = true) ∧
    (∃ s : State, (s.ma.job ≠ none ∨ ¬ ReportReady s) ∧ (¬ KeepsStarts s)) ∧
    (∃ s : State, (s.ma.job ≠ none ∨ ¬ OrderReady s) ∧ (¬ KeepsStarts s)) ∧
    (∃ s : State, (s.ma.job ≠ none ∨ ¬ SegmentReady s) ∧ (¬ KeepsStarts s)) ∧
    (∃ s : State, (s.ma.job ≠ none ∨ s.ru.snapDue = false) ∧ (¬ KeepsStarts s)) ∧
    (∃ (s : State) (k : AgentJob), KeepsStarts s ∧ (¬ CanStart k s)) := by
  refine
    ⟨⟨{ { ready with ru := { ready.ru with pendingReports := [said], writeIdx := 127 } } with ptp := { ready.ptp with u := some (⟨0x11EF#24, 0xF#4, false, 0⟩, .waiting), guard := 4 } },
    said, [], ?_, ?_, ?_⟩, ⟨{ ready with oi := { ready.oi with fetch := .ordered 63 } }, 63, ?_, ?_⟩,
    ⟨{ ready with sc := { ready.sc with fetchList := [31] } }, 31, [], ?_, ?_, ?_⟩,
    ⟨{ ready with ru := { ready.ru with snapDue := true } }, ?_, ?_⟩,
    ⟨{ ready with ru := { ready.ru with pendingReports := [said], writeIdx := 128 } }, ?_, ?_⟩,
    ⟨{ ready with ma := ⟨some reportJob⟩, oi := { ready.oi with fetch := .ordered 63 } }, ?_, ?_⟩,
    ⟨{ ready with sc := { ready.sc with fetchList := [31], inFlight := some ⟨0, .discard⟩ } }, ?_, ?_⟩, ⟨ready, ?_,
    ?_⟩,
    ⟨{ ready with ptp := { ready.ptp with u := some (⟨0x07FC#24, 0xF#4, true, 0x0500#32⟩, .granted), mSide := .forwarded ⟨0x07FC#24, 0xF#4, true, 0x0500#32⟩ 32, coming := some ⟨0x0A00#24, 0xF#4, false, 0⟩, starting := some .orderFetch }, oi := ⟨63, 0, [], .none⟩ },
    .orderFetch, ?_, ?_⟩⟩ <;>
    (repeat' first
      | decide +kernel)

theorem witness_AgentWordsEnd :
    (∃ (s : State) (a : Access) (n : Nat) (j : Job) (_data : Word), s.ptp.mSide = .agent a n ∧ s.ma.job = some j ∧
      j.pos + 1 < (wordsInOrder j.kind).length ∧ NothingDue s ∧ s.ptp.u = none) ∧
    (∃ (s : State) (a acc : Access) (n : Nat) (j : Job) (_data : Word), s.ptp.mSide = .agent a n ∧ s.ma.job = some j ∧
      j.pos + 1 < (wordsInOrder j.kind).length ∧ NothingDue s ∧ s.ptp.u = some (acc, .waiting) ∧ s.ptp.guard < 4) ∧
    (∃ (s : State) (a acc : Access) (n : Nat) (j : Job) (_data : Word), s.ptp.mSide = .agent a n ∧ s.ma.job = some j ∧
      j.pos + 1 < (wordsInOrder j.kind).length ∧ NothingDue s ∧ (s.ptp.u = some (acc, .held) ∨ (s.ptp.u = some (acc,
      .waiting) ∧ 4 ≤ s.ptp.guard))) ∧
    (∃ (s : State) (a : Access) (n : Nat) (slot : Fin 128) (r : Report) (seq : BitVec 16) (loss : Nat) (out got :
      List Word) (waiting : Bool) (_data : Word), s.ptp.mSide = .agent a n ∧ s.ma.job = some ⟨.reportWrite slot r seq
      loss, 3, waiting, out, got⟩ ∧ NothingDue s) ∧
    (∃ (s : State) (a : Access) (n : Nat) (out got : List Word) (waiting : Bool) (_data : Word), s.ptp.mSide = .agent
      a n ∧ s.ma.job = some ⟨.snapshotWrite, 3, waiting, out, got⟩ ∧ NothingDue s) ∧
    (∃ (s : State) (a : Access) (n : Nat) (j : Fin 64) (b : Body) (waiting reseen cancelled : Bool) (out : List Word)
      (_data : Word), s.ptp.mSide = .agent a n ∧ s.ma.job = some ⟨.orderFetch j, 7, waiting, out, [b.w0, b.w1, b.w2,
      b.w3, b.w4, b.w5, b.w6]⟩ ∧ s.oi.fetch = .inFlight j reseen cancelled ∧ (cancelled = false → j = seqSlot
      s.oi.expected) ∧ s.oi.queue.length < 8 ∧ (s.oi.queue = [] ∨ s.tsq.inHand.isSome = true)) ∧
    (∃ (s : State) (a : Access) (n : Nat) (c : Code) (b : Body) (waiting : Bool) (out : List Word) (data : Word),
      s.ptp.mSide = .agent a n ∧ watching s = true ∧ s.ma.job = some ⟨.orderFetch (seqSlot s.oi.expected), 7,
      waiting, out, [b.w0, b.w1, b.w2, b.w3, b.w4, b.w5, b.w6]⟩ ∧ s.oi.fetch = .inFlight (seqSlot s.oi.expected)
      false false ∧ s.oi.queue.length < 8 ∧ bits data 15 8 = c.number ∧ BitVec.ofNat 8 (bits data 7 0) =
      s.oi.expected) ∧
    (∃ (s : State) (a : Access) (n : Nat) (i : Fin 32) (mark : FetchMark) (waiting : Bool) (out : List Word) (w0 w1
      w2 _data : Word), s.ptp.mSide = .agent a n ∧ s.ma.job = some ⟨.segmentFetch i, 3, waiting, out, [w0, w1, w2]⟩ ∧
      s.sc.inFlight = some ⟨i, mark⟩ ∧ NothingDue s) := by
  refine
    ⟨⟨{ ready with ptp := { ready.ptp with mSide := .agent ⟨0, 0xF#4, false, 0⟩ 32, u := none, guard := 0 }, ma := ⟨some ⟨.snapshotWrite, 2, false, [], []⟩⟩ },
    ⟨0, 0xF#4, false, 0⟩, 32, ⟨.snapshotWrite, 2, false, [], []⟩, 0, ?_, ?_, ?_, ?_, ?_⟩,
    ⟨{ ready with ptp := { ready.ptp with mSide := .agent ⟨0, 0xF#4, false, 0⟩ 32, u := some (⟨0, 0xF#4, false, 0⟩, .waiting), guard := 3 }, ma := ⟨some ⟨.orderFetch 63, 6, false, [], []⟩⟩ },
    ⟨0, 0xF#4, false, 0⟩, ⟨0, 0xF#4, false, 0⟩, 32, ⟨.orderFetch 63, 6, false, [], []⟩, 0, ?_, ?_, ?_, ?_, ?_, ?_⟩,
    ⟨{ ready with ptp := { ready.ptp with mSide := .agent ⟨0, 0xF#4, false, 0⟩ 32, u := some (⟨0, 0xF#4, false, 0⟩, .waiting), guard := 4 }, ma := ⟨some ⟨.orderFetch 63, 6, false, [], []⟩⟩ },
    ⟨0, 0xF#4, false, 0⟩, ⟨0, 0xF#4, false, 0⟩, 32, ⟨.orderFetch 63, 6, false, [], []⟩, 0, ?_, ?_, ?_, ?_, ?_⟩,
    ⟨{ ready with ptp := { ready.ptp with mSide := .agent ⟨0, 0xF#4, false, 0⟩ 32, u := some (⟨0x11FF#24, 0xF#4, false, 0⟩, .held), guard := 0 }, ma := ⟨some ⟨.reportWrite 127 said 127 0, 3, false, [], []⟩⟩, ru := { ready.ru with writeIdx := 127, nextSeq := 127, pendingReports := [said] } },
    ⟨0, 0xF#4, false, 0⟩, 32, 127, said, 127, 0, [], [], false, 0, ?_, ?_, ?_⟩,
    ⟨{ ready with ptp := { ready.ptp with mSide := .agent ⟨0, 0xF#4, false, 0⟩ 32, u := some (⟨0, 0xF#4, false, 0⟩, .waiting), guard := 4 }, ma := ⟨some ⟨.snapshotWrite, 3, false, [], []⟩⟩ },
    ⟨0, 0xF#4, false, 0⟩, 32, [], [], false, 0, ?_, ?_, ?_⟩,
    ⟨{ ready with ptp := { ready.ptp with mSide := .agent ⟨0, 0xF#4, false, 0⟩ 32, u := none, guard := 0 }, ma := ⟨some ⟨.orderFetch 63, 7, false, [], [1, 0, 0, 0, 0, 0, 0]⟩⟩, tsq := moving.tsq, oi := { ready.oi with queue := List.replicate 7 ⟨0, .marker, zeros⟩, fetch := .inFlight 63 false false } },
    ⟨0, 0xF#4, false, 0⟩, 32, 63, ⟨1, 0, 0, 0, 0, 0, 0⟩, false, false, false, [], 0x05FF#32, ?_, ?_, ?_, ?_, ?_, ?_⟩,
    ⟨{ ready with ptp := { ready.ptp with mSide := .agent ⟨0, 0xF#4, false, 0⟩ 32, u := none, guard := 0 }, ma := ⟨some ⟨.orderFetch 63, 7, false, [], [1, 0, 0, 0, 0, 0, 0]⟩⟩, oi := { ready.oi with fetch := .inFlight 63 false false } },
    ⟨0, 0xF#4, false, 0⟩, 32, .space, ⟨1, 0, 0, 0, 0, 0, 0⟩, false, [], 0x05FF#32, ?_, ?_, ?_, ?_, ?_, ?_, ?_⟩,
    ⟨{ ready with ptp := { ready.ptp with mSide := .agent ⟨0, 0xF#4, false, 0⟩ 32, u := none, guard := 0 }, ma := ⟨some ⟨.segmentFetch 31, 3, false, [], [0, 0, 0]⟩⟩, sc := { ready.sc with inFlight := some ⟨31, .reread⟩ } },
    ⟨0, 0xF#4, false, 0⟩, 32, 31, .reread, false, [], 0, 0, 0, 0, ?_, ?_, ?_, ?_⟩⟩ <;>
    (repeat' first
      | decide +kernel
      | exact parameters_in_range
      | exact nothing_stale
      | unfold Room | unfold NothingDue)

theorem witness_AgentTimeoutsAbandonTheJob :
    (∃ (s : State) (a : Access) (n : Nat) (slot : Fin 128) (r : Report) (seq : BitVec 16) (loss pos : Nat) (out got :
      List Word) (waiting : Bool), s.ptp.mSide = .agent a n ∧ s.ma.job = some ⟨.reportWrite slot r seq loss, pos,
      waiting, out, got⟩ ∧ NothingDue s) ∧
    (∃ (s : State) (a : Access) (n pos : Nat) (out got : List Word) (waiting : Bool), s.ptp.mSide = .agent a n ∧
      s.ma.job = some ⟨.snapshotWrite, pos, waiting, out, got⟩ ∧ NothingDue s) ∧
    (∃ (s : State) (a : Access) (n pos : Nat) (j : Fin 64) (out got : List Word) (waiting reseen cancelled : Bool),
      s.ptp.mSide = .agent a n ∧ s.ma.job = some ⟨.orderFetch j, pos, waiting, out, got⟩ ∧ s.oi.fetch = .inFlight j
      reseen cancelled ∧ (cancelled = false → j = seqSlot s.oi.expected) ∧ s.oi.queue.length < 8 ∧ (s.oi.queue = [] ∨
      s.tsq.inHand.isSome = true)) ∧
    (∃ (s : State) (a : Access) (n pos : Nat) (i : Fin 32) (mark : FetchMark) (out got : List Word) (waiting : Bool),
      s.ptp.mSide = .agent a n ∧ s.ma.job = some ⟨.segmentFetch i, pos, waiting, out, got⟩ ∧ s.sc.inFlight = some ⟨i,
      mark⟩ ∧ NothingDue s) ∧
    (∃ (s : State) (a : Access) (n : Nat) (_data : Word), s.ptp.mSide = .orphan a n ∧ s.ma.job = none ∧ s.ptp.u =
      none) ∧
    (∃ (s : State) (a acc : Access) (n : Nat) (_data : Word), s.ptp.mSide = .orphan a n ∧ s.ma.job = none ∧ s.ptp.u =
      some (acc, .waiting)) := by
  refine
    ⟨⟨{ ready with ptp := { ready.ptp with mSide := .agent ⟨0, 0xF#4, false, 0⟩ 32, u := some (⟨0x11FF#24, 0xF#4, false, 0⟩, .held), guard := 0 }, ma := ⟨some ⟨.reportWrite 127 said 127 255, 0, false, [], []⟩⟩ },
    ⟨0, 0xF#4, false, 0⟩, 32, 127, said, 127, 255, 0, [], [], false, ?_, ?_, ?_⟩,
    ⟨{ ready with ptp := { ready.ptp with mSide := .agent ⟨0, 0xF#4, false, 0⟩ 32, u := none, guard := 0 }, ma := ⟨some ⟨.snapshotWrite, 0, false, [], []⟩⟩ },
    ⟨0, 0xF#4, false, 0⟩, 32, 0, [], [], false, ?_, ?_, ?_⟩,
    ⟨{ ready with ptp := { ready.ptp with mSide := .agent ⟨0, 0xF#4, false, 0⟩ 32, u := none, guard := 0 }, ma := ⟨some ⟨.orderFetch 63, 7, false, [], []⟩⟩, tsq := moving.tsq, oi := { ready.oi with queue := List.replicate 7 ⟨0, .marker, zeros⟩, fetch := .inFlight 63 true false } },
    ⟨0, 0xF#4, false, 0⟩, 32, 7, 63, [], [], false, true, false, ?_, ?_, ?_, ?_, ?_, ?_⟩,
    ⟨{ ready with ptp := { ready.ptp with mSide := .agent ⟨0, 0xF#4, false, 0⟩ 32, u := none, guard := 0 }, ma := ⟨some ⟨.segmentFetch 31, 0, false, [], []⟩⟩, sc := { ready.sc with inFlight := some ⟨31, .none⟩ } },
    ⟨0, 0xF#4, false, 0⟩, 32, 0, 31, .none, [], [], false, ?_, ?_, ?_, ?_⟩,
    ⟨{ ready with ptp := { ready.ptp with mSide := .orphan ⟨0, 0xF#4, false, 0⟩ 32 } }, ⟨0, 0xF#4, false, 0⟩, 32, 0,
    ?_, ?_, ?_⟩,
    ⟨{ ready with ptp := { ready.ptp with mSide := .orphan ⟨0, 0xF#4, false, 0⟩ 32, u := some (⟨0, 0xF#4, false, 0⟩, .waiting) } },
    ⟨0, 0xF#4, false, 0⟩, ⟨0, 0xF#4, false, 0⟩, 32, 0, ?_, ?_, ?_⟩⟩ <;>
    (repeat' first
      | decide +kernel
      | exact parameters_in_range
      | exact nothing_stale
      | unfold Room | unfold NothingDue)

theorem witness_FullPendingListsKeepFour :
    (∃ (s : State) (seq : Byte) (_b : Body), HeadFree seq s ∧ s.mc.mode = .run ∧ s.ru.pendingReports.length = 4) ∧
    (∃ (s : State) (data : Word) (_answered : Bool) (older younger : List Report) (r : Report), watching s = true ∧
      forwarding s = false ∧ data.getLsbD 1 = true ∧ s.tsq.state = .ready ∧ s.ru.pendingReports = older ++ r ::
      younger ∧ s.ru.pendingReports.length = 4 ∧ r.kind.urgent = false ∧ (∀ x ∈ younger, x.kind.urgent = true)) ∧
    (∃ (s : State) (data : Word) (_answered : Bool), watching s = true ∧ forwarding s = false ∧ data.getLsbD 1 = true
      ∧ s.tsq.state = .ready ∧ s.ru.pendingReports.length = 4 ∧ (∀ x ∈ s.ru.pendingReports, x.kind.urgent = true)) := by
  refine ⟨⟨{ ready with ru := { ready.ru with pendingReports := [said, said, said, said], loss := 255 } }, 255,
    zeros, ?_, ?_, ?_⟩,
    ⟨{ ready with ru := { ready.ru with pendingReports := [said, said, { said with kind := .fault }, { said with kind := .fault }], loss := 255 } },
    2#32, true, [said], [{ said with kind := .fault }, { said with kind := .fault }], said, ?_, ?_, ?_, ?_, ?_, ?_,
    ?_, ?_⟩,
    ⟨{ ready with ru := { ready.ru with pendingReports := [{ said with kind := .fault }, { said with kind := .fault }, { said with kind := .fault }, { said with kind := .fault }], loss := 255 } },
    2#32, true, ?_, ?_, ?_, ?_, ?_, ?_⟩⟩ <;>
    (repeat' first
      | decide +kernel
      | exact parameters_in_range
      | exact nothing_stale
      | unfold Room | unfold NothingDue | unfold SpeedFollows | unfold DriveLow | unfold WithinBounds
      | unfold DoorAndRange | unfold SettlesNow | unfold Serving
      | constructor)

theorem witness_WrittenWordsHoldTheirFields :
    (∃ (r : Report) (_seq : BitVec 16) (loss : Nat), loss ≤ 255 ∧ r.code < 65536 ∧ (-33554432 ≤ r.p ∧ r.p ≤ 33554431)
      ∧ (-8388608 ≤ r.value ∧ r.value ≤ 8388607)) ∧
    (∃ s : State, MeasurementLaw s.mu ∧ SpeedLaw s ∧ s.oi.queue.length ≤ 8) := by
  refine ⟨⟨{ said with code := 65535, p := -33554432, value := 8388607 }, 65535, 255, ?_, ?_, ?_, ?_⟩, ⟨moving, ?_,
    ?_, ?_⟩⟩ <;>
    (repeat' first
      | decide +kernel
      | exact parameters_in_range
      | exact nothing_stale
      | unfold Room | unfold NothingDue | unfold SpeedFollows | unfold DriveLow | unfold WithinBounds
      | unfold DoorAndRange | unfold SettlesNow | unfold Serving
      | constructor
      | (intro x; cases x))


/-! ## Well-formedness -/

theorem test_expiry_order_repeating_a_check_is_ill_formed :
    (Instr.periodExpiry ⟨false, false, false, [.vacuum, .door, .vacuum]⟩).wf = false := by decide

theorem test_expiry_order_of_distinct_checks_is_well_formed :
    (Instr.reelStall .s ⟨true, false, true, [.halt, .stall .s, .stall .t]⟩).wf = true := by decide

theorem test_tick_order_repeating_a_line_is_ill_formed :
    (Instr.debounceTick 0 [3, 11, 3]).wf = false ∧ (Instr.acceptedChange 3 0 [0, 0]).wf = false := by decide

theorem test_tick_order_of_distinct_lines_is_well_formed : (Instr.acceptedChange 3 0 [11, 3]).wf = true := by decide

/-! ## Worked examples of the spec, one step each -/

/-- The state after a command. -/
def after (i : Instr) (s : State) : State :=
  match exec i s with
  | .next t => t
  | .fault f => nomatch f
  | .refused _ => s

def quietly : ExpiryOrder := ⟨false, true, false, []⟩

/-- Section 2.3. -/
theorem test_braking_distances :
    brakingDistance 5 0 50 = 225 ∧ brakingDistance 5 0 46 = 189 ∧ brakingDistance 5 20 50 = 175 := by decide +kernel

def braking (v : Nat) (r : Int) : State :=
  { moving with
    mg := { moving.mg with
      v := v, accel := 5, l := 2013, d := 2013 - r, r := r, motion := some ⟨.space, true, 5, 50, true⟩ } }

/-- Section 2.11, SPACE forward, distance 2013: the first braking step, and the step 16 to 12, where 12 meets its test
with equality. -/
theorem test_braking_steps :
    ((after (.periodExpiry quietly) (braking 50 238)).mg.vt, (after (.periodExpiry quietly) (braking 16 21)).mg.r) =
      (46, 9) := by decide +kernel

/-- R26, R28, by hand: flowing at 20 onto a boundary 20 counts on, into a last segment of no counts: its end
cannot be met, and the overrun begins before the commit, which takes 15 of the 30 counts of 15, 10, 5. -/
theorem test_surplus_overrun_brakes_at_once :
    (let next : Segment := ⟨false, 0, 20, 5, 0, true, true, false, 0, false⟩
     let s := after (.periodExpiry quietly) { writing with
       sc := { writing.sc with entries := writing.sc.entries.set 1 (.valid next) }
       mg := { moving.mg with
         motion := some ⟨.chain, true, 5, 20, true⟩, accel := 5, v := 20, vt := 20, w := 20, l := 600, d := 580, r := 20
         lookAhead := some (1, next), finalStop := false } }
     (s.mg.v, s.mg.r, s.mg.l, s.mg.overrun.isSome)) = (15, 15, 610, true) := by decide +kernel

/-- Section 2.11, SPACE forward, distance 2000: at r = 0 the tape rests and SETTLE begins at Q. -/
theorem test_rest_begins_the_settle :
    (after (.periodExpiry quietly) (braking 5 0)).mg.phase = .settle false ∧
      (after (.periodExpiry quietly) (braking 5 0)).tsq.state = .settling := by decide +kernel

/-- Section 2.11: the CONTROLLED stop in cruise: L = 825 + B_0(50) = 1,050, then c = 45. -/
theorem test_controlled_stop_in_cruise :
    (let s := after (.periodExpiry quietly) (after (.stopWord 0 true)
      { moving with mg := { moving.mg with
        v := 50, accel := 5, d := 825, r := 1175, motion := some ⟨.space, true, 5, 50, true⟩ } })
     (s.mg.l, s.mg.v)) = (1050, 45) := by decide +kernel

/-- Section 3.2: the capstan case in forward and in reverse. -/
theorem test_capstan_worked_case :
    (computeCapstan { ready with
      mg := { ready.mg with vt := 25 }, mu := { ready.mu with m := 23 }, cl := ⟨true, 0, 10, .none⟩ }).cl =
        ⟨true, 541, 12, .none⟩ ∧
    (computeCapstan { ready with
      mg := { ready.mg with vt := -25 }, mu := { ready.mu with m := -23 }, cl := ⟨true, 0, -10, .none⟩ }).cl =
        ⟨true, -541, -12, .none⟩ := by decide +kernel

/-- Section 3.3: forward running at V = 25, samples 530 and 500. -/
theorem test_reel_worked_case :
    (after (.sampleFrame (frameBits ⟨530, 500⟩)) { moving with
      mg := { moving.mg with vt := 25 }
      mu := { moving.mu with est := ⟨⟨0, true, 0, some 14000⟩, ⟨0, true, 0, some 9000⟩⟩ }
      rl := ⟨⟨.loop, 0, 200, .none, true⟩, ⟨.loop, 0, -50, .none, true⟩⟩ }).rl =
        ⟨⟨.loop, -592, 218, .none, true⟩, ⟨.loop, 1006, -62, .none, true⟩⟩ := by decide +kernel

/-- Section 3.4: presentation 3 of the fill, samples 420 and 380. -/
theorem test_fill_presentation :
    (after (.sampleFrame (frameBits ⟨420, 380⟩)) filling).rl =
      ⟨⟨.loop, -461, -92, .none, true⟩, ⟨.fill, -300, 0, .none, false⟩⟩ := by decide +kernel

/-- Section 1.9: the estimates of reel S at 14,030 and, clamped, at 18,400. -/
theorem test_circumference_windows :
    filterEstimate (some 14210) (windowValue 14030) = 14165 ∧ filterEstimate (some 13975) (windowValue 18400) = 14731 :=
  by decide +kernel

/-- Section 1.9: a BOT crossing in a forward seek. -/
theorem test_bot_crossing_rebases :
    (let s := after (.periodExpiry quietly) { ready with
      mu := { ready.mu with p := 1236, accum := 4, notices := [⟨.bot, 1239⟩] }
      tsq := { ready.tsq with state := .loadingSeek, inHand := some (hand .load .searchForward) }
      mg := { Mg.reset with
        phase := .run, motion := some ⟨.search, true, 4, 4, false⟩, accel := 4, v := 4, vt := 4, prevVt := 4
        l := 600000, d := 1236, r := 598764, finalStop := true } }
     (s.mu.p, s.tsq.referenced)) = (-2999, true) := by decide +kernel

/-- Section 5.13: REWIND at P = 120,000 runs FAST over 121,500. -/
theorem test_rewind_runs_fast :
    (let s := after (.rewind 255 zeros) { ready with
      mu := { ready.mu with p := 120000 }, tsq := { ready.tsq with referenced := true } }
     (s.tsq.state, s.mg.l)) = (.rewindingFast, 121500) := by decide +kernel

/-- Section 6.9: a column limit begins the halt and ends the order; the halt's first expiry commands 17 of the ramp
of 27 counts. -/
theorem test_column_limit_in_a_cruise :
    (let s := after (.acceptedChange 0 0x01F []) { moving with
      mg := { moving.mg with v := 25, vt := 25, prevVt := 25 }, mu := { moving.mu with m := 25, accum := 25 } }
     let t := after (.periodExpiry quietly) s
     (s.tsq.state, s.ru.pendingReports.map Report.kind, t.mg.vt, t.mg.l - t.mg.d)) =
      (.halting, [.fault, .orderDone], 17, 10) := by decide +kernel

/-- Section 3.6: a tape break in motion: the brake goes on, the pump off, and every drive is 0. -/
theorem test_tape_break_in_motion :
    (let s := after (.acceptedChange 3 0x016 []) { moving with
      cl := ⟨true, 541, 12, .none⟩, rl := ⟨⟨.loop, -592, 218, .none, true⟩, ⟨.loop, 1006, -62, .none, true⟩⟩ }
     (s.tsq.state, s.tsq.brake, s.tsq.vacuum, s.cl.dc, s.rl.s.d, s.rl.t.d)) = (.fault, true, false, 0, 0, 0) := by
  decide +kernel

/-- Section 7.9: three ticks do not change a line of exponent 2, the fourth does. -/
theorem test_debounce_needs_four_ticks :
    (let s := { ready with slu := { ready.slu with
       lines := ready.slu.lines.set 0 { deckLine (.limit .s false) false with mode := .high, exponent := 2, timer := 2 } } }
     ((after (.debounceTick 0x01F []) s).slu.lines.get 0).level) = false ∧
    (let s := { ready with slu := { ready.slu with
       lines := ready.slu.lines.set 0 { deckLine (.limit .s false) false with mode := .high, exponent := 2, timer := 3 } } }
     ((after (.debounceTick 0x01F []) s).slu.lines.get 0).level) = true := by decide +kernel

/-- Section 8.10: slot 6 is written with sequence 6 where 70 is expected. -/
theorem test_wrong_sequence_is_refused :
    (let s := after (.marker 6 zeros) { ready with oi := ⟨70, 0, [], .none⟩ }
     (s.oi.expected, s.ru.pendingReports.map fun r => (r.kind, r.code, r.value, r.seq))) =
      (71, [(.orderRefused, 4, 6, some 70)]) := by decide +kernel

/-- Section 8.10: a flush during a motion. -/
theorem test_flush_in_a_motion :
    (let s := after (.stopWord 0x6402 true) { moving with
      oi := ⟨43, 1#64 <<< 43, [⟨41, .marker, zeros⟩, ⟨42, .marker, zeros⟩], .inFlight 43 false false⟩ }
     (s.oi, s.ru.pendingReports.map fun r => (r.kind, r.code, r.value, r.seq))) =
      (⟨100, 0, [], .inFlight 43 false true⟩, [(.ordersFlushed, 0, 3, some 100)]) := by decide +kernel

/-- Section 9.9: a third record evicts the older of two OPEN buffers. -/
theorem test_third_record_evicts_the_older_buffer :
    (let full : Vector (Option Word) 8 := Vector.replicate 8 (some 0)
     (after (.segmentWordWrite 6 0 0xF 0 true) { ready with ptp := { ready.ptp with
       bufs := [⟨.slot 20, full, true, false⟩, ⟨.entry 5, full, true, false⟩] } }).ptp.bufs.map Assembly.target) =
      [.entry 5, .entry 6] := by decide +kernel

/-- A REPORT WRITE to slot 9 (section 9.9), at a word of its order. -/
def slot9 (pos : Nat) (waiting : Bool) : Job := ⟨.reportWrite 9 said 9 0, pos, waiting, [1, 2, 3, 4], []⟩

def u6 : Access := ⟨0x0A00#24, 0xF#4, false, 0⟩

def u7 : Access := ⟨0x0A90#24, 0xF#4, false, 0⟩

/-- Section 9.9, the row of u5: with a guard count of 4, word 1 goes before the waiting u6. -/
theorem test_guard_count_of_four_grants_the_word :
    (let s := after (.forwardedAccessEnd 0) { ready with
      ma := ⟨some (slot9 0 true)⟩
      ptp := { ready.ptp with u := some (u6, .granted), mSide := .forwarded u6 32, coming := some u6, guard := 4 } }
     (s.ptp.u, s.ptp.guard, s.ma.job)) = (some (u6, .waiting), 0, some (slot9 0 false)) := by decide +kernel

/-- Section 9.9, the rows of word 1, u6, and word 0: u6 passes word 2, u7 is held when it comes, and it is granted when
the job completes. -/
theorem test_held_read_is_granted_at_the_jobs_end :
    (let s := after (.agentWordEnd 0) { ready with
      ma := ⟨some (slot9 0 false)⟩
      ptp := { ready.ptp with u := some (u6, .waiting), mSide := .agent u6 32 } }
     let t := after (.forwardedAccessEnd 0) (after (.uSideAccess u7) s)
     (s.ptp.u, s.ptp.guard, t.ptp.u, t.ptp.guard)) = (some (u6, .granted), 1, some (u7, .held), 0) ∧
    (let s := after (.agentWordEnd 0) { ready with
      ma := ⟨some (slot9 3 false)⟩
      ptp := { ready.ptp with u := some (u7, .held), mSide := .agent u6 32 } }
     (s.ptp.u, s.ptp.guard, s.ma.job)) = (some (u7, .granted), 0, none) := by decide +kernel

/-- The end of a post word that is not whole, in the expected slot 3, at the moment at which u6 is presented, where
ORDER FETCH starts before the grant made there or not. -/
def postEnds (first : Bool) (guard : Nat) : State :=
  let post : Access := ⟨0x00007C#24, 0xF#4, true, 0x0503#32⟩
  let s := after (.uSideAccess u6) { ready with
    oi := ⟨3, 0, [], .none⟩
    ptp := { ready.ptp with u := some (post, .granted), mSide := .forwarded post 32, guard := guard } }
  after (.orderPostWordWrite 3 0xF 0x0503 true) (if first then after .orderFetchStart s else s)

/-- R161: where the ORDER FETCH that the write orders starts first, the presented access passes its first word, and at a
guard count of 4 the word goes first. Where the grant is made first, the access has it alone and nothing starts. -/
theorem test_job_made_ready_by_a_write_competes_at_its_end :
    ((postEnds true 0).ptp.guard, (postEnds true 0).ptp.u) = (1, some (u6, .granted)) ∧
    ((postEnds true 4).ma.job, (postEnds true 4).ptp.u) =
      (some ⟨.orderFetch 3, 0, false, [], []⟩, some (u6, .waiting)) ∧
    ((postEnds false 0).ptp.guard, (postEnds false 0).ptp.u, (postEnds false 0).oi.fetch) =
      (0, some (u6, .granted), .ordered 3) := by decide +kernel

/-- A RUN CHAIN with write intent whose start 31 is an empty forward write-marked segment that is not last, linked to
`next` in entry 30. -/
def emptyStart (next : CacheEntry) : State :=
  let empty := { segment with distance := 0, last := false, next := 30 }
  after (.runChain 255 ⟨0, 0x011F0000, 0, 0, 0, 0, 0⟩) { ready with sc := { ready.sc with
    entries := (ready.sc.entries.set 31 (.valid empty)).set 30 next } }

/-- R65, R67, R68, R69, R84: the segment after an empty one skipped at the start is entered by its own steps, awaited
with WRITE ENABLE dropped, or ends the chain, with WRITE ENABLE off in each case. -/
theorem test_entry_after_an_empty_start_drops_write_enable :
    (let s := emptyStart (.valid { segment with write := false })
     (s.tsq.writeEnable, s.mg.phase, s.wk.visits, s.wk.g)) = (false, .run, 2, 600) ∧
    (let s := emptyStart .invalid
     (s.tsq.writeEnable, s.mg.phase, s.wk.awaited, s.wk.g)) = (false, .hold, some 30, 0) ∧
    (let s := emptyStart (.valid { segment with reverse := true })
     (s.tsq.writeEnable, s.mg.phase, s.mg.chainEnd, s.wk.visits)) =
      (false, .hold, some .segmentError, 2) := by decide +kernel

/-- Section 10.8: FAULT displaces the youngest ROUTINE report of a full pending list. -/
theorem test_fault_displaces_the_youngest_routine :
    (let s := generate .fault 1 0 none { ready with ru := { ready.ru with
      pendingReports := [said, { said with kind := .segmentEmpty }, { said with kind := .approach },
        { said with kind := .markCrossed }] } }
     (s.ru.pendingReports.map Report.kind, s.ru.loss)) = ([.orderDone, .segmentEmpty, .approach, .fault], 1) := by
  decide +kernel

/-- Section 10.8: with write index 200 and read index 72 the release words 201 and 80 are not accepted and accepted. -/
theorem test_release_words :
    (let s := { ready with ru := { ready.ru with writeIdx := 200, readIdx := 72 } }
     ((after (.releaseWord 201 true) s).ru.readIdx, (after (.releaseWord 80 true) s).ru.readIdx)) = (72, 80) := by
  decide +kernel

/-- Section 11.7, records 3 and 4: the band test of column T, and the half-width clamped to 16. -/
theorem test_set_columns_worked_records :
    (let s := after (.setColumns 255 ⟨0x008C0200, 0x012C00A0, 250, 0, 0, 0, 0⟩) (inSetup ready)
     (s.mc.params.setpoint, s.ru.pendingReports.map fun r => (r.kind, r.code, r.value))) =
      (⟨512, 512⟩, [(.orderRefused, 10, 0)]) ∧
    (let s := after (.setColumns 255 ⟨0x01F40200, 0x012C000A, 250, 0, 0, 0, 0⟩) (inSetup ready)
     (s.mc.params.setpoint, s.mc.params.halfWidth, s.ru.pendingReports.map fun r => (r.kind, r.code))) =
      (⟨512, 500⟩, 16, [(.setupApplied, 1)]) := by decide +kernel

/-- R185: a setpoint of 900, clamped to 896, with a half-width of 100 is applied; 150 with 200 is refused. -/
theorem test_set_columns_examples_of_the_rule :
    (after (.setColumns 255 ⟨0x02000384, 0x012C0064, 250, 0, 0, 0, 0⟩) (inSetup ready)).mc.params.setpoint = ⟨896, 512⟩ ∧
    (after (.setColumns 255 ⟨0x02000096, 0x012C00C8, 250, 0, 0, 0, 0⟩) (inSetup ready)).mc.params.setpoint = ⟨512, 512⟩ := by
  decide +kernel

end Sys2Proof.Tests
end

section
/-! SUPPORT. What the parts of a step other than the tachometers, the pair arrivals, the notices and the period's own
update can do to the measurements and to the snapshot interval, said once (`Kept`) and carried through the shared
operations of every block. -/

namespace Sys2Proof.Machine

/-! ## The relation -/

/-- The measurements of one period stand: the period's values and the notices are kept, the arrival flag is not set,
P stays or is set within its bounds, the miss count stays or is within its bound, silence timers, tallies and capstan
sums stay or become 0, and estimates stay or become UNKNOWN. -/
structure MeasurementsKept (u v : Mu) : Prop where
  count : v.periodCount = u.periodCount
  accum : v.accum = u.accum
  speed : v.m = u.m
  direction : v.lastForward = u.lastForward
  notices : v.notices = u.notices
  convert : v.convert = u.convert
  arrival : u.arrival = false → v.arrival = false
  misses : v.missCount = u.missCount ∨ v.missCount ≤ 255
  position : v.p = u.p ∨ -33554432 ≤ v.p ∧ v.p ≤ 33554431
  silence : ∀ x : Reel, v.silence.get x = u.silence.get x ∨ v.silence.get x = 0
  tally : ∀ x : Reel, (v.est.get x).tally = (u.est.get x).tally ∨ (v.est.get x).tally = 0
  sum : ∀ x : Reel, (v.est.get x).sum = (u.est.get x).sum ∨ (v.est.get x).sum = 0
  circumference : ∀ x : Reel, (v.est.get x).circ = (u.est.get x).circ ∨ (v.est.get x).circ = none

/-- The interval counter stands, and a snapshot that is due stays due. -/
structure IntervalKept (u v : Ru) : Prop where
  counter : v.snapCounter = u.snapCounter
  due : u.snapDue = true → v.snapDue = true

/-- The measurements and the snapshot interval stand from s to t. -/
structure Kept (s t : State) : Prop where
  measures : MeasurementsKept s.mu t.mu
  interval : IntervalKept s.ru t.ru

theorem MeasurementsKept.refl (u : Mu) : MeasurementsKept u u where
  count := rfl
  accum := rfl
  speed := rfl
  direction := rfl
  notices := rfl
  convert := rfl
  arrival := id
  misses := .inl rfl
  position := .inl rfl
  silence _ := .inl rfl
  tally _ := .inl rfl
  sum _ := .inl rfl
  circumference _ := .inl rfl

theorem MeasurementsKept.trans {u v w : Mu} (h : MeasurementsKept u v) (h' : MeasurementsKept v w) :
    MeasurementsKept u w where
  count := h'.count.trans h.count
  accum := h'.accum.trans h.accum
  speed := h'.speed.trans h.speed
  direction := h'.direction.trans h.direction
  notices := h'.notices.trans h.notices
  convert := h'.convert.trans h.convert
  arrival a := h'.arrival (h.arrival a)
  misses := h'.misses.elim (fun e => h.misses.imp e.trans e.trans_le) .inr
  position := h'.position.elim (fun e => e ▸ h.position) .inr
  silence x := (h'.silence x).elim (fun e => e ▸ h.silence x) .inr
  tally x := (h'.tally x).elim (fun e => e ▸ h.tally x) .inr
  sum x := (h'.sum x).elim (fun e => e ▸ h.sum x) .inr
  circumference x := (h'.circumference x).elim (fun e => e ▸ h.circumference x) .inr

/-- What keeps the measurements keeps their ranges. -/
theorem MeasurementsKept.law {u v : Mu} (h : MeasurementsKept u v) (law : MeasurementLaw u) : MeasurementLaw v where
  position := h.position.elim (fun e => e ▸ law.position) id
  speed := h.speed ▸ law.speed
  notices := h.notices ▸ law.notices
  silence x := (h.silence x).elim (fun e => e ▸ law.silence x) fun e => by omega
  tally x := (h.tally x).elim (fun e => e ▸ law.tally x) fun e => by omega
  sum x := (h.sum x).elim (fun e => e ▸ law.sum x) fun e => by omega
  circumference x c hc :=
    (h.circumference x).elim (fun e => law.circumference x c (e ▸ hc)) fun e => by simp [e] at hc
  misses := h.misses.elim (fun e => e ▸ law.misses) id

theorem IntervalKept.refl (u : Ru) : IntervalKept u u := ⟨rfl, id⟩

theorem IntervalKept.trans {u v w : Ru} (h : IntervalKept u v) (h' : IntervalKept v w) : IntervalKept u w :=
  ⟨h'.counter.trans h.counter, fun d => h'.due (h.due d)⟩

variable {s t t' : State}

theorem Kept.refl (s : State) : Kept s s := ⟨.refl _, .refl _⟩

theorem Kept.trans (h : Kept s t) (h' : Kept t t') : Kept s t' :=
  ⟨h.measures.trans h'.measures, h.interval.trans h'.interval⟩

/-- An operation that touches neither the Measurement Unit nor the Report Unit. -/
theorem Kept.elsewhere (h : Kept s t) (mu : t'.mu = t.mu) (ru : t'.ru = t.ru) : Kept s t' :=
  ⟨mu ▸ h.measures, ru ▸ h.interval⟩

/-- An operation that touches the measurements only as `MeasurementsKept` allows. -/
theorem Kept.measuring (h : Kept s t) (mu : MeasurementsKept t.mu t'.mu) (ru : t'.ru = t.ru) : Kept s t' :=
  h.trans ⟨mu, ru ▸ .refl _⟩

/-- An operation that touches the Report Unit but neither the interval counter nor a snapshot that is due. -/
theorem Kept.reporting (h : Kept s t) (mu : t'.mu = t.mu) (ru : IntervalKept t.ru t'.ru) : Kept s t' :=
  h.trans ⟨mu ▸ .refl _, ru⟩

theorem onMg_keeps {f : Mg → Mg} (h : Kept s t) : Kept s (t.onMg f) := h.elsewhere rfl rfl

theorem onWk_keeps {f : Wk → Wk} (h : Kept s t) : Kept s (t.onWk f) := h.elsewhere rfl rfl

theorem onTsq_keeps {f : Tsq → Tsq} (h : Kept s t) : Kept s (t.onTsq f) := h.elsewhere rfl rfl

theorem onCl_keeps {f : Cl → Cl} (h : Kept s t) : Kept s (t.onCl f) := h.elsewhere rfl rfl

theorem onRl_keeps {x : Reel} {f : ReelLoop → ReelLoop} (h : Kept s t) : Kept s (t.onRl x f) := h.elsewhere rfl rfl

theorem onMc_keeps {f : Mc → Mc} (h : Kept s t) : Kept s (t.onMc f) := h.elsewhere rfl rfl

theorem onFm_keeps {f : Fm → Fm} (h : Kept s t) : Kept s (t.onFm f) := h.elsewhere rfl rfl

theorem onSlu_keeps {f : Slu → Slu} (h : Kept s t) : Kept s (t.onSlu f) := h.elsewhere rfl rfl

theorem onOi_keeps {f : Oi → Oi} (h : Kept s t) : Kept s (t.onOi f) := h.elsewhere rfl rfl

theorem handOnSpeed_keeps {vt : Int} (h : Kept s t) : Kept s (handOnSpeed vt t) := h.elsewhere rfl rfl

theorem dropWriteEnable_keeps (h : Kept s t) : Kept s (dropWriteEnable t) := h.elsewhere rfl rfl

theorem ite_keeps {c : Prop} [Decidable c] (h : Kept s t) (h' : Kept s t') : Kept s (if c then t else t') := by
  split
  · exact h
  · exact h'

/-! ## Reports -/

theorem dropReport_keeps {r : Report} (h : Kept s t) : Kept s (dropReport r t) := by
  refine h.reporting (by simp) ?_
  unfold dropReport
  split <;> simp <;> exact ⟨rfl, id⟩

theorem enterPending_keeps {r : Report} (h : Kept s t) : Kept s (enterPending r t) := by
  have list (l : List Report) : Kept s (t.onRu fun u => { u with pendingReports := l }) :=
    h.reporting rfl ⟨rfl, id⟩
  unfold enterPending
  split
  · exact list _
  · split
    · split
      · exact dropReport_keeps (list _)
      · exact dropReport_keeps h
    · exact dropReport_keeps h

theorem generate_keeps {kind : ReportKind} {code : Nat} {value : Int} {seq : Option Byte} (h : Kept s t) :
    Kept s (generate kind code value seq t) :=
  have named : Kept s (t.onRu fun u => { u with nextId := u.nextId + 1 }) := h.reporting rfl ⟨rfl, id⟩
  ite_keeps (enterPending_keeps named) named

theorem refuse_keeps {reason : Reason} {value : Int} {seq : Byte} (h : Kept s t) : Kept s (refuse reason value seq t) :=
  generate_keeps h

theorem doneAtTake_keeps {o : OrderOutcome} {value : Int} {seq : Byte} (h : Kept s t) :
    Kept s (doneAtTake o value seq t) :=
  generate_keeps h

theorem finishOrder_keeps {o : OrderOutcome} {pe : Int} (h : Kept s t) : Kept s (finishOrder o pe t) := by
  unfold finishOrder
  split
  · exact h
  · exact onTsq_keeps (generate_keeps h)

/-! ## The transport state and the outputs -/

/-- R15: a disabled estimator's tally and sum are 0. -/
theorem followEstimator_keeps {x : Reel} (h : Kept s t) : Kept s (followEstimator x t) := by
  unfold followEstimator
  split
  · exact h
  · refine h.measuring { MeasurementsKept.refl t.mu with tally := ?_, sum := ?_, circumference := ?_ } rfl
    all_goals
      intro y
      cases x <;> cases y <;> simp

theorem followModes_keeps (h : Kept s t) : Kept s (followModes t) :=
  have loops : Kept s (followReel .t (followReel .s (followCapstan t))) := h.elsewhere (by simp) (by simp)
  followEstimator_keeps (followEstimator_keeps loops)

theorem enter_keeps {st : TState} {brake vacuum : Bool} (h : Kept s t) : Kept s (enter st brake vacuum t) := by
  have bands : Kept s (clearBandsAt st t) := h.elsewhere (by simp) (by simp)
  have due (t : State) (h : Kept s t) : Kept s (t.onRu fun u => { u with snapDue := true }) :=
    h.reporting rfl ⟨rfl, fun _ => rfl⟩
  exact followModes_keeps ((ite_keeps bands (due _ bands)).elsewhere rfl rfl)

theorem enterKeeping_keeps {st : TState} (h : Kept s t) : Kept s (enterKeeping st t) := enter_keeps h

/-! ## The chain walker -/

theorem testApproach_keeps (h : Kept s t) : Kept s (testApproach t) := by
  unfold testApproach
  split
  · exact h
  · split
    · exact generate_keeps (h.elsewhere rfl rfl)
    · exact h

theorem reportEmpty_keeps {k : Fin 32} {seg : Segment} (h : Kept s t) : Kept s (reportEmpty k seg t) :=
  ite_keeps (generate_keeps h) h

theorem writeEnableAtEntry_keeps {seg : Segment} (h : Kept s t) : Kept s (writeEnableAtEntry seg t) :=
  h.elsewhere (by simp) (by simp)

theorem giveSegment_keeps {seg : Segment} {before : Int} {c : Nat} (h : Kept s t) :
    Kept s (giveSegment seg before c t) := by
  have looked : Kept s (if handedLast seg t then (0, none, t) else lookAhead seg t).2.2 := by
    split
    · exact h
    · exact h.elsewhere (by simp) (by simp)
  unfold giveSegment
  dsimp only
  exact writeEnableAtEntry_keeps (testApproach_keeps (onWk_keeps (onMg_keeps looked)))

theorem countedVisit_keeps {k : Fin 32} {seg : Segment} (h : Kept s t) :
    Kept s (reportEmpty k seg (visitLimit seg (countVisit k seg t))) :=
  reportEmpty_keeps (h.elsewhere (by simp) (by simp))

theorem enterAtRest_keeps (n : Nat) (k : Fin 32) (h : Kept s t) : Kept s (enterAtRest n k t).1 := by
  induction n generalizing k t with
  | zero => exact h.elsewhere (by simp [enterAtRest]) (by simp [enterAtRest])
  | succ n ih =>
    unfold enterAtRest
    split
    · exact h.elsewhere (by simp) (by simp)
    · rename_i seg _
      have counted : Kept s (countVisit k seg t) := h.elsewhere (by simp) (by simp)
      dsimp only
      split
      · exact counted.elsewhere (by simp) (by simp)
      · have given : Kept s (giveSegment seg 0 0 (reportEmpty k seg (visitLimit seg
            ((countVisit k seg t).onMg fun g => { g with v := 0 })))) :=
          giveSegment_keeps (reportEmpty_keeps (counted.elsewhere (by simp) (by simp)))
        split
        · exact given
        · split
          · exact given
          · exact ih _ given

theorem startChain_keeps {k : Fin 32} {seq : Byte} {b : Bool} (h : Kept s t) : Kept s (startChain k seq b t) := by
  have entered := enterAtRest_keeps entryRounds k
    (h.elsewhere (t' := t.onWk fun _ => { Wk.reset with active := true, seq := seq, approachReports := b }) rfl rfl)
  unfold startChain
  dsimp only
  split <;> rename_i e <;> rw [e] at entered
  · exact entered
  · exact entered
  · exact entered.elsewhere rfl rfl

theorem passBoundary_keeps (n c : Nat) (h : Kept s t) : Kept s (passBoundary n c t) := by
  induction n generalizing t with
  | zero => exact h
  | succ n ih =>
    unfold passBoundary
    split
    · exact h
    · rename_i k seg _
      have copied : Kept s (keepLookAhead k seg t) := h.elsewhere (by simp) (by simp)
      have given : ∀ before : Int, Kept s (giveSegment seg before c (reportEmpty k seg (visitLimit seg
          (countVisit k seg (keepLookAhead k seg t))))) :=
        fun _ => giveSegment_keeps (countedVisit_keeps copied)
      dsimp only
      split
      · exact given _
      · split
        · exact ih (given _)
        · exact (given _).elsewhere rfl rfl

end Sys2Proof.Machine
end

section
/-! SUPPORT. `Kept` through the Fault Monitor, the motion generator, the sequencer and the sense lines. -/

namespace Sys2Proof.Machine

variable {s t : State}

/-! ## The Fault Monitor -/

theorem endChain_keeps (h : Kept s t) : Kept s (endChain t) := h.elsewhere (by simp) (by simp)

theorem haltResponse_keeps (h : Kept s t) : Kept s (haltResponse t) := by
  unfold haltResponse
  exact onMg_keeps (onFm_keeps (dropWriteEnable_keeps (endChain_keeps (enterKeeping_keeps h))))

theorem brakeResponse_keeps {k : FaultKind} (h : Kept s t) : Kept s (brakeResponse k t) := by
  have braked : Kept s (brakeGenerator t) := onMg_keeps h
  exact dropWriteEnable_keeps (endChain_keeps (onFm_keeps (enter_keeps braked)))

theorem vacuumEffect_keeps {k : FaultKind} (h : Kept s t) : Kept s (vacuumEffect k t) :=
  ite_keeps (enter_keeps h) h

theorem recordLater_keeps {k : FaultKind} (h : Kept s t) : Kept s (recordLater k t) := onFm_keeps h

theorem laterFault_keeps {k : FaultKind} {value : Int} (h : Kept s t) : Kept s (laterFault k value t) := by
  have recorded : Kept s (recordLater k t) := recordLater_keeps h
  unfold laterFault
  split
  · exact ite_keeps (ite_keeps (vacuumEffect_keeps h) (brakeResponse_keeps h)) h
  · exact finishOrder_keeps (generate_keeps
      (ite_keeps (ite_keeps (brakeResponse_keeps recorded) (vacuumEffect_keeps recorded)) recorded))

theorem attendLimitsLater_keeps {x : Reel} (h : Kept s t) : Kept s (attendLimitsLater x t) := by
  unfold attendLimitsLater
  have look (upper : Bool) (t : State) (h : Kept s t) :
      Kept s (if attended (.columnLimit x upper) t && level (.limit x upper) t then
        laterFault (.columnLimit x upper) (limitValue x t) t else t) :=
    ite_keeps (laterFault_keeps h) h
  exact look false _ (look true _ h)

theorem takeFault_keeps {k : FaultKind} {value : Int} (h : Kept s t) : Kept s (takeFault k value t) := by
  have first : Kept s (t.onFm fun f => { f with first := some k }) := onFm_keeps h
  have watch (x : Reel) (b : Bool) (t : State) (h : Kept s t) : Kept s (if b then attendLimitsLater x t else t) :=
    ite_keeps (attendLimitsLater_keeps h) h
  unfold takeFault
  split
  · split
    · exact laterFault_keeps h
    · exact watch .t _ _ (watch .s _ _ (finishOrder_keeps (generate_keeps
        (ite_keeps (brakeResponse_keeps first) (haltResponse_keeps first)))))
  · exact h

theorem limitCondition_keeps {x : Reel} {upper : Bool} (h : Kept s t) : Kept s (limitCondition x upper t) :=
  ite_keeps (takeFault_keeps h) h

theorem attendLimits_keeps {x : Reel} (h : Kept s t) : Kept s (attendLimits x t) :=
  limitCondition_keeps (limitCondition_keeps h)

theorem evaluateDoor_keeps (h : Kept s t) : Kept s (evaluateDoor t) :=
  ite_keeps (takeFault_keeps (onFm_keeps h)) (onFm_keeps h)

/-! ## The motion generator -/

theorem startMotion_keeps {m : Motion} {d : Int} (h : Kept s t) : Kept s (startMotion m d t) :=
  h.elsewhere (by simp) (by simp)

theorem startChainMotion_keeps {k : Fin 32} {seq : Byte} {b : Bool} (h : Kept s t) :
    Kept s (startChainMotion k seq b t) :=
  ite_keeps (startChain_keeps (onMg_keeps h)) h

theorem reduceSpeed_keeps (h : Kept s t) : Kept s (reduceSpeed t) :=
  ite_keeps (generate_keeps (onMg_keeps h)) (ite_keeps (ite_keeps (onMg_keeps h) h) (onMg_keeps h))

theorem nextSegment_keeps (h : Kept s t) : Kept s (nextSegment t).1 := by
  unfold nextSegment
  split
  · exact onMg_keeps h
  · rename_i seg _
    have entered := enterAtRest_keeps entryRounds seg.next h
    split <;> rename_i e <;> rw [e] at entered
    · exact entered
    · exact entered
    · exact onMg_keeps entered

theorem beginSettle_keeps {target : Int} {b : Bool} (h : Kept s t) : Kept s (beginSettle target b t) := onMg_keeps h

theorem restEnd_keeps (h : Kept s t) : Kept s (restEnd t).1 := by
  unfold restEnd
  split
  · exact onMg_keeps h
  · split
    · exact beginSettle_keeps h
    · split
      · split
        · exact beginSettle_keeps h
        · exact onMg_keeps h
      · exact nextSegment_keeps h

theorem walkerCommit_keeps {c : Nat} (h : Kept s t) : Kept s (walkerCommit c t) :=
  ite_keeps (testApproach_keeps (onWk_keeps h)) h

theorem runPast_keeps {c : Nat} (h : Kept s t) : Kept s (runPast c t).2 := by
  unfold runPast
  dsimp only
  exact onMg_keeps (passBoundary_keeps _ _ (walkerCommit_keeps h))

theorem runOn_keeps {c : Nat} (h : Kept s t) : Kept s (runOn c t) := walkerCommit_keeps (onMg_keeps h)

theorem restAfter_keeps {c : Nat} (h : Kept s t) : Kept s (restAfter c t).1 := by
  unfold restAfter
  split
  · exact restEnd_keeps h
  · exact h

theorem chooseSpeed_keeps (h : Kept s t) : Kept s (chooseSpeed t).2 := h.elsewhere (by simp) (by simp)

theorem runStep_keeps (h : Kept s t) : Kept s (runStep t).1 := by
  have chosen : Kept s (chooseSpeed (applyClamp t)).2 := chooseSpeed_keeps (h.elsewhere (by simp) (by simp))
  unfold runStep
  dsimp only
  refine handOnSpeed_keeps (restAfter_keeps ?_)
  split
  · exact runPast_keeps chosen
  · exact runOn_keeps chosen

theorem enterAwaited_keeps (h : Kept s t) : Kept s (enterAwaited t).1 := by
  unfold enterAwaited
  split
  · exact h
  · rename_i k _
    have entered := enterAtRest_keeps entryRounds k h
    split
    · split <;> rename_i e <;> rw [e] at entered
      · exact entered
      · exact entered
      · exact onMg_keeps entered
    · exact h

theorem holdStep_keeps (h : Kept s t) : Kept s (holdStep t).1 := by
  refine handOnSpeed_keeps (t := (holdTake t).1) ?_
  unfold holdTake
  split
  · exact onMg_keeps h
  · exact enterAwaited_keeps h

theorem settleStep_keeps {b : Bool} (h : Kept s t) : Kept s (settleStep b t).1 := by
  unfold settleStep
  dsimp only
  refine handOnSpeed_keeps ?_
  split
  · split
    · exact nextSegment_keeps (onMg_keeps h)
    · exact onMg_keeps h
  · split
    · exact onMg_keeps h
    · exact h.elsewhere rfl rfl

theorem rampStep_keeps (h : Kept s t) : Kept s (rampStep t).1 := h.elsewhere (by simp) (by simp)

theorem phaseStep_keeps (h : Kept s t) : Kept s (phaseStep t).1 := by
  unfold phaseStep
  split
  · exact handOnSpeed_keeps h
  · exact holdStep_keeps h
  · exact runStep_keeps h
  · exact settleStep_keeps h
  · exact rampStep_keeps h

theorem generatorStep_keeps (h : Kept s t) : Kept s (generatorStep t).1 := by
  have requested : Kept s (applyRequests t).1 := h.elsewhere (by simp) (by simp)
  unfold generatorStep
  split <;> rename_i e <;> rw [e] at requested
  · exact handOnSpeed_keeps (reduceSpeed_keeps requested)
  · exact phaseStep_keeps (reduceSpeed_keeps requested)

/-! ## The settings of P -/

theorem clampPos_bounds (x : Int) : -33554432 ≤ clampPos x ∧ clampPos x ≤ 33554431 :=
  clampI_bounds (by decide) x

theorem zeroPosition_keeps (h : Kept s t) : Kept s (zeroPosition t) :=
  h.measuring { MeasurementsKept.refl t.mu with position := .inr ⟨by simp [zeroPosition], by simp [zeroPosition]⟩ } rfl

theorem rebase_keeps {pos : Int} (h : Kept s t) : Kept s (rebase pos t) := by
  have rebased (x : Int) : Kept s (t.onMu fun u => { u with p := clampPos x, eot := none }) :=
    h.measuring { MeasurementsKept.refl t.mu with position := .inr (clampPos_bounds _) } rfl
  exact ite_keeps (takeFault_keeps (onTsq_keeps (rebased _))) (onTsq_keeps (rebased _))

/-! ## The sequencer -/

theorem startSearch_keeps {forward : Bool} (h : Kept s t) : Kept s (startSearch forward t) :=
  h.elsewhere (by simp) (by simp)

theorem startFast_keeps (h : Kept s t) : Kept s (startFast t) := h.elsewhere (by simp) (by simp)

theorem botCrossing_keeps {forward : Bool} {pos : Int} (h : Kept s t) : Kept s (botCrossing forward pos t) := by
  have seen : Kept s (setCrossingSeen t) := onTsq_keeps h
  unfold botCrossing
  split
  · exact h
  · split
    · exact h
    · split
      · exact ite_keeps h seen
      · exact ite_keeps h (onMg_keeps seen)
      · exact ite_keeps h (onMg_keeps (rebase_keeps seen))
      all_goals exact h

theorem handOnCrossing_keeps {c : Crossing} (h : Kept s t) : Kept s (handOnCrossing c t) :=
  generate_keeps (ite_keeps (botCrossing_keeps h) h)

theorem takeCrossings_keeps (cs : List Crossing) (h : Kept s t) : Kept s (takeCrossings cs t) := by
  have recorded : Kept s (t.onMu fun u => { u with eot := eotAfter u.eot cs }) :=
    h.measuring { MeasurementsKept.refl t.mu with } rfl
  have handed (cs : List Crossing) (t : State) (h : Kept s t) :
      Kept s (cs.foldl (fun s c => handOnCrossing c s) t) := by
    induction cs generalizing t with
    | nil => exact h
    | cons c cs ih => exact ih _ (handOnCrossing_keeps h)
  exact handed cs _ recorded

theorem fillTest_keeps (h : Kept s t) : Kept s (fillTest t) :=
  ite_keeps (startSearch_keeps (enterKeeping_keeps (onTsq_keeps (zeroPosition_keeps h)))) h

theorem present_keeps {p : PerReel (BitVec 10)} (h : Kept s t) : Kept s (present p t) := by
  have presented : Kept s (presentPair p t) := h.elsewhere (by simp) (by simp)
  have watched (b b' : Bool) : Kept s (if b' then attendLimits .t (if b then attendLimits .s (presentPair p t)
      else presentPair p t) else if b then attendLimits .s (presentPair p t) else presentPair p t) :=
    have first := ite_keeps (c := b) (attendLimits_keeps presented) presented
    ite_keeps (attendLimits_keeps first) first
  exact fillTest_keeps (watched _ _)

theorem endUnloaded_keeps {o : OrderOutcome} (h : Kept s t) : Kept s (endUnloaded o t) :=
  finishOrder_keeps (enter_keeps h)

theorem enterWindOff_keeps (h : Kept s t) : Kept s (enterWindOff t) := by
  have entered : Kept s ((enter .unloadingWindOff (setLeg .none t).tsq.brake false (setLeg .none t)).onTsq
      fun q => { q with referenced := false, timer := 0, timerOn := true }) :=
    onTsq_keeps (enter_keeps (onTsq_keeps h))
  exact ite_keeps entered (endUnloaded_keeps entered)

theorem windOffTapeLoss_keeps (h : Kept s t) : Kept s (windOffTapeLoss t) := ite_keeps (endUnloaded_keeps h) h

theorem phaseTimer_keeps (h : Kept s t) : Kept s (phaseTimer t) :=
  ite_keeps (ite_keeps (endUnloaded_keeps h) (ite_keeps (endUnloaded_keeps h) (onTsq_keeps h))) h

theorem endReady_keeps {o : OrderOutcome} {pe : Int} (h : Kept s t) : Kept s (endReady o pe t) :=
  finishOrder_keeps (enterKeeping_keeps h)

theorem afterFast_keeps {x : InHand} (h : Kept s t) : Kept s (afterFast x t) :=
  ite_keeps (ite_keeps (enterWindOff_keeps h) (startSearch_keeps h))
    (ite_keeps (startSearch_keeps (enterKeeping_keeps h)) (startSearch_keeps (enterKeeping_keeps h)))

theorem afterSearchReverse_keeps {x : InHand} (h : Kept s t) : Kept s (afterSearchReverse x t) :=
  ite_keeps (endReady_keeps h) (ite_keeps (enterWindOff_keeps h)
    (ite_keeps (startSearch_keeps (enterKeeping_keeps h)) (startSearch_keeps h)))

theorem legEnd_keeps {e : MotionEnd} {m : ChainMarks} {x : InHand} (h : Kept s t) : Kept s (legEnd e m x t) := by
  unfold legEnd
  split
  · exact afterFast_keeps h
  · exact afterSearchReverse_keeps h
  all_goals exact endReady_keeps h

theorem motionEnd_keeps {e : MotionEnd} (h : Kept s t) : Kept s (motionEnd e t) := by
  unfold motionEnd
  split
  · exact ite_keeps (onFm_keeps h) h
  · exact ite_keeps (onTsq_keeps (enterKeeping_keeps h)) h
  · dsimp only
    split
    · exact endChain_keeps h
    · exact ite_keeps (endReady_keeps (endChain_keeps h)) (legEnd_keeps (endChain_keeps h))

theorem motionEnds_keeps {e : Option MotionEnd} (h : Kept s t) : Kept s (motionEnds e t) := by
  cases e with
  | none => exact h
  | some e => exact motionEnd_keeps h

/-! ## Sense lines -/

theorem ringLost_keeps (h : Kept s t) : Kept s (ringLost t) := by
  unfold ringLost
  split
  · exact generate_keeps (h.elsewhere rfl rfl)
  · exact h

theorem handOnLevel_keeps {f : Func} (h : Kept s t) : Kept s (handOnLevel f t) := by
  cases f with
  | vacuumOk => exact ite_keeps h (takeFault_keeps h)
  | tapeInPath => exact ite_keeps h (windOffTapeLoss_keeps (takeFault_keeps h))
  | doorClosed => exact evaluateDoor_keeps h
  | writeRing => exact ite_keeps h (ringLost_keeps h)
  | none | limit | botMark | eotMark => exact h

theorem freeFunction_keeps {k : Fin 12} {f : Func} (h : Kept s t) : Kept s (freeFunction k f t) :=
  ite_keeps h (ite_keeps (onSlu_keeps h) (handOnLevel_keeps (onSlu_keeps h)))

theorem applySenseLine_keeps {k : Fin 12} {f : Func} {m : LineMode} {i : Bool} {e : BitVec 3} (h : Kept s t) :
    Kept s (applySenseLine k f m i e t) := by
  have seen : Kept s (seeInputs t) := h.elsewhere rfl rfl
  exact ite_keeps (onSlu_keeps (freeFunction_keeps seen))
    (handOnLevel_keeps (onSlu_keeps (freeFunction_keeps seen)))

theorem senseChange_keeps (h : Kept s t) : Kept s (senseChange t) :=
  ite_keeps (ite_keeps (generate_keeps (onSlu_keeps h)) (onSlu_keeps h)) h

end Sys2Proof.Machine
end

section
/-! SUPPORT. The stages of the period expiry as functions of the state, and `Kept` through them; the take of the
queue head, after which a snapshot that is due is still due (`Carried`). -/

namespace Sys2Proof.Machine

variable {s t : State}

/-! ## The stages of an expiry, as functions of the state -/

namespace Run

variable (r : Run) (c : Context)

@[simp] theorem andThen_state (f : State → State) : (r.andThen f).state = f r.state := rfl

@[simp] theorem noting_state (e : ExpiryEvent) (comes : State → Bool) : (r.noting e comes).state = r.state := by
  unfold noting
  split <;> rfl

@[simp] theorem timer_state : (r.timer c).state = timerStage c r.state := by simp [timer]

@[simp] theorem miss_state : r.miss.state = missStage r.state := by simp [miss]

@[simp] theorem crossings_state : (r.crossings c).state = takeCrossings c.crossings r.state := rfl

@[simp] theorem generator_state : r.generator.state = generatorStage r.state := by simp [generator]

@[simp] theorem whenever_true (f : Run → Run) : r.whenever true f = f r := rfl

@[simp] theorem whenever_false (f : Run → Run) : r.whenever false f = r := rfl

@[simp] theorem check_state (k : ExpiryCheck) : (Run.check c r k).state = checkStage c k r.state := by
  cases k <;> simp [Run.check]

theorem checks_state (l : List ExpiryCheck) :
    (l.foldl (Run.check c) r).state = l.foldl (fun t k => checkStage c k t) r.state := by
  induction l generalizing r with
  | nil => rfl
  | cons k l ih => simp [ih]

end Run

/-- The state after the tests of the Fault Monitor, from the one after the servo stages. -/
def checked (o : ExpiryOrder) (s t : State) : State :=
  (checkOrder o).foldl (fun t k => checkStage (contextOf s) k t) t

/-- What follows the tests: the sense-change set, the snapshot interval, the head of the queue. -/
theorem expiryRun_state (o : ExpiryOrder) (s : State) :
    (expiryRun o s).state = conclude (intervalStage (senseChange (checked o s (servoRun o s).state))) := by
  simp [expiryRun, checked, Run.checks_state]

/-! ## Kept through the stages -/

theorem presentHeld_keeps (h : Kept s t) : Kept s (presentHeld t) := by
  unfold presentHeld
  split
  · exact present_keeps h
  · exact h

theorem satInc_le {bound : Nat} (n : Nat) : satInc bound n ≤ bound := by
  unfold satInc
  split <;> omega

theorem missStage_keeps (h : Kept s t) : Kept s (missStage t) := by
  have counted : Kept s (t.onMu fun u => { u with missCount := satInc Config.countMax t.mu.missCount }) :=
    h.measuring { MeasurementsKept.refl t.mu with misses := .inr (satInc_le _) } rfl
  have starved : Kept s (starveReel .t (starveReel .s
      (t.onMu fun u => { u with missCount := satInc Config.countMax t.mu.missCount }))) :=
    counted.elsewhere (by simp) (by simp)
  unfold missStage
  split
  · refine ite_keeps (presentHeld_keeps counted) (ite_keeps (takeFault_keeps (starved.measuring ?_ rfl)) starved)
    exact { MeasurementsKept.refl _ with }
  · exact h.measuring { MeasurementsKept.refl t.mu with arrival := fun _ => rfl } rfl

/-- R18: the arrival flag is examined and cleared. -/
theorem missStage_arrival (s : State) : (missStage s).mu.arrival = false := by
  cases a : s.mu.arrival
  · exact (missStage_keeps (Kept.refl s)).measures.arrival a
  · have taken : missed s = false := by simp [missed, a]
    unfold missStage
    rw [if_neg (by simp [taken])]
    rfl

theorem timerStage_keeps {c : Context} (h : Kept s t) : Kept s (timerStage c t) := ite_keeps (phaseTimer_keeps h) h

theorem generatorStage_keeps (h : Kept s t) : Kept s (generatorStage t) :=
  motionEnds_keeps (generatorStep_keeps h)

theorem computeCapstan_keeps (h : Kept s t) : Kept s (computeCapstan t) := h.elsewhere (by simp) (by simp)

theorem endHalt_keeps {b : Bool} (h : Kept s t) : Kept s (endHalt b t) := by
  unfold endHalt
  exact onFm_keeps (enter_keeps h)

theorem haltCheck_keeps {c : Context} (h : Kept s t) : Kept s (haltCheck c t) := by
  unfold haltCheck
  split
  · split
    · exact h
    · exact ite_keeps (endHalt_keeps h) (ite_keeps (endHalt_keeps h) (onFm_keeps h))
  · exact h

theorem checkStage_keeps {c : Context} {k : ExpiryCheck} (h : Kept s t) : Kept s (checkStage c k t) := by
  cases k with
  | position => exact ite_keeps (takeFault_keeps h) h
  | vacuum => exact ite_keeps (takeFault_keeps (onFm_keeps h)) (onFm_keeps h)
  | stall x => exact ite_keeps (takeFault_keeps (onFm_keeps h)) (onFm_keeps h)
  | runaway => exact ite_keeps (takeFault_keeps (onFm_keeps h)) (onFm_keeps h)
  | door => exact evaluateDoor_keeps h
  | halt => exact haltCheck_keeps h

theorem checked_keeps {o : ExpiryOrder} {u : State} (h : Kept s t) : Kept s (checked o u t) := by
  unfold checked
  generalize checkOrder o = l
  induction l generalizing t with
  | nil => exact h
  | cons k l ih => exact ih (checkStage_keeps h)

theorem whenever_keeps {r : Run} {f : Run → Run} (b : Bool) (h : Kept s r.state)
    (hf : Kept s r.state → Kept s (f r).state) : Kept s (r.whenever b f).state := by
  cases b
  · exact h
  · exact hf h

/-- The servo stages keep what the period's own update has measured. -/
theorem servoRun_keeps (o : ExpiryOrder) (s : State) : Kept (s.onMu Mu.atExpiry) (servoRun o s).state := by
  have crossings {r : Run} (b : Bool) (h : Kept (s.onMu Mu.atExpiry) r.state) :
      Kept (s.onMu Mu.atExpiry) (r.whenever b (Run.crossings (contextOf s))).state :=
    whenever_keeps b h (takeCrossings_keeps _)
  have timer {r : Run} (b : Bool) (h : Kept (s.onMu Mu.atExpiry) r.state) :
      Kept (s.onMu Mu.atExpiry) (r.whenever b (Run.timer (contextOf s))).state :=
    whenever_keeps b h fun h => by rw [Run.timer_state]; exact timerStage_keeps h
  have miss {r : Run} (b : Bool) (h : Kept (s.onMu Mu.atExpiry) r.state) :
      Kept (s.onMu Mu.atExpiry) (r.whenever b Run.miss).state :=
    whenever_keeps b h fun h => by rw [Run.miss_state]; exact missStage_keeps h
  have generator {r : Run} (h : Kept (s.onMu Mu.atExpiry) r.state) :
      Kept (s.onMu Mu.atExpiry) (r.generator.andThen computeCapstan).state := by
    rw [Run.andThen_state, Run.generator_state]
    exact computeCapstan_keeps (generatorStage_keeps h)
  exact timer _ (miss _ (timer _ (crossings _ (generator (miss _ (timer _ (crossings _ (Kept.refl _))))))))

/-- R18: after the servo stages the arrival flag is clear, wherever the order puts its examination. -/
theorem servoRun_arrival (o : ExpiryOrder) (s : State) : (servoRun o s).state.mu.arrival = false := by
  obtain ⟨crossingsFirst, presentFirst, timerFirst, checks⟩ := o
  have later {u v : State} (h : Kept u v) (a : u.mu.arrival = false) : v.mu.arrival = false := h.measures.arrival a
  have timed (c : Context) (t : State) : Kept t (timerStage c t) := timerStage_keeps (.refl t)
  have crossed (c : Context) (t : State) : Kept t (takeCrossings c.crossings t) := takeCrossings_keeps _ (.refl t)
  have moved (t : State) : Kept t (computeCapstan (generatorStage t)) :=
    computeCapstan_keeps (generatorStage_keeps (.refl t))
  cases presentFirst
  · cases timerFirst
    · exact later (by simpa [servoRun] using timed _ _) (missStage_arrival _)
    · simp [servoRun, missStage_arrival]
  · cases timerFirst <;> cases crossingsFirst <;> simp only [servoRun, Bool.and_true, Bool.and_false, Bool.not_true,
      Bool.not_false, Run.whenever_true, Run.whenever_false, Run.andThen_state, Run.generator_state, Run.miss_state,
      Run.timer_state, Run.crossings_state]
    · exact later (((moved _).trans (crossed _ _)).trans (timed _ _)) (missStage_arrival _)
    · exact later ((moved _).trans (timed _ _)) (missStage_arrival _)
    · exact later ((moved _).trans (crossed _ _)) (missStage_arrival _)
    · exact later (moved _) (missStage_arrival _)

/-! ## The take of the queue head -/

/-- The measurements stand from s to t, a snapshot that is due stays due, and an interval counter of 0 stays 0. -/
structure Carried (s t : State) : Prop where
  measures : MeasurementsKept s.mu t.mu
  due : s.ru.snapDue = true → t.ru.snapDue = true
  counter : s.ru.snapCounter = 0 → t.ru.snapCounter = 0

theorem Kept.carried (h : Kept s t) : Carried s t := ⟨h.measures, h.interval.due, fun e => h.interval.counter.trans e⟩

theorem Carried.trans {t' : State} (h : Carried s t) (h' : Carried t t') : Carried s t' :=
  ⟨h.measures.trans h'.measures, fun d => h'.due (h.due d), fun e => h'.counter (h.counter e)⟩

theorem takeLoad_keeps {r : Record} (h : Kept s t) : Kept s (takeLoad r t) := by
  have forgotten : Kept s (forgetCircumferences (dropReferenced t)) := by
    refine h.measuring { MeasurementsKept.refl t.mu with tally := ?_, sum := ?_, circumference := ?_ } rfl
    all_goals
      intro y
      cases y <;> simp [forgetCircumferences, dropReferenced]
  exact ite_keeps (refuse_keeps h) (ite_keeps (refuse_keeps h)
    (onTsq_keeps (enter_keeps (onTsq_keeps forgotten))))

theorem takeRewind_keeps {r : Record} (h : Kept s t) : Kept s (takeRewind r t) := by
  have hand : Kept s (takeInHand r (orderFields r.body) false .none t) := onTsq_keeps h
  exact ite_keeps (startFast_keeps (enterKeeping_keeps hand)) (startSearch_keeps (enterKeeping_keeps hand))

theorem takeUnload_keeps {r : Record} (h : Kept s t) : Kept s (takeUnload r t) := by
  have hand : Kept s (takeInHand r (orderFields r.body) false .none t) := onTsq_keeps h
  have dropped : Kept s (dropReferenced (enter .unloaded true false t)) := onTsq_keeps (enter_keeps h)
  exact ite_keeps (doneAtTake_keeps (onFm_keeps dropped))
    (ite_keeps (startFast_keeps (enterKeeping_keeps hand)) (startSearch_keeps (enterKeeping_keeps hand)))

theorem takeRunChain_keeps {r : Record} (h : Kept s t) : Kept s (takeRunChain r t) := by
  have hand : Kept s (takeInHand r (orderFields r.body) false .chain t) := onTsq_keeps h
  exact ite_keeps (refuse_keeps h) (startChainMotion_keeps (enterKeeping_keeps hand))

theorem takeSpace_keeps {r : Record} (h : Kept s t) : Kept s (takeSpace r t) := by
  have hand (f : OrderFields) (b : Bool) : Kept s (takeInHand r f b .space t) := onTsq_keeps h
  exact ite_keeps (doneAtTake_keeps h) (startMotion_keeps (enterKeeping_keeps (hand _ _)))

theorem takeClearFault_keeps {r : Record} (h : Kept s t) : Kept s (takeClearFault r t) := by
  have cleared (code : Nat) (value : Int) (seq : Option Byte) :
      Kept s (clearRecord (generate .faultCleared code value seq t)) := onFm_keeps (generate_keeps h)
  unfold takeClearFault
  split
  · exact refuse_keeps h
  · exact doneAtTake_keeps (ite_keeps (enter_keeps (cleared _ _ _)) (enter_keeps (cleared _ _ _)))

/-- R19: what TRANSPORT RESET leaves of the measurements. -/
theorem transportReset_kept (u : Mu) : MeasurementsKept u u.transportReset :=
  { MeasurementsKept.refl u with
    position := .inr ⟨by simp [Mu.transportReset], by simp [Mu.transportReset]⟩
    silence := fun x => .inr (by cases x <;> rfl)
    tally := fun x => .inr (by cases x <;> rfl)
    sum := fun x => .inr (by cases x <;> rfl)
    circumference := fun x => .inl (by cases x <;> rfl) }

theorem takeTransportReset_keeps {r : Record} (h : Kept s t) : Kept s (takeTransportReset r t) := by
  have stopped : Kept s (enter .unloaded true false ((endChain t).onMg fun _ => Mg.reset)) :=
    enter_keeps (onMg_keeps (endChain_keeps h))
  have dropped : Kept s (dropReferenced (dropWriteEnable (enter .unloaded true false
      ((endChain t).onMg fun _ => Mg.reset)))) := onTsq_keeps (dropWriteEnable_keeps stopped)
  have reset (t : State) (h : Kept s t) : Kept s (t.onMu Mu.transportReset) := h.measuring (transportReset_kept _) rfl
  unfold takeTransportReset
  exact doneAtTake_keeps (onOi_keeps (reset _ (onRl_keeps (onRl_keeps (onCl_keeps (onFm_keeps dropped))))))

theorem carryOut_keeps {r : Record} (h : Kept s t) : Kept s (carryOut r t) := by
  unfold carryOut
  cases r.code with
  | load => exact takeLoad_keeps h
  | unload => exact takeUnload_keeps h
  | rewind => exact takeRewind_keeps h
  | runChain => exact takeRunChain_keeps h
  | space => exact takeSpace_keeps h
  | marker => exact doneAtTake_keeps h
  | clearFault => exact takeClearFault_keeps h
  | returnToSetup => exact doneAtTake_keeps (h.elsewhere rfl rfl)
  | transportReset => exact takeTransportReset_keeps h
  | _ => exact h

theorem takeOrder_keeps {r : Record} (h : Kept s t) : Kept s (takeOrder r t) :=
  ite_keeps (ite_keeps (doneAtTake_keeps h) (refuse_keeps h)) (ite_keeps (carryOut_keeps h) (refuse_keeps h))

/-- R186: SET REPORTING may set the interval counter to 0. -/
theorem applyReporting_carries (b : Body) (s : State) : Carried s (applyReporting b s) := by
  have attention : Kept s (attentionAfterSetup s.mc.params.attnPulse (setParams (withReporting s.mc.params b) s)) := by
    unfold attentionAfterSetup
    have line (t : State) (h : Kept s t) (a : Bool) : Kept s (t.onRu fun u => { u with attention := a, pulse := false }) :=
      h.reporting rfl ⟨rfl, id⟩
    have set : Kept s (setParams (withReporting s.mc.params b) s) := (Kept.refl s).elsewhere rfl rfl
    exact ite_keeps (line _ set _) (ite_keeps set (line _ set _))
  have counted (old : Nat) (t : State) : Carried t (counterAfterSetup old t) := by
    unfold counterAfterSetup
    split
    · exact (Kept.refl t).carried
    · exact ⟨.refl _, id, fun _ => rfl⟩
  exact attention.carried.trans (counted _ _)

theorem setupApplied_keeps {c : Code} {b : Bool} {seq : Byte} (h : Kept s t) : Kept s (setupApplied c b seq t) :=
  generate_keeps h

theorem takeColumns_keeps {r : Record} (h : Kept s t) : Kept s (takeColumns r t) :=
  ite_keeps (setupApplied_keeps (h.elsewhere rfl rfl)) (refuse_keeps h)

theorem takeSenseLine_keeps {r : Record} (h : Kept s t) : Kept s (takeSenseLine r t) := by
  unfold takeSenseLine
  dsimp only
  split
  · exact refuse_keeps h
  · exact refuse_keeps h
  · exact setupApplied_keeps (applySenseLine_keeps h)

theorem applySetup_carries (r : Record) (s : State) : Carried s (applySetup r s) := by
  obtain ⟨seq, code, body⟩ := r
  have set (c : Code) (b : Bool) (p : Params) : Carried s (setupApplied c b seq (setParams p s)) :=
    (setupApplied_keeps (onMc_keeps (.refl s))).carried
  cases code with
  | setReelGains | setCapstanGains | setSpeeds | setLimits | setDefaultCircumference => exact set _ _ _
  | setColumns => exact (takeColumns_keeps (.refl s)).carried
  | setSenseLine => exact (takeSenseLine_keeps (.refl s)).carried
  | setReporting => exact (applyReporting_carries _ s).trans (setupApplied_keeps (.refl _)).carried
  | enterRun => exact (setupApplied_keeps (onMc_keeps (.refl s))).carried
  | _ => exact (Kept.refl s).carried

theorem takeHead_carries (r : Record) (s : State) : Carried s (takeHead r s) := by
  unfold takeHead
  split
  · unfold takeSetup
    split
    · exact applySetup_carries r s
    · exact (refuse_keeps (.refl s)).carried
  · exact (takeOrder_keeps (.refl s)).carried

theorem serveHead_carries (n : Nat) (s : State) : Carried s (serveHead n s) := by
  induction n generalizing s with
  | zero => exact (Kept.refl s).carried
  | succ n ih =>
    unfold serveHead
    split
    · exact (Kept.refl s).carried
    · rename_i r rest _
      split
      · have popped : Carried s (popHead rest s) := (onOi_keeps (.refl s)).carried
        exact (popped.trans (takeHead_carries r _)).trans (ih _)
      · exact (Kept.refl s).carried

theorem orderFetchTest_keeps (h : Kept s t) : Kept s (orderFetchTest t) := ite_keeps (onOi_keeps h) h

theorem conclude_carries (s : State) : Carried s (conclude s) :=
  (serveHead_carries _ s).trans (orderFetchTest_keeps (.refl _)).carried

end Sys2Proof.Machine
end

section
/-! Chapter 1's ranges are kept by every step: the Measurement Unit's own updates, the debounce tick, the port and the
records, and the theorem that settles the invariant. -/

namespace Sys2Proof.Machine

variable {s t : State} {u : Mu}

/-! ## The Measurement Unit's own updates -/

theorem satInc_le_succ (bound n : Nat) : satInc bound n ≤ n + 1 := by
  unfold satInc
  split <;> omega

theorem MeasurementLaw.reset (levels : TachLevels) : MeasurementLaw (Mu.reset levels) where
  position := by simp [Mu.reset]
  speed := by simp [Mu.reset]
  notices := by simp [Mu.reset]
  silence x := by cases x <;> simp [Mu.reset]
  tally x := by cases x <;> simp [Mu.reset]
  sum x := by cases x <;> simp [Mu.reset]
  circumference x c hc := by cases x <;> simp [Mu.reset] at hc
  misses := by simp [Mu.reset]

/-- R1, R3, R5, R6: the period's update. -/
theorem MeasurementLaw.atExpiry (law : MeasurementLaw u) : MeasurementLaw u.atExpiry where
  position := clampPos_bounds _
  speed := clampI_bounds (by decide) _
  notices := Nat.zero_le _
  silence x := by cases x <;> exact satInc_le _
  tally := law.tally
  sum := law.sum
  circumference := law.circumference
  misses := law.misses

/-- R17: a pair arrival. -/
theorem MeasurementLaw.arrive (p : PerReel (BitVec 10)) (law : MeasurementLaw u) : MeasurementLaw (u.arrive p) where
  position := law.position
  speed := law.speed
  notices := law.notices
  silence := law.silence
  tally := law.tally
  sum := law.sum
  circumference := law.circumference
  misses := Nat.zero_le _

theorem addCapstan_tally (e : Estimator) (b : Bool) (n : Int) : (e.addCapstan b n).tally = e.tally := by
  unfold Estimator.addCapstan
  split <;> rfl

theorem addCapstan_circ (e : Estimator) (b : Bool) (n : Int) : (e.addCapstan b n).circ = e.circ := by
  unfold Estimator.addCapstan
  split <;> rfl

/-- R13: the capstan sum saturates. -/
theorem addCapstan_sum_bounds {e : Estimator} (h : -65535 ≤ e.sum ∧ e.sum ≤ 65535) (b : Bool) (n : Int) :
    -65535 ≤ (e.addCapstan b n).sum ∧ (e.addCapstan b n).sum ≤ 65535 := by
  unfold Estimator.addCapstan
  split
  · exact clampI_bounds (by decide) _
  · exact h

/-- A capstan count reaches both estimators alike. -/
theorem addCapstan_get (est : PerReel Estimator) (s : State) (n : Int) (x : Reel) :
    (⟨est.s.addCapstan (estEnabled .s s) n, est.t.addCapstan (estEnabled .t s) n⟩ : PerReel Estimator).get x =
      (est.get x).addCapstan (estEnabled x s) n := by
  cases x <;> rfl

theorem capstanCount_law (ph : Phase) (law : MeasurementLaw s.mu) : MeasurementLaw (capstanCount ph s).mu := by
  unfold capstanCount
  simp only [State.onMu_mu]
  split
  · exact { law with
      tally := fun x => by simpa [addCapstan_get, addCapstan_tally] using law.tally x
      sum := fun x => by simpa [addCapstan_get] using addCapstan_sum_bounds (law.sum x) _ _
      circumference := fun x c hc => law.circumference x c (by simpa [addCapstan_get, addCapstan_circ] using hc) }
  · exact { law with }

/-- R13, R14: what a reel count can do to an estimator: its tally stays below 64, its sum stays or becomes 0, and its
estimate stays or is filtered. -/
theorem addReel_cases {e : Estimator} (tally : e.tally < 64) (winding : Bool) :
    (e.addReel winding).tally < 64 ∧ ((e.addReel winding).sum = e.sum ∨ (e.addReel winding).sum = 0) ∧
      ((e.addReel winding).circ = e.circ ∨
        (e.addReel winding).circ = some (filterEstimate e.circ (windowValue e.sum))) := by
  unfold Estimator.addReel Config.windowCounts
  split
  · exact ⟨by simp, .inl rfl, .inl rfl⟩
  · split
    · split
      · exact ⟨by simp, .inr rfl, .inr rfl⟩
      · exact ⟨by dsimp only; omega, .inl rfl, .inl rfl⟩
    · exact ⟨by simp, .inr rfl, .inl rfl⟩

/-- R13: M lies in the circumference range. -/
theorem windowValue_bounds (sum : Int) : 6000 ≤ windowValue sum ∧ windowValue sum ≤ 17000 :=
  clampN_bounds (by decide) _

/-- R14: the filter stays within the circumference range. -/
theorem filterEstimate_bounds {old : Option Nat} {m : Nat} (h : ∀ c, old = some c → 6000 ≤ c ∧ c ≤ 17000)
    (hm : 6000 ≤ m ∧ m ≤ 17000) : 6000 ≤ filterEstimate old m ∧ filterEstimate old m ≤ 17000 := by
  cases old with
  | none => exact hm
  | some c =>
    have hc := h c rfl
    unfold filterEstimate
    dsimp only
    omega

theorem reelCount_law (x : Reel) (ph : Phase) (law : MeasurementLaw s.mu) : MeasurementLaw (reelCount x ph s).mu := by
  have silent (y : Reel) : (s.mu.silence.set x 0).get y ≤ 65535 := by
    rw [PerReel.get_set]
    split
    · exact Nat.zero_le _
    · exact law.silence y
  unfold reelCount
  simp only [State.onMu_mu]
  split
  · split
    · obtain ⟨tally, sum, circ⟩ := addReel_cases (law.tally x) (countForward ph (s.mu.reelRef.get x))
      refine { law with silence := silent, tally := fun y => ?_, sum := fun y => ?_, circumference := fun y c => ?_ }
      all_goals
        dsimp only
        rw [PerReel.get_set]
        split
      · exact tally
      · exact law.tally y
      · exact sum.elim (fun e => e ▸ law.sum x) fun e => by omega
      · exact law.sum y
      · intro hc
        rcases circ with e | e <;> rw [e] at hc
        · exact law.circumference x c hc
        · cases hc
          exact filterEstimate_bounds (law.circumference x) (windowValue_bounds _)
      · exact law.circumference y c
    · exact { law with silence := silent }
  · exact { law with }

theorem bothChange_law (tach : Tach) (law : MeasurementLaw s.mu) : MeasurementLaw (bothChange tach s).mu := by
  cases tach <;> exact { law with }

/-- R8: at most four notices are held. -/
theorem addNotice_law (mark : Mark) (law : MeasurementLaw s.mu) : MeasurementLaw (addNotice mark s).mu :=
  { law with notices := by simp [addNotice, Config.noticeMax] }

/-! ## The debounce tick -/

theorem notice_law (k : Fin 12) (law : MeasurementLaw s.mu) : MeasurementLaw (notice k s).mu := by
  have acted : ∀ f : Func, MeasurementLaw (noticeAction f s).mu := fun f => by
    cases f with
    | limit x upper => exact (limitCondition_keeps (.refl s)).measures.law law
    | botMark | eotMark => exact addNotice_law _ law
    | none | vacuumOk | doorClosed | tapeInPath | writeRing => exact law
  exact acted _

theorem acceptChange_law (k : Fin 12) (law : MeasurementLaw s.mu) : MeasurementLaw (acceptChange k s).mu := by
  have handed (f : Func) (g : Line → Line) : MeasurementLaw (handOnLevel f (onLine k g s)).mu :=
    (handOnLevel_keeps (onSlu_keeps (.refl s))).measures.law law
  unfold acceptChange
  dsimp only
  split
  · exact notice_law k (handed _ _)
  · exact handed _ _

theorem levelNotice_law (k : Fin 12) (law : MeasurementLaw s.mu) : MeasurementLaw (levelNotice k s).mu := by
  unfold levelNotice
  dsimp only
  split
  · exact notice_law k law
  · exact law

theorem tickLine_law (raw : BitVec 12) (k : Fin 12) (law : MeasurementLaw s.mu) :
    MeasurementLaw (tickLine raw k s).mu := by
  unfold tickLine
  dsimp only
  split
  · exact law
  · apply levelNotice_law
    split
    · exact law
    · split
      · exact acceptChange_law k law
      · exact law

theorem tick_law (raw : BitVec 12) (order : List (Fin 12)) (law : MeasurementLaw s.mu) :
    MeasurementLaw (tick raw order s).mu := by
  have lines (l : List (Fin 12)) (t : State) (h : MeasurementLaw t.mu) :
      MeasurementLaw (l.foldl (fun s k => tickLine raw k s) t).mu := by
    induction l generalizing t with
    | nil => exact h
    | cons k l ih => exact ih _ (tickLine_law raw k h)
  exact lines _ _ law

/-! ## The stop word, the port and the records -/

theorem requestStop_keeps {kind : StopKind} (h : Kept s t) : Kept s (requestStop kind t) := by
  unfold requestStop
  exact onMg_keeps (dropWriteEnable_keeps (onTsq_keeps h))

theorem stopAction_keeps {kind : StopKind} (h : Kept s t) : Kept s (stopAction kind t) := by
  unfold stopAction
  split
  any_goals exact endUnloaded_keeps h
  any_goals exact requestStop_keeps h
  all_goals exact h

theorem takeStopWord_keeps {w : Word} (h : Kept s t) : Kept s (takeStopWord w t) := by
  have flushed (t : State) (h : Kept s t) : Kept s (flush (stopKind w) (stopResume w) t) := by
    have emptied : Kept s (flushIntake (stopResume w) t) := onOi_keeps h
    unfold flush
    exact generate_keeps emptied
  exact ite_keeps (flushed _ (stopAction_keeps h)) (stopAction_keeps h)

@[simp] theorem conclude_law (law : MeasurementLaw s.mu) : MeasurementLaw (conclude s).mu :=
  (conclude_carries s).measures.law law

theorem snoopWord_law (w : RegionWord) (be : ByteEnables) (data : Word) (answered : Bool)
    (law : MeasurementLaw s.mu) : MeasurementLaw (snoopWord w be data answered s).mu := by
  cases w with
  | slotWord j k => simpa [snoopWord, slotWordEnds] using law
  | postWord j =>
    change MeasurementLaw (postWordEnds j be data answered s).mu
    unfold postWordEnds
    split <;> simpa using law
  | entryWord i k => simpa [snoopWord, entryWordEnds] using law
  | entryClosing i =>
    change MeasurementLaw (entryClosingEnds i be data answered s).mu
    unfold entryClosingEnds
    dsimp only
    split <;> simpa using law
  | release =>
    change MeasurementLaw (if captured be then takeRelease data s else s).mu
    split <;> simpa using law
  | stop => exact (ite_keeps (takeStopWord_keeps (.refl s)) (.refl s)).measures.law law
  | unwatched => exact law

theorem snoop_law (w : RegionWord) (be : ByteEnables) (data : Word) (answered : Bool) (law : MeasurementLaw s.mu) :
    MeasurementLaw (snoop w be data answered s).mu := by
  unfold snoop
  split
  · exact snoopWord_law w be data answered law
  · exact law

@[simp] theorem beginJob_mu (k : AgentJob) (s : State) : (beginJob k s).mu = s.mu := by cases k <;> simp [beginJob]

@[simp] theorem takeStart_mu (k : AgentJob) (s : State) : (takeStart k s).mu = s.mu := by
  rw [takeStart_eq]
  split
  · simp
  · split <;> rfl

@[simp] theorem takeKept_mu (kept : Option AgentJob) (s : State) : (takeKept kept s).mu = s.mu := by
  cases kept with
  | none => rfl
  | some k =>
    unfold takeKept beginOr
    dsimp only
    split
    · simp
    · rfl

theorem forwardedEnds_law (acc : Access) (answered : Bool) (data : Word) (law : MeasurementLaw s.mu) :
    MeasurementLaw (forwardedEnds acc answered data s).mu := by
  cases write : acc.write
  · rw [forwardedEnds_of_read write]
    simpa using conclude_law (s := takeComing (completeU _ _ s)) (by simpa using law)
  · rw [forwardedEnds_of_write write]
    have snooped := snoop_law (addressed acc.addr s) acc.be acc.data answered law
    simpa using conclude_law (s := takeComing (completeU _ _ (snoop _ _ _ _ s))) (by simpa using snooped)

theorem endForwarded_law (answered : Bool) (data : Word) (law : MeasurementLaw s.mu) :
    MeasurementLaw (endForwarded answered data s).mu := by
  unfold endForwarded
  split
  · exact forwardedEnds_law _ _ _ law
  all_goals exact law

theorem watchedWrite_law (off : Nat) (be : ByteEnables) (data : Word) (answered : Bool) (law : MeasurementLaw s.mu) :
    MeasurementLaw (watchedWrite off be data answered s).mu := by
  unfold watchedWrite
  split
  · exact endForwarded_law _ _ law
  · exact conclude_law (snoop_law _ _ _ _ law)

theorem presentAccess_mu (acc : Access) (s : State) : (presentAccess acc s).mu = s.mu := by
  unfold presentAccess
  split <;> simp

theorem endAgentWord_law {f : Job → State → State} (hf : ∀ j t, (f j t).mu = t.mu) (law : MeasurementLaw s.mu) :
    MeasurementLaw (endAgentWord f s).mu := by
  unfold endAgentWord
  split
  · dsimp only
    split
    · simpa using conclude_law (s := f _ (freeMSide s)) (by simpa [hf] using law)
    · simpa using law
  · simpa using law
  all_goals exact law

theorem recordArrives_law (c : Code) (seq : Byte) (b : Body) (law : MeasurementLaw s.mu) :
    MeasurementLaw (recordArrives c seq b s).mu := by
  unfold recordArrives
  split
  · exact conclude_law (by simpa using law)
  · exact law

/-! ## The expiry -/

theorem expiryRun_law (o : ExpiryOrder) (law : MeasurementLaw s.mu) : MeasurementLaw (expiryRun o s).state.mu := by
  rw [expiryRun_state]
  apply conclude_law
  have kept : Kept (s.onMu Mu.atExpiry) (senseChange (checked o s (servoRun o s).state)) :=
    senseChange_keeps (checked_keeps (servoRun_keeps o s))
  simpa using kept.measures.law law.atExpiry

theorem expiry_law (o : ExpiryOrder) (law : MeasurementLaw s.mu) : MeasurementLaw (expiry o s).mu := by
  unfold expiry
  split
  · exact expiryRun_law o law
  · exact law

theorem namedExpiry_law (e : ExpiryEvent) (o : ExpiryOrder) (law : MeasurementLaw s.mu) :
    MeasurementLaw (namedExpiry e o s).mu := by
  unfold namedExpiry
  split
  · exact expiryRun_law o law
  · exact law

/-! ## Every command, and the step -/

theorem sampleFrame_law (bits : List Bool) (law : MeasurementLaw s.mu) (h : execSampleFrame bits s = .next t) :
    MeasurementLaw t.mu := by
  unfold execSampleFrame at h
  obtain rfl := Host.Outcome.next.inj h
  split
  · exact law
  · split
    · exact { law with }
    · cases framePair bits with
      | none => exact law
      | some p =>
        have arrived : MeasurementLaw (s.onMu (Mu.arrive p)).mu := law.arrive p
        exact (present_keeps (.refl _)).measures.law arrived

/-- Every command keeps the ranges of chapter 1. -/
theorem exec_keeps_measurementLaw {c : Instr} (law : MeasurementLaw s.mu) (h : exec c s = .next t) :
    MeasurementLaw t.mu := by
  cases c
  case sampleFrame bits => exact sampleFrame_law bits law h
  all_goals obtain rfl := Host.Outcome.next.inj h
  case powerOnReset straps levels => exact .reset levels
  case lineReset levels =>
    unfold lineReset
    simpa [powerOnReset, State.powerOn] using MeasurementLaw.reset levels
  case resetRelease =>
    unfold resetRelease
    split <;> exact law
  case initialisationEnd =>
    unfold initialisationEnd
    split <;> exact { law with }
  case periodExpiry o => exact expiry_law o law
  case sampleLoss o | settleComplete o | settleTimeout o | speedReduced o | haltWaitLimit o | capstanRunaway o
    | vacuumSettled o | loadTimeout o | unloadTimeout o | snapshotInterval o => exact namedExpiry_law _ o law
  case reelStall x o => exact namedExpiry_law _ o law
  case capstanTachCount ph => exact capstanCount_law ph law
  case reelTachCount x ph => exact reelCount_law x ph law
  case windowComplete x ph =>
    split
    · exact reelCount_law x ph law
    · exact law
  case debounceTick raw order => exact conclude_law (tick_law raw order law)
  case acceptedChange k raw order =>
    split
    · exact conclude_law (tick_law raw order law)
    · exact law
  case uSideAccess acc => simpa [presentAccess_mu] using law
  case forwardedAccessEnd data => exact endForwarded_law _ _ law
  case memoryResponseTimeout => exact endForwarded_law _ _ law
  case orderSlotWordWrite | orderPostWordWrite | segmentWordWrite | segmentClosingWrite | releaseWord | stopWord =>
    exact watchedWrite_law _ _ _ _ law
  case reportWriteStart | orderFetchStart | segmentFetchStart | snapshotWriteStart => simpa using law
  case agentWordEnd data => exact endAgentWord_law (by simp) law
  case agentWordTimeout => exact endAgentWord_law (by simp) law
  case attentionPulseEnd =>
    split <;> exact law
  case convertPulseEnd => exact { law with }
  case bothPhasesChange tach => exact bothChange_law tach law
  all_goals exact recordArrives_law _ _ _ law

/-- Settles O8: the command at the front of the queue keeps the ranges, and an idle step changes nothing. -/
theorem measurementsStayInRange : Obligations.MeasurementsStayInRange := by
  unfold Obligations.MeasurementsStayInRange
  intro s t law h
  unfold step at h
  split at h
  · obtain rfl := Host.Outcome.next.inj h
    exact law
  · rename_i c rest _
    exact exec_keeps_measurementLaw (s := { s with pending := rest }) law h

end Sys2Proof.Machine
end

section
/-! The resets and the end of initialisation, the pulses, and the two tachometer statements. -/

namespace Sys2Proof.Machine

variable {s t : State}

/-! ## Power-on values -/

/-- Power-on reset gives what the reset tables give, whatever the straps and the sense inputs. -/
theorem powerOn_resetValues (straps : Straps) (levels : TachLevels) (raw : BitVec 12) (pending : List Instr) :
    ResetValues levels (State.powerOn straps levels raw pending) where
  counts := ⟨rfl, rfl, rfl, rfl, rfl, rfl, rfl⟩
  references := ⟨rfl, rfl⟩
  reels x := by cases x <;> exact ⟨rfl, rfl, rfl, rfl⟩
  samples := ⟨rfl, rfl, rfl, rfl, rfl⟩
  generator := ⟨rfl, rfl, rfl, rfl, rfl, rfl, rfl, rfl, rfl, rfl, rfl, rfl⟩
  marks := ⟨rfl, rfl, rfl, rfl, rfl, rfl, rfl, rfl, rfl, rfl⟩
  loops := ⟨rfl, fun x => by cases x <;> rfl⟩
  cache := ⟨fun i => by simp [State.powerOn, Sc.reset, Vector.get], rfl, rfl⟩
  walker := ⟨rfl, rfl, rfl, rfl, rfl, rfl, rfl, rfl, rfl⟩
  transport := rfl
  faults := ⟨rfl, rfl, rfl, rfl, rfl, rfl, rfl, rfl⟩
  lines := ⟨fun k => by simp [State.powerOn, Slu.reset, Vector.get, Line.reset], rfl, rfl⟩
  intake := rfl
  agent := ⟨rfl, rfl, rfl⟩
  ring := ⟨rfl, rfl, rfl, rfl, rfl, fun k => by simp [State.powerOn, Ru.reset, Vector.get]⟩
  lineAndSnapshot := ⟨rfl, rfl, rfl, rfl⟩
  mode := rfl
  gains := ⟨fun x => by cases x <;> rfl, rfl, rfl, rfl⟩
  columns := ⟨fun x => by cases x <;> rfl, rfl, rfl, rfl, rfl⟩
  speeds := ⟨rfl, rfl, rfl, rfl, rfl, rfl, rfl⟩
  limits := ⟨rfl, rfl, rfl, rfl, rfl, rfl, rfl, rfl, rfl, rfl, rfl, rfl, rfl, rfl⟩
  reporting := ⟨rfl, rfl, rfl, rfl, rfl⟩

/-- Settles O3: the machine's reset is a power-on reset with every pin low. -/
theorem resetHoldsSpecValues : Obligations.ResetHoldsSpecValues := by
  unfold Obligations.ResetHoldsSpecValues
  exact ⟨powerOn_resetValues _ _ _ _, rfl, rfl⟩

/-! ## Line reset -/

/-- Without a job the arbiter grants the waiting U-side access, if there is one, and passes nobody over. -/
theorem arbitrate_of_noJob (h : s.ma.job = none) : arbitrate s = s ∨ ∃ acc, arbitrate s = grantU acc false s := by
  by_cases free : s.ptp.mSide = .free
  · have noAgent : waitingAgent s = none := by simp [waitingAgent, h]
    rcases arbitrate_of_free free with ⟨-, -, e⟩ | ⟨acc, -, -, e⟩ | ⟨j, -, agent, -⟩ | ⟨acc, j, -, agent, -⟩
    · exact .inl e
    · exact .inr ⟨acc, e⟩
    · simp [noAgent] at agent
    · simp [noAgent] at agent
  · exact .inl (arbitrate_of_busy free)

/-- R181: the state of a line reset before the arbiter's grant. -/
def resetKeepingBus (levels : TachLevels) (s : State) : State :=
  { powerOnReset s.mc.straps levels s with
    ptp := s.ptp.lineReset
    mc := { (powerOnReset s.mc.straps levels s).mc with resetAsserted := true, initRunning := false } }

theorem lineReset_eq (levels : TachLevels) (s : State) : lineReset levels s = arbitrate (resetKeepingBus levels s) := rfl

theorem resetKeepingBus_resetValues (levels : TachLevels) (s : State) :
    ResetValues levels (resetKeepingBus levels s) :=
  { powerOn_resetValues s.mc.straps levels s.slu.raw s.pending with
    cache := (powerOn_resetValues s.mc.straps levels s.slu.raw s.pending).cache
    agent := ⟨rfl, rfl, rfl⟩ }

/-- R166: with an access on the M-side the arbiter does not grant at a line reset. -/
theorem lineReset_of_busy (levels : TachLevels) (h : s.ptp.mSide.afterReset ≠ .free) :
    lineReset levels s = resetKeepingBus levels s :=
  arbitrate_of_busy h

theorem lineReset_resetValues (levels : TachLevels) (s : State) : ResetValues levels (lineReset levels s) := by
  have values := resetKeepingBus_resetValues levels s
  rcases arbitrate_of_noJob (s := resetKeepingBus levels s) rfl with e | ⟨acc, e⟩ <;> rw [lineReset_eq, e]
  · exact values
  · exact { values with agent := ⟨rfl, rfl, rfl⟩ }

/-- R180: what the end of the initialisation interval does. -/
theorem initialisationEnd_of_running (active : Bool) (mode : s.mc.mode = .initialising)
    (running : s.mc.initRunning = true) :
    initialisationEnd active s = { s with
      mc := { s.mc with mode := modeAfterInit s.mc.straps, initRunning := false }
      ru := { s.ru with snapDue := true }
      mu := { s.mu with frame := receiverAfterInit active } } := by
  unfold initialisationEnd
  rw [if_pos (by simp [initialising, mode, running])]
  rfl

/-- Settles O14: the resets give the reset tables' values, and the accesses on the bus stand as R166 says. -/
theorem resetsAndStartUp : Obligations.ResetsAndStartUp := by
  unfold Obligations.ResetsAndStartUp
  refine ⟨?powerOn, ?lineReset, ?agentWord, ?forwarded, ?held, ?release, ?noRelease, ?initEnd, ?noInit⟩
  case powerOn =>
    intro s straps levels
    exact ⟨_, rfl, { powerOn_resetValues straps levels s.slu.raw s.pending with
      cache := (powerOn_resetValues straps levels s.slu.raw s.pending).cache }, rfl, rfl, rfl, rfl, rfl, rfl, rfl⟩
  case lineReset =>
    intro s levels
    refine ⟨_, rfl, lineReset_resetValues levels s, ?_⟩
    rw [lineReset_eq]
    simp [resetKeepingBus, powerOnReset, State.powerOn, transportReady, watching, Mc.reset]
  case agentWord =>
    intro s levels acc n busy
    refine ⟨_, rfl, ?_⟩
    rw [lineReset_of_busy _ (by simp [busy, MSide.afterReset])]
    simp [resetKeepingBus, Ptp.lineReset, busy, MSide.afterReset]
  case forwarded =>
    intro s levels acc n busy
    refine ⟨_, rfl, ?_⟩
    rw [lineReset_of_busy _ (by simp [busy, MSide.afterReset])]
    simp [resetKeepingBus, Ptp.lineReset, busy, MSide.afterReset]
  case held =>
    intro s levels acc busy held
    have stays : s.ptp.mSide.afterReset ≠ .free := by
      cases m : s.ptp.mSide <;> simp_all [MSide.afterReset]
    refine ⟨_, rfl, ?_⟩
    rw [lineReset_of_busy _ stays]
    simp [resetKeepingBus, Ptp.lineReset, held, UPhase.afterReset]
  case release =>
    intro s asserted
    exact congrArg _ (if_pos asserted)
  case noRelease =>
    intro s asserted
    exact congrArg _ (if_neg (by simp [asserted]))
  case initEnd =>
    intro s active mode running
    refine ⟨_, rfl, initialisationEnd_of_running active mode running, ?_⟩
    rw [initialisationEnd_of_running active mode running]
    simp only [transportReady, watching, modeAfterInit]
    split <;> rfl
  case noInit =>
    intro s active h
    exact congrArg _ (if_neg (by simpa [initialising, imp_iff_not_or] using h))

/-! ## Pulses -/

/-- Settles O28: each pulse's end drops its line, and without a pulse nothing happens. -/
theorem pulsesEnd : Obligations.PulsesEnd := by
  unfold Obligations.PulsesEnd
  refine ⟨fun s => rfl, fun s pulse => ?_, fun s pulse => ?_⟩
  · exact congrArg _ (if_pos pulse)
  · exact congrArg _ (if_neg (by simp [pulse]))

/-! ## Tachometers -/

theorem estEnabled_iff (x : Reel) (s : State) :
    estEnabled x s = true ↔ s.tsq.vacuum = true ∧ (s.rl.get x).mode ≠ .fill := by
  simp [estEnabled]

/-! R2: the decoding of a change of each phase, and the reference after it. -/

@[simp] theorem countForward_a (r : Phases) : countForward .a r = decide ((!r.a) ≠ r.b) := by
  obtain ⟨a, b⟩ := r
  cases a <;> cases b <;> rfl

@[simp] theorem countForward_b (r : Phases) : countForward .b r = decide ((!r.b) = r.a) := by
  obtain ⟨a, b⟩ := r
  cases a <;> cases b <;> rfl

@[simp] theorem flipPhase_a (r : Phases) : flipPhase .a r = ⟨!r.a, r.b⟩ := rfl

@[simp] theorem flipPhase_b (r : Phases) : flipPhase .b r = ⟨r.a, !r.b⟩ := rfl

/-- R13: what a capstan count makes of an estimator. -/
theorem addCapstan_eq (e : Estimator) (x : Reel) (s : State) (n : Int) :
    e.addCapstan (estEnabled x s) n =
      if s.tsq.vacuum = true ∧ (s.rl.get x).mode ≠ .fill then
        { e with sum := max (-65535) (min 65535 (e.sum + n)) }
      else e := by
  unfold Estimator.addCapstan
  simp only [estEnabled_iff, clampI_eq_max_min (show -Config.sumMax ≤ Config.sumMax by decide)]
  rfl

/-- Settles O26: the capstan's counts by the three cases of R2 and R19. -/
theorem capstanCountsAreDecoded : Obligations.CapstanCountsAreDecoded := by
  unfold Obligations.CapstanCountsAreDecoded
  refine ⟨?counted, ?held, fun s => rfl⟩
  case counted =>
    intro s ph released
    have counted : capstanCount ph s = s.onMu fun u => { u with
        capRef := flipPhase ph u.capRef
        accum := u.accum + dirSign (countForward ph s.mu.capRef)
        est := ⟨u.est.s.addCapstan (estEnabled .s s) (dirSign (countForward ph s.mu.capRef)),
          u.est.t.addCapstan (estEnabled .t s) (dirSign (countForward ph s.mu.capRef))⟩ } := by
      simp [capstanCount, countsTaken, released]
    refine ⟨_, rfl, ?_, ?_⟩
    · rw [counted]
      refine ⟨?_, ?_, fun x => ?_⟩
      · cases ph <;> simp [dirSign]
      · cases ph <;> rfl
      · rw [State.onMu_mu, addCapstan_get, addCapstan_eq]
        cases ph <;> simp [dirSign]
    · rw [counted]
      rfl
  case held =>
    intro s ph asserted
    have followed : capstanCount ph s = s.onMu fun u => { u with capRef := flipPhase ph u.capRef } := by
      simp [capstanCount, countsTaken, asserted]
    change Host.Outcome.next (capstanCount ph s) = _
    rw [followed]
    cases ph <;> rfl

/-- R4, R5: what a reel count does outside RESET. -/
theorem reelCount_of_counted (x : Reel) (ph : Phase) (h : s.mc.resetAsserted = false) :
    reelCount x ph s = s.onMu fun u => { u with
      reelRef := u.reelRef.set x (flipPhase ph (u.reelRef.get x))
      silence := u.silence.set x 0
      est := if estEnabled x s then u.est.set x ((u.est.get x).addReel (countForward ph (s.mu.reelRef.get x)))
        else u.est } := by
  simp [reelCount, countsTaken, h]

/-- R13: the cases of a reel count that does not complete a window. -/
theorem addReel_of_empty {e : Estimator} (w : Bool) (h : e.tally = 0) :
    e.addReel w = { e with tally := 1, winding := w } := by simp [Estimator.addReel, h]

theorem addReel_of_more {e : Estimator} {w : Bool} (h : e.tally ≠ 0) (h' : e.tally ≠ 63) (same : e.winding = w) :
    e.addReel w = { e with tally := e.tally + 1 } := by
  simp [Estimator.addReel, h, same, Config.windowCounts, h']

theorem addReel_of_reversal {e : Estimator} {w : Bool} (h : e.tally ≠ 0) (other : e.winding ≠ w) :
    e.addReel w = { e with tally := 1, winding := w, sum := 0 } := by simp [Estimator.addReel, h, other]

/-- R13, R14: the 64th count of the tally's direction completes the window. -/
theorem addReel_of_window {e : Estimator} {w : Bool} (h : e.tally = 63) (same : e.winding = w) :
    e.addReel w =
      { e with tally := 0, sum := 0, circ := some (filterEstimate e.circ (windowValue e.sum)) } := by
  simp [Estimator.addReel, h, same, Config.windowCounts]

theorem windowValue_eq (sum : Int) : windowValue sum = max 6000 (min 17000 sum.natAbs) :=
  clampN_eq_held (by decide) _

/-! ### The circumference fields of the snapshot -/

theorem place_toNat (n lo : Nat) : (place n lo).toNat = n <<< lo % 4294967296 := by simp [place]

/-- Fields at 0, 14 and 28 do not touch one another: their disjunction is their sum. -/
theorem snapshotWord3_toNat {a b : Nat} (ha : a < 2 ^ 14) (hb : b < 2 ^ 14) (c : Nat) :
    (place a 0 ||| place b 14 ||| place c 28).toNat = c % 16 * 268435456 + (b * 16384 + a) := by
  have low : a ||| b <<< 14 = b * 16384 + a := by
    rw [Nat.or_comm, ← Nat.shiftLeft_add_eq_or_of_lt ha, Nat.shiftLeft_eq]
  have fits : b * 16384 + a < 2 ^ 28 := by omega
  have high : (b * 16384 + a) ||| (c % 16) <<< 28 = c % 16 * 268435456 + (b * 16384 + a) := by
    rw [Nat.or_comm, ← Nat.shiftLeft_add_eq_or_of_lt fits, Nat.shiftLeft_eq]
  have first : a <<< 0 % 4294967296 = a := by
    rw [Nat.shiftLeft_zero]
    omega
  have second : b <<< 14 % 4294967296 = b <<< 14 := by
    rw [Nat.shiftLeft_eq]
    omega
  have third : c <<< 28 % 4294967296 = (c % 16) <<< 28 := by
    rw [Nat.shiftLeft_eq, Nat.shiftLeft_eq]
    omega
  rw [BitVec.toNat_or, BitVec.toNat_or, place_toNat, place_toNat, place_toNat, first, second, third, low, high]

/-- Section 12.5: word 3 of the snapshot shows the two circumference fields. -/
theorem snapshotWord3_fields {a b : Nat} (ha : a < 2 ^ 14) (hb : b < 2 ^ 14) (c : Nat) :
    bits (place a 0 ||| place b 14 ||| place c 28) 13 0 = a ∧
      bits (place a 0 ||| place b 14 ||| place c 28) 27 14 = b := by
  simp only [bits, snapshotWord3_toNat ha hb, Nat.shiftRight_eq_div_pow]
  omega

/-- An estimate in its range fits its field of the snapshot. -/
theorem circField_lt {circ : Option Nat} (h : ∀ c, circ = some c → 6000 ≤ c ∧ c ≤ 17000) : circField circ < 2 ^ 14 := by
  cases circ with
  | none => exact Nat.two_pow_pos 14
  | some c =>
    obtain ⟨-, high⟩ := h c rfl
    change c - 5999 < 2 ^ 14
    omega

/-- Section 12.5: the snapshot shows an estimate in its range. -/
theorem snapshot_shows_estimate (law : MeasurementLaw s.mu) (x : Reel) {c : Nat}
    (hc : (s.mu.est.get x).circ = some c) :
    (x = .s → bits ((snapshotWords s).getD 3 0) 13 0 = c - 5999) ∧
      (x = .t → bits ((snapshotWords s).getD 3 0) 27 14 = c - 5999) := by
  obtain ⟨sField, tField⟩ := snapshotWord3_fields (circField_lt (law.circumference .s))
    (circField_lt (law.circumference .t)) s.oi.queue.length
  constructor <;> rintro rfl
  · exact sField.trans (by rw [hc]; rfl)
  · exact tField.trans (by rw [hc]; rfl)

/-- Settles O27: each case of a reel count by the tally and its direction, and the window's end with the snapshot. -/
theorem reelCountsMeasureTheReels : Obligations.ReelCountsMeasureTheReels := by
  unfold Obligations.ReelCountsMeasureTheReels
  refine ⟨?counted, fun s x => rfl, ?window, ?held⟩
  case counted =>
    intro s x ph released
    have counted := reelCount_of_counted x ph released
    refine ⟨_, rfl, ⟨?reference, ?silence, ?disabled, ?empty, ?more, ?reversal⟩, ?frame⟩ <;> rw [counted]
    case reference => cases ph <;> rfl
    case silence => rfl
    case disabled =>
      intro off
      have disabled : ¬ estEnabled x s = true := by
        rw [estEnabled_iff]
        rintro ⟨vacuum, mode⟩
        rcases off with e | e
        · simp [vacuum] at e
        · exact mode e
      simp [disabled]
    case empty =>
      intro vacuum mode tally
      cases ph <;> simp [(estEnabled_iff x s).mpr ⟨vacuum, mode⟩, addReel_of_empty _ tally]
    case more =>
      intro vacuum mode some notFull same
      have same' : (s.mu.est.get x).winding = countForward ph (s.mu.reelRef.get x) := by
        cases ph <;> simpa using same
      simp [(estEnabled_iff x s).mpr ⟨vacuum, mode⟩, addReel_of_more some notFull same']
    case reversal =>
      intro vacuum mode some other
      have other' : (s.mu.est.get x).winding ≠ countForward ph (s.mu.reelRef.get x) := by
        cases ph <;> simpa using other
      simp only [(estEnabled_iff x s).mpr ⟨vacuum, mode⟩, if_true, State.onMu_mu, addReel_of_reversal some other']
      cases ph <;> simp
    case frame => rfl
  case window =>
    intro s x ph law released vacuum mode tally same
    have same' : (s.mu.est.get x).winding = countForward ph (s.mu.reelRef.get x) := by
      cases ph <;> simpa using same
    have enabled := (estEnabled_iff x s).mpr ⟨vacuum, mode⟩
    have completes : windowCompletes x ph s = true := by
      simp [windowCompletes, countsTaken, released, enabled, tally, same', Config.windowCounts]
    have counted := reelCount_of_counted x ph released
    have bounds := filterEstimate_bounds (law.circumference x) (windowValue_bounds (s.mu.est.get x).sum)
    have shown := snapshot_shows_estimate (reelCount_law x ph law) x
      (c := filterEstimate (s.mu.est.get x).circ (windowValue (s.mu.est.get x).sum))
      (by simp [counted, enabled, addReel_of_window tally same'])
    refine ⟨reelCount x ph s, congrArg Host.Outcome.next (if_pos completes), rfl, ?_, ?_, ?_, ?_⟩
    · have window : (reelCount x ph s).mu.est = s.mu.est.set x { s.mu.est.get x with
          tally := 0, sum := 0
          circ := some (filterEstimate (s.mu.est.get x).circ (windowValue (s.mu.est.get x).sum)) } := by
        simp [counted, enabled, addReel_of_window tally same']
      rw [windowValue_eq] at window bounds shown
      cases old : (s.mu.est.get x).circ <;> rw [old] at window bounds shown <;> simp only [old] <;>
        exact ⟨window, bounds.1, bounds.2, shown⟩
    all_goals rw [counted]
    · cases ph <;> rfl
    · rfl
    · rfl
  case held =>
    intro s x ph asserted
    have followed : reelCount x ph s = s.onMu fun u => { u with
        reelRef := u.reelRef.set x (flipPhase ph (u.reelRef.get x)) } := by
      simp [reelCount, countsTaken, asserted]
    change Host.Outcome.next (reelCount x ph s) = _
    rw [followed]
    cases ph <;> rfl

end Sys2Proof.Machine
end

section
/-! A column sample frame: what it carries, what the two reel loops do with it, and the end of the FILL phase. -/

namespace Sys2Proof.Machine

variable {s t : State}

/-! ## The bits of a frame (R16) -/

theorem foldl_bits (l : List Bool) (n : Nat) :
    l.foldl (fun n b => 2 * n + flagBit b) n = n * 2 ^ l.length + bitsNumber l := by
  induction l generalizing n with
  | nil => simp [bitsNumber]
  | cons b l ih =>
    unfold bitsNumber
    rw [List.foldl_cons, List.foldl_cons, ih, ih, List.length_cons, pow_succ]
    ring

theorem bitsNumber_cons (b : Bool) (l : List Bool) :
    bitsNumber (b :: l) = flagBit b * 2 ^ l.length + bitsNumber l := by
  unfold bitsNumber
  rw [List.foldl_cons, foldl_bits]
  simp [bitsNumber]

/-- The low n bits of a word, most significant first, as a number. -/
theorem bitsNumber_low {w : Nat} (a : BitVec w) (n : Nat) :
    bitsNumber ((List.range n).map fun k => a.getLsbD (n - 1 - k)) = a.toNat % 2 ^ n := by
  induction n with
  | zero => simp [bitsNumber, Nat.mod_one]
  | succ n ih =>
    have tail : ((List.range n).map Nat.succ).map (fun k => a.getLsbD (n + 1 - 1 - k)) =
        (List.range n).map fun k => a.getLsbD (n - 1 - k) := by
      rw [List.map_map]
      refine List.map_congr_left fun k _ => ?_
      show a.getLsbD (n - (k + 1)) = a.getLsbD (n - 1 - k)
      rw [Nat.add_comm k 1, Nat.sub_add_eq]
    have top : flagBit (a.getLsbD n) = a.toNat / 2 ^ n % 2 := by
      rw [BitVec.getLsbD, Nat.testBit_eq_decide_div_mod_eq, flagBit]
      by_cases h : a.toNat / 2 ^ n % 2 = 1
      · simp [h]
      · simp [Nat.mod_two_ne_one.mp h]
    rw [List.range_succ_eq_map, List.map_cons, tail, bitsNumber_cons, ih, Nat.mod_pow_succ, List.length_map,
      List.length_range]
    simp only [Nat.sub_zero, Nat.add_sub_cancel, top]
    ring

theorem sampleBits_length (a : BitVec 10) : (sampleBits a).length = 10 := by simp [sampleBits]

theorem sampleBits_number (a : BitVec 10) : BitVec.ofNat 10 (bitsNumber (sampleBits a)) = a := by
  have number : bitsNumber (sampleBits a) = a.toNat % 2 ^ 10 := bitsNumber_low a 10
  rw [number, Nat.mod_eq_of_lt a.isLt, BitVec.ofNat_toNat, BitVec.setWidth_eq]

/-- The frame of a pair carries that pair. -/
theorem framePair_frameBits (p : PerReel (BitVec 10)) : framePair (frameBits p) = some p := by
  have samples : (sampleBits p.s ++ sampleBits p.t).length = 20 := by simp [sampleBits_length]
  have whole : (frameBits p).length = 21 := by simp [frameBits, sampleBits_length]
  have even : ((frameBits p).filter id).length % 2 = 0 := by
    unfold frameBits
    dsimp only
    rw [List.filter_append, List.length_append]
    generalize ((sampleBits p.s ++ sampleBits p.t).filter id).length = n
    by_cases odd : n % 2 = 1
    · simp [odd]
      omega
    · simp [odd]
      omega
  have first : (frameBits p).take 10 = sampleBits p.s := by
    simp [frameBits, sampleBits_length]
  have second : ((frameBits p).drop 10).take 10 = sampleBits p.t := by
    simp [frameBits, sampleBits_length]
  unfold framePair
  rw [if_pos ⟨whole, even⟩, first, second, sampleBits_number, sampleBits_number]

theorem framePair_of_broken {l : List Bool} (h : l.length ≠ 21 ∨ (l.filter id).length % 2 = 1) :
    framePair l = none := by
  unfold framePair
  rw [if_neg]
  rintro ⟨length, even⟩
  rcases h with h | h
  · exact h length
  · omega

/-- R16, R17: a frame outside INITIALISING, with none to be passed over. -/
theorem execSampleFrame_of_watching {l : List Bool} (watched : watching s = true) (idle : s.mu.frame = .idle) :
    execSampleFrame l s = .next ((framePair l).elim s fun p => pairArrival p s) := by
  simp [execSampleFrame, watched, idle]

/-! ## The loops' arithmetic (R41, R45 to R47) -/

theorem integrate_eq_integrated {bound : Int} (h : -bound ≤ bound) (sat : Sat) (acc err : Int) :
    integrate bound sat acc err = integrated bound sat acc err := by
  unfold integrate integrated
  cases sat <;> simp [clampI_eq_max_min h]

theorem driven_eq (sum : Int) : driven sum = (driveOf sum, satOf sum) := by
  have bound : Config.driveMax = 2047 := rfl
  rw [driveOf, satOf, clampI_eq_max_min (by decide), bound, driven]
  split
  · rw [min_eq_left (by omega)]
    rfl
  · split
    · rw [max_eq_left (by omega)]
    · rw [min_eq_right (by omega), max_eq_right (by omega)]

theorem circOf_eq_circumference (x : Reel) (s : State) : (circOf x s : Int) = circumference x s := by
  unfold circOf circumference
  cases (s.mu.est.get x).circ <;> rfl

theorem sigma_eq (x : Reel) : sigma x = if x = .s then -1 else 1 := by cases x <;> rfl

/-- R45 to R47: one computation of a reel in LOOP, in the rules' words. -/
theorem computeReel_eq (x : Reel) (n : Nat) (s : State) :
    computeReel x n s = s.onRl x fun l =>
      reelAfter x s.mc.params l n s.mg.vt s.mg.delta (circumference x s) := by
  unfold computeReel reelAfter
  simp only [integrate_eq_integrated (show -Config.reelIntMax ≤ Config.reelIntMax by decide), driven_eq, reelSum,
    sigma_eq, circOf_eq_circumference, quot]
  rfl

/-! ## A presentation (R44, R50) -/

/-- R44, R50: reel x's loop after a presentation of this sample. -/
def presentedLoop (x : Reel) (n : Nat) (s : State) (l : ReelLoop) : ReelLoop :=
  match l.mode with
  | .off => l
  | .wind => l
  | .loop => reelAfter x s.mc.params l n s.mg.vt s.mg.delta (circumference x s)
  | .fill =>
    if InBand x n s then
      reelAfter x s.mc.params { l with mode := .loop, band := true, a := 0, sat := .none } n s.mg.vt s.mg.delta
        (circumference x s)
    else { l with d := -(s.mc.params.fillDrive : Int) }

theorem bandHolds_iff (x : Reel) (n : Nat) (s : State) : bandHolds x n s = true ↔ InBand x n s := by
  simp [bandHolds, InBand]

theorem onRl_congr {x : Reel} {f g : ReelLoop → ReelLoop} (h : f (s.rl.get x) = g (s.rl.get x)) :
    s.onRl x f = s.onRl x g := by
  unfold State.onRl
  rw [h]

theorem onRl_of_fixed {x : Reel} {f : ReelLoop → ReelLoop} (h : f (s.rl.get x) = s.rl.get x) : s.onRl x f = s := by
  unfold State.onRl
  rw [h, PerReel.set_get_self]

theorem onRl_onRl (x : Reel) (f g : ReelLoop → ReelLoop) (s : State) :
    (s.onRl x f).onRl x g = s.onRl x fun l => g (f l) := by
  cases x <;> rfl

theorem presentReel_eq (x : Reel) (n : Nat) (s : State) : presentReel x n s = s.onRl x (presentedLoop x n s) := by
  unfold presentReel
  cases mode : (s.rl.get x).mode with
  | off | wind => exact (onRl_of_fixed (by simp [presentedLoop, mode])).symm
  | loop =>
    rw [computeReel_eq]
    exact onRl_congr (by simp [presentedLoop, mode])
  | fill =>
    simp only [bandHolds_iff]
    split
    · rename_i inside
      rw [computeReel_eq, onRl_onRl]
      refine onRl_congr ?_
      simp only [presentedLoop, mode]
      rw [if_pos inside]
      rfl
    · rename_i outside
      refine onRl_congr ?_
      simp only [presentedLoop, mode]
      rw [if_neg outside]

theorem presentPair_eq (p : PerReel (BitVec 10)) (s : State) :
    presentPair p s =
      { s with rl := ⟨presentedLoop .s p.s.toNat s s.rl.s, presentedLoop .t p.t.toNat s s.rl.t⟩ } := by
  rw [presentPair, presentReel_eq, presentReel_eq]
  rfl

theorem presentPair_get (p : PerReel (BitVec 10)) (s : State) (x : Reel) :
    (presentPair p s).rl.get x = presentedLoop x (p.get x).toNat s (s.rl.get x) := by
  rw [presentPair_eq]
  cases x <;> rfl

theorem level_of_slu {t : State} (h : t.slu = s.slu) (f : Func) : level f t = level f s := by
  unfold level carrier
  rw [h]

theorem limitCondition_of_inactive {x : Reel} {upper : Bool} (h : level (.limit x upper) s = false) :
    limitCondition x upper s = s := by
  simp [limitCondition, h]

/-- R105: with both limits of the reel inactive nothing comes of their attendance. -/
theorem attendLimits_of_inactive {x : Reel} (h : ∀ upper, level (.limit x upper) s = false) : attendLimits x s = s := by
  rw [attendLimits, limitCondition_of_inactive (h true), limitCondition_of_inactive (h false)]

/-- R44, R89: with all limits inactive a presentation is the two loops' take and the test for the end of FILL. -/
theorem present_of_inactive {p : PerReel (BitVec 10)} (h : ∀ x upper, level (.limit x upper) s = false) :
    present p s = fillTest (presentPair p s) := by
  have inactive (x : Reel) : attendLimits x (presentPair p s) = presentPair p s :=
    attendLimits_of_inactive fun upper => by rw [level_of_slu (s := s) (by simp), h]
  simp [present, inactive]

/-- R44: outside LOADING FILL a presentation is the two loops' take. -/
theorem present_of_notFill {p : PerReel (BitVec 10)} (h : s.tsq.state ≠ .loadingFill) :
    present p s = presentPair p s := by
  simp [present, h, fillTest]

/-- Settles O29: a whole frame's pair is presented to both loops; every other frame is passed over or discarded. -/
theorem framesDriveTheReels : Obligations.FramesDriveTheReels := by
  unfold Obligations.FramesDriveTheReels
  refine ⟨?whole, ?broken, ?passing, ?initialising⟩
  case whole =>
    intro s p watched idle notFill noFill
    have taken : exec (.sampleFrame (frameBits p)) s = .next (presentPair p (s.onMu (Mu.arrive p))) := by
      rw [← present_of_notFill (s := s.onMu (Mu.arrive p)) notFill]
      exact (execSampleFrame_of_watching watched idle).trans (by rw [framePair_frameBits]; rfl)
    refine ⟨_, taken, ?_, fun x => ?_⟩
    · rw [presentPair_eq]
      rfl
    · rw [presentPair_get, State.onMu_rl, presentedLoop]
      cases mode : (s.rl.get x).mode with
      | off | wind => rfl
      | loop => rfl
      | fill => exact absurd mode (noFill x)
  case broken =>
    intro s l watched idle h
    exact (execSampleFrame_of_watching watched idle).trans (by rw [framePair_of_broken h]; rfl)
  case passing =>
    intro s l watched passing
    simp [exec, execSampleFrame, watched, passing, State.onMu]
  case initialising =>
    intro s l unwatched
    simp [exec, execSampleFrame, unwatched]

/-! ## The loops and the estimators in their modes (R39, R43, R15) -/

theorem followCapstan_of_same (h : capstanToRun s = s.cl.run) : followCapstan s = s := by simp [followCapstan, h]

/-- R110: the capstan loop that changes its mode sets the runaway run to 0. -/
theorem followCapstan_fm (s : State) :
    (followCapstan s).fm = { s.fm with runaway := if capstanToRun s = s.cl.run then s.fm.runaway else 0 } := by
  unfold followCapstan
  dsimp only
  split <;> rfl

theorem followReel_of_same {x : Reel} (h : reelModeFor x s = (s.rl.get x).mode) : followReel x s = s := by
  simp [followReel, h]

theorem followEstimator_of_enabled {x : Reel} (h : estEnabled x s = true) : followEstimator x s = s := by
  simp [followEstimator, h]

theorem reelModeFor_congr {x : Reel} {t : State} (tsq : t.tsq = s.tsq) (rl : t.rl = s.rl) :
    reelModeFor x t = reelModeFor x s := by
  simp [reelModeFor, tsq, rl]

theorem estEnabled_congr {x : Reel} {t : State} (tsq : t.tsq = s.tsq) (rl : t.rl = s.rl) :
    estEnabled x t = estEnabled x s := by
  simp [estEnabled, tsq, rl]

/-- With both reels in the modes the state calls for and both estimators enabled, only the capstan loop can follow. -/
theorem followModes_of_steady (modes : ∀ x, (s.rl.get x).mode = reelModeFor x s)
    (enabled : ∀ x, estEnabled x s = true) : followModes s = followCapstan s := by
  have reel (x : Reel) : followReel x (followCapstan s) = followCapstan s :=
    followReel_of_same (by rw [reelModeFor_congr (s := s) (by simp) (by simp), ← modes x]; simp)
  have estimator (x : Reel) : followEstimator x (followCapstan s) = followCapstan s :=
    followEstimator_of_enabled (by rw [estEnabled_congr (s := s) (by simp) (by simp), enabled x])
  rw [followModes, reel, reel, estimator, estimator]

/-- R73, R74, R106, R109, R176: the transport state and the outputs taken, before the loops follow. -/
def outputsTaken (st : TState) (brake vacuum : Bool) (s : State) : State :=
  { s with
    tsq := { s.tsq with state := st, brake := brake, vacuum := vacuum }
    fm := { s.fm with
      highRun := if brake && !s.tsq.brake then ⟨0, 0⟩ else s.fm.highRun
      vacTimer := if vacuum != s.tsq.vacuum then 0 else s.fm.vacTimer
      vacSettled := if vacuum != s.tsq.vacuum then false else s.fm.vacSettled }
    ru := { s.ru with snapDue := s.ru.snapDue || decide (st ≠ s.tsq.state) } }

/-- R73: what the taking of a state with its outputs does, but for the entry to FILL. -/
theorem enter_eq {st : TState} (h : st ≠ .loadingFill) (brake vacuum : Bool) (s : State) :
    enter st brake vacuum s = followModes (outputsTaken st brake vacuum s) := by
  have bands : clearBandsAt st s = s := by simp [clearBandsAt, h]
  unfold enter
  simp only [bands]
  by_cases same : st = s.tsq.state
  · rw [if_pos same, outputsTaken, decide_eq_false (not_not.mpr same), Bool.or_false]
    rfl
  · rw [if_neg same, outputsTaken, decide_eq_true same, Bool.or_true]
    rfl

/-- R73, R176: the transport state taken with the outputs kept, before the loops follow. -/
def stateTaken (st : TState) (s : State) : State :=
  { s with
    tsq := { s.tsq with state := st }
    ru := { s.ru with snapDue := s.ru.snapDue || decide (st ≠ s.tsq.state) } }

theorem enterKeeping_eq {st : TState} (h : st ≠ .loadingFill) (s : State) :
    enterKeeping st s = followModes (stateTaken st s) := by
  rw [enterKeeping, enter_eq h]
  simp only [outputsTaken, Bool.and_not_self, bne_self_eq_false, Bool.false_eq_true, if_false]
  rfl

/-- R43: the states in which a reel with the vacuum on and the brake off is in LOOP. -/
def TState.loops : TState → Bool
  | .unloaded | .loadingFill | .unloadingWindOff => false
  | .loadingSeek | .ready | .moving | .settling | .rewindingFast | .rewindingSearch | .rewindingReturn
  | .unloadingReturn | .halting | .fault => true

theorem reelModeFor_of_loops (x : Reel) (loops : s.tsq.state.loops = true) (brake : s.tsq.brake = false)
    (pump : s.tsq.vacuum = true) : reelModeFor x s = .loop := by
  unfold reelModeFor
  rw [if_neg (by simp [brake])]
  cases st : s.tsq.state <;> simp_all [TState.loops]

/-- With the reels in LOOP under vacuum, a change of state within the states that loop moves only the capstan loop. -/
theorem enterKeeping_of_looping {st : TState} (loops : st.loops = true) (brake : s.tsq.brake = false)
    (pump : s.tsq.vacuum = true) (looping : ∀ x, (s.rl.get x).mode = .loop) :
    enterKeeping st s = followCapstan (stateTaken st s) := by
  have notFill : st ≠ .loadingFill := by
    rintro rfl
    cases loops
  rw [enterKeeping_eq notFill]
  refine followModes_of_steady (fun x => ?_) fun x => ?_
  · rw [reelModeFor_of_loops (s := stateTaken st s) x loops brake pump]
    exact looping x
  · exact (estEnabled_iff x _).mpr ⟨pump, by simp [stateTaken, looping x]⟩

/-! ## Reports from the Report Unit's fields -/

/-- Nothing has been reported where only the snapshot's fields have changed. -/
theorem reports_nil_of_ru {due : Bool} {n : Nat} (h : t.ru = { s.ru with snapDue := due, snapCounter := n }) :
    Reports s t [] := by
  constructor <;> simp [h, reportsSaying]

/-! ## Starting a motion (R21) -/

theorem startMotion_of_idle {m : Motion} {d : Int} (idle : s.mg.phase = .idle) :
    startMotion m d s = s.onMg fun g => g.begin m d s.mu.p :=
  if_pos idle

/-- R21: a motion started from IDLE. -/
theorem started_of_mg {m : Motion} {d : Int} (h : t.mg = s.mg.begin m d t.mu.p) : Started m d s t := by
  constructor <;> simp [h, Mg.begin, Mg.reset]

theorem startSearch_of_idle (forward : Bool) (idle : s.mg.phase = .idle) :
    startSearch forward s =
      (setLeg (if forward then .searchForward else .searchReverse) s).onMg fun g =>
        g.begin ⟨.search, forward, s.mc.params.accel, s.mc.params.searchSpeed, false⟩ s.mc.params.searchLimit s.mu.p :=
  startMotion_of_idle idle

/-! ## The end of FILL (R50, R89) -/

/-- R51: on the presentation of a pair that has just arrived the in-band status is the band's test of its sample. -/
theorem inBand_of_arrived {x : Reel} {p : PerReel (BitVec 10)} (pair : s.mu.pair = some p) (misses : s.mu.missCount = 0) :
    inBand x s = true ↔ InBand x (p.get x).toNat s := by
  simp only [inBand, live, sample, pair, misses, ← bandHolds_iff]
  simp

theorem fillTest_of_notBoth {p : PerReel (BitVec 10)} (pair : s.mu.pair = some p) (misses : s.mu.missCount = 0)
    (h : ¬ (InBand .s (p.get .s).toNat s ∧ InBand .t (p.get .t).toNat s)) : fillTest s = s := by
  unfold fillTest
  rw [if_neg]
  rintro ⟨-, inS, inT⟩
  exact h ⟨(inBand_of_arrived pair misses).mp inS, (inBand_of_arrived pair misses).mp inT⟩

/-- R50: a reel in FILL at a presentation. -/
theorem presentedLoop_of_fill {x : Reel} {n : Nat} {l : ReelLoop} (mode : l.mode = .fill) :
    presentedLoop x n s l =
      if InBand x n s then
        reelAfter x s.mc.params { l with mode := .loop, band := true, a := 0, sat := .none } n s.mg.vt s.mg.delta
          (circumference x s)
      else { l with d := -(s.mc.params.fillDrive : Int) } := by
  simp only [presentedLoop, mode]

/-- A frame in LOADING FILL with all limits inactive. -/
theorem sampleFrame_in_fill {p : PerReel (BitVec 10)} (watched : watching s = true) (idle : s.mu.frame = .idle)
    (limits : ∀ x upper, level (.limit x upper) s = false) :
    exec (.sampleFrame (frameBits p)) s = .next (fillTest (presentPair p (s.onMu (Mu.arrive p)))) := by
  rw [← present_of_inactive fun x upper => (level_of_slu (by simp) _).trans (limits x upper)]
  exact (execSampleFrame_of_watching watched idle).trans (by rw [framePair_frameBits]; rfl)

/-- R89: both columns in band end FILL. -/
theorem fillTest_of_both {p : PerReel (BitVec 10)} (fill : s.tsq.state = .loadingFill) (pair : s.mu.pair = some p)
    (misses : s.mu.missCount = 0) (inS : InBand .s (p.get .s).toNat s) (inT : InBand .t (p.get .t).toNat s) :
    fillTest s = startSearch (!(s.tsq.inHand.elim false fun h => h.fields.seekReverse))
      (enterKeeping .loadingSeek ((zeroPosition s).onTsq fun t => { t with timerOn := false })) := by
  unfold fillTest
  rw [if_pos ⟨fill, (inBand_of_arrived pair misses).mpr inS, (inBand_of_arrived pair misses).mpr inT⟩]
  simp [enterKeeping_tsq]

/-- Settles O30: the reels out of band pay out on; with both in band the SEEK begins. -/
theorem fillEndsInBand : Obligations.FillEndsInBand := by
  unfold Obligations.FillEndsInBand
  refine ⟨?filling, ?filled⟩
  case filling =>
    intro s p watched idle fill modes limits notBoth
    have presented := sampleFrame_in_fill (p := p) watched idle limits
    rw [fillTest_of_notBoth (p := p) (by simp [Mu.arrive]) (by simp [Mu.arrive])
      (by simpa [InBand] using notBoth)] at presented
    refine ⟨_, presented, ?_, fun x => ?_⟩
    · rw [presentPair_eq]
      rfl
    · rw [presentPair_get, presentedLoop_of_fill (by simpa using (modes x).1)]
      rfl
  case filled =>
    intro s p h watched idle fill modes limits hand brake pump mgIdle inS inT
    have presented := sampleFrame_in_fill (p := p) watched idle limits
    rw [fillTest_of_both (p := p) (by simpa using fill) (by simp [Mu.arrive]) (by simp [Mu.arrive])
      (by simpa [InBand] using inS) (by simpa [InBand] using inT)] at presented
    have reels (x : Reel) : (presentPair p (s.onMu (Mu.arrive p))).rl.get x =
        reelAfter x s.mc.params { s.rl.get x with mode := .loop, band := true, a := 0, sat := .none } (p.get x).toNat
          s.mg.vt s.mg.delta (circumference x s) := by
      rw [presentPair_get, presentedLoop_of_fill (by simpa using (modes x).1), if_pos (by cases x <;> assumption)]
      rfl
    rw [enterKeeping_of_looping rfl (by simpa using brake) (by simpa using pump)
      (fun x => by simp [reels x, reelAfter]), startSearch_of_idle _ (by simpa [stateTaken, zeroPosition] using mgIdle)]
      at presented
    refine ⟨_, presented, ?tsq, ?position, ?record, ?started, fun x => ?reels, ?capstan, ?rest⟩
    case tsq =>
      cases reverse : h.fields.seekReverse <;>
        simp [setLeg, stateTaken, zeroPosition, hand, reverse]
    case position => simp [setLeg, stateTaken, zeroPosition]
    case record => simp [setLeg, stateTaken, zeroPosition]
    case started =>
      apply started_of_mg
      simp [setLeg, stateTaken, zeroPosition, hand]
    case reels =>
      rw [← reels x]
      simp [setLeg, stateTaken, zeroPosition]
    case capstan =>
      simp [setLeg, followCapstan_run, capstanToRun, stateTaken, zeroPosition, brake, TState.capstanRuns]
    case rest =>
      refine ⟨?_, ?_, ?_, ?_, ?_, reports_nil_of_ru (due := s.ru.snapDue || decide (.loadingSeek ≠ s.tsq.state))
        (n := s.ru.snapCounter) ?_, ?_⟩ <;>
        simp [setLeg, stateTaken, zeroPosition, followCapstan_fm, SameSurroundings, SameBus, SameSetup, SnapshotByState]

end Sys2Proof.Machine
end

section
/-! Records that reach the head at once: what a step with such a record is, the loops under a change of the outputs,
and LOAD, TRANSPORT RESET, REWIND and UNLOAD at their take. -/

namespace Sys2Proof.Machine

variable {s t : State}

/-! ## The post word (section 12.1) -/

theorem code_number_lt (c : Code) : c.number < 256 := by cases c <;> decide

@[simp] theorem ofNumber_number (c : Code) : Code.ofNumber c.number = some c := by cases c <;> rfl

theorem postWord_toNat (seq : Byte) (c : Code) : (postWord seq c).toNat = c.number * 256 + seq.toNat := by
  have code := code_number_lt c
  have sum : c.number <<< 8 ||| seq.toNat = c.number * 256 + seq.toNat := by
    rw [← Nat.shiftLeft_add_eq_or_of_lt seq.isLt, Nat.shiftLeft_eq]
  have first : c.number <<< 8 % 4294967296 = c.number <<< 8 := by
    rw [Nat.shiftLeft_eq]
    omega
  have second : seq.toNat <<< 0 % 4294967296 = seq.toNat := by
    rw [Nat.shiftLeft_zero]
    omega
  rw [postWord, BitVec.toNat_or, place_toNat, place_toNat, first, second, sum]

@[simp] theorem postSeq_postWord (seq : Byte) (c : Code) : postSeq (postWord seq c) = seq := by
  have low : bits (postWord seq c) 7 0 = seq.toNat := by
    simp only [bits, postWord_toNat, Nat.shiftRight_eq_div_pow]
    omega
  rw [postSeq, low, BitVec.ofNat_toNat, BitVec.setWidth_eq]

@[simp] theorem postCode_postWord (seq : Byte) (c : Code) : postCode (postWord seq c) = c.number := by
  have code := code_number_lt c
  simp only [postCode, bits, postWord_toNat, Nat.shiftRight_eq_div_pow]
  omega

/-! ## A record that is taken at once (R76, R137, R142, R143) -/

/-- The intake after a record of this sequence has been taken directly and has left the queue for its take. -/
def consumed (seq : Byte) (s : State) : State :=
  s.onOi fun o => { o with
    expected := seq + 1, ready := o.ready &&& ~~~(1#64 <<< (seqSlot seq).val), queue := [], fetch := .none }

@[simp] theorem consumed_frame (seq : Byte) (s : State) :
    (consumed seq s).mu = s.mu ∧ (consumed seq s).mg = s.mg ∧ (consumed seq s).cl = s.cl ∧
      (consumed seq s).rl = s.rl ∧ (consumed seq s).sc = s.sc ∧ (consumed seq s).wk = s.wk ∧
      (consumed seq s).tsq = s.tsq ∧ (consumed seq s).fm = s.fm ∧ (consumed seq s).slu = s.slu ∧
      (consumed seq s).ptp = s.ptp ∧ (consumed seq s).ma = s.ma ∧ (consumed seq s).ru = s.ru ∧
      (consumed seq s).mc = s.mc ∧ (consumed seq s).freeCount = s.freeCount ∧
      (consumed seq s).inputs = s.inputs ∧ (consumed seq s).pending = s.pending :=
  ⟨rfl, rfl, rfl, rfl, rfl, rfl, rfl, rfl, rfl, rfl, rfl, rfl, rfl, rfl, rfl, rfl⟩

/-- R76: the head that may be taken is taken, here as the one record that the queue holds. -/
theorem serveHead_of_one {r : Record} (queue : s.oi.queue = [r]) (taken : headMayBeTaken s = true) :
    serveHead s.oi.queue.length s = takeHead r (popHead [] s) := by
  simp [queue, serveHead, taken]

theorem recordArrives_of_headFree {seq : Byte} (free : HeadFree seq s) (c : Code) (b : Body) :
    recordArrives c seq b s = orderFetchTest (takeHead ⟨seq, c, b⟩ (consumed seq s)) := by
  obtain ⟨⟨watched, expected, -, noFetch⟩, empty, noHand, serving⟩ := free
  have direct : takenDirectly (seqSlot seq) s = true := by
    simp [takenDirectly, expectedSlot, expected, empty, noFetch, Config.queueMax, FetchRec.inFlightFor]
  have queued : completion (seqSlot seq) (some (b, postWord seq c)) s =
      (consumed seq s).onOi fun o => { o with queue := [⟨seq, c, b⟩] } := by
    simp only [completion, direct, if_true]
    rw [takeRecord_of_expected (c := c) (by simp [expected, clearReady]) (by simp)]
    simp [consumed, clearReady, State.onOi, empty, expected, noFetch, FetchRec.withdraw]
  have taken : headMayBeTaken ((consumed seq s).onOi fun o => { o with queue := [⟨seq, c, b⟩] }) = true :=
    (headMayBeTaken_iff _).mpr ⟨watched, noHand, serving⟩
  unfold recordArrives conclude
  rw [if_pos watched, queued, serveHead_of_one rfl taken]
  rfl

/-- The slots of two sequences in a row differ. -/
theorem seqSlot_succ_ne (seq : Byte) : (seqSlot (seq + 1)).val ≠ (seqSlot seq).val := by
  simp only [seqSlot, Fin.ofNat, BitVec.toNat_add]
  have := seq.isLt
  simp
  omega

/-- Clearing one ready flag leaves the others. -/
theorem getLsbD_clear {j k : Nat} (ready : BitVec 64) (h : k ≠ j) :
    (ready &&& ~~~(1#64 <<< j)).getLsbD k = ready.getLsbD k := by
  by_cases inside : k < 64
  · simp [inside]
    omega
  · simp [BitVec.getLsbD_of_ge ready k (by omega)]

/-- R139: the test of the fetch after a step that took a record at once and left the intake otherwise alone. -/
theorem orderFetchTest_of_consumed {seq : Byte} (h : t.oi = (consumed seq s).oi) :
    IntakeAfter seq [] s (orderFetchTest t) := by
  have flag : readyFlag (expectedSlot t) t = s.oi.ready.getLsbD (seqSlot (seq + 1)).val := by
    rw [readyFlag, expectedSlot, h]
    exact getLsbD_clear _ (seqSlot_succ_ne seq)
  have due : fetchDue t = s.oi.ready.getLsbD (seqSlot (seq + 1)).val := by
    simp [fetchDue, flag, h, consumed, Config.queueMax]
  unfold orderFetchTest IntakeAfter nextFetch
  rw [due]
  split
  · simp [h, consumed, expectedSlot]
  · simp [h, consumed]

/-! ## Orders by mode and state (R77) -/

theorem takeHead_of_order {r : Record} (order : r.code.isSetup = false) (run : s.mc.mode = .run)
    (accepted : r.code.acceptedIn s.tsq.state = true) : takeHead r s = carryOut r s := by
  simp [takeHead, takeOrder, order, run, accepted]

/-- R79: an order answered at its take, in the words of `Reports`, where before it only a snapshot became due. -/
theorem doneAtTake_reports {o : OrderOutcome} {value : Int} {seq : Byte} {due : Bool} (room : Room 1 s)
    (ru : t.ru = { s.ru with snapDue := due }) :
    Reports s (doneAtTake o value seq t) [⟨.orderDone, o.number, value, some seq, t.tsq.state⟩] ∧
      (doneAtTake o value seq t).ru.snapDue = due ∧
      (doneAtTake o value seq t).ru.snapCounter = s.ru.snapCounter ∧ (doneAtTake o value seq t).slu = t.slu := by
  have room' : t.ru.pendingReports.length < 4 := by
    rw [ru]
    unfold Room at room
    dsimp only
    omega
  rw [doneAtTake, generate_of_room _ _ _ (maskPasses_of_unmasked t (.inl rfl)) room']
  refine ⟨?_, by simp [ru], by simp [ru], rfl⟩
  constructor <;> simp [ru, reportsSaying, makeReport, Config.detailMin, Config.detailMax]

theorem refuse_reports {reason : Reason} {value : Int} {seq : Byte} (room : Room 1 s) :
    Reports s (refuse reason value seq s) [⟨.orderRefused, reason.number, value, some seq, s.tsq.state⟩] :=
  generate_reports _ _ _ (maskPasses_of_unmasked s (.inr (.inl rfl))) room

/-- Reports stand through what touches neither the Report Unit nor the measurements. -/
theorem Reports.congr {s' t' : State} {l : List Said} (h : Reports s t l) (s_ru : s'.ru = s.ru) (ru : t'.ru = t.ru)
    (mu : t'.mu = t.mu) : Reports s' t' l := by
  obtain ⟨list, names, ring, loss, line, count⟩ := h
  have said (id : Nat) (l : List Said) : reportsSaying t' id l = reportsSaying t id l := by
    induction l generalizing id with
    | nil => rfl
    | cons x xs ih => simp [reportsSaying, ih, mu]
  constructor <;> simp only [s_ru, ru, said] <;> assumption

/-! ## The outputs go on and off -/

/-- A reel in FILL as it enters it (R49). -/
def fillLoop (s : State) : ReelLoop :=
  ⟨.fill, if s.mu.pair.isSome = true ∧ s.mu.missCount < 3 then -(s.mc.params.fillDrive : Int) else 0, 0, .none, false⟩

/-- R43, R49, R74, R106: the entry to FILL from UNLOADED, where the capstan loop and the reels are off. -/
theorem enter_fill_of_unloaded (unloaded : s.tsq.state = .unloaded) (brake : s.tsq.brake = true)
    (pump : s.tsq.vacuum = false) (capstan : s.cl.run = false) (reels : ∀ x, (s.rl.get x).mode = .off) :
    enter .loadingFill false true s =
      { s with
        tsq := { s.tsq with state := .loadingFill, brake := false, vacuum := true }
        fm := { s.fm with vacTimer := 0, vacSettled := false }
        ru := { s.ru with snapDue := true }
        rl := ⟨fillLoop s, fillLoop s⟩
        mu := { s.mu with
          est := ⟨{ s.mu.est.s with tally := 0, sum := 0 }, { s.mu.est.t with tally := 0, sum := 0 }⟩ } } := by
  have offS : s.rl.s.mode = .off := reels .s
  have offT : s.rl.t.mode = .off := reels .t
  simp [enter, clearBandsAt, followModes, followCapstan, capstanToRun, followReel, reelModeFor, reelEntry,
    followEstimator, estEnabled, unloaded, brake, pump, capstan, offS, offT, TState.capstanRuns, State.onRl,
    PerReel.set, PerReel.get, State.onMu, State.onTsq, State.onFm, State.onRu, fillLoop, live, decide_eq_true_eq]

/-- R39: where the capstan loop is not to run its drive is 0, if that of a loop in OFF was. -/
theorem followCapstan_dc_of_off (h : capstanToRun s = false) (off : s.cl.run = false → s.cl.dc = 0) :
    (followCapstan s).cl.dc = 0 := by
  unfold followCapstan
  dsimp only
  split
  · rename_i same
    exact off (same.symm.trans h)
  · rfl

/-- R43: reel x's loop after it has followed the transport state and the outputs. -/
def followedLoop (x : Reel) (s : State) : ReelLoop :=
  if reelModeFor x s = (s.rl.get x).mode then s.rl.get x else reelEntry (reelModeFor x s) s (s.rl.get x)

theorem followReel_eq (x : Reel) (s : State) : followReel x s = s.onRl x fun _ => followedLoop x s := by
  unfold followReel followedLoop
  dsimp only
  split
  · exact (onRl_of_fixed rfl).symm
  · rfl

theorem followedLoop_congr {x : Reel} (tsq : t.tsq = s.tsq) (mc : t.mc = s.mc) (mu : t.mu = s.mu)
    (own : t.rl.get x = s.rl.get x) : followedLoop x t = followedLoop x s := by
  have mode : reelModeFor x t = reelModeFor x s := by simp only [reelModeFor, tsq, own]
  have entry : reelEntry (reelModeFor x s) t = reelEntry (reelModeFor x s) s := by
    funext l
    unfold reelEntry live
    rw [mc, mu]
  simp only [followedLoop, mode, own, entry]

/-- Each reel follows by itself. -/
theorem followModes_rl_get (x : Reel) (s : State) : (followModes s).rl.get x = followedLoop x s := by
  have capstan : followedLoop x (followCapstan s) = followedLoop x s :=
    followedLoop_congr (by simp) (by simp) (by simp) (by simp)
  have same : (followModes s).rl = (followReel .t (followReel .s (followCapstan s))).rl := by simp [followModes]
  rw [same, followReel_eq .t, followReel_eq .s]
  cases x with
  | s => exact capstan
  | t =>
    refine Eq.trans ?_ capstan
    exact followedLoop_congr rfl rfl rfl rfl

theorem reelModeFor_of_brake (x : Reel) (h : s.tsq.brake = true) : reelModeFor x s = .off := by simp [reelModeFor, h]

/-- R43, R53: with the brake on every reel is off, its band-entered flag kept; one that was off stands as it was. -/
theorem followedLoop_of_brake (x : Reel) (h : s.tsq.brake = true) :
    followedLoop x s = if (s.rl.get x).mode = .off then s.rl.get x else ⟨.off, 0, 0, .none, (s.rl.get x).band⟩ := by
  unfold followedLoop
  rw [reelModeFor_of_brake x h]
  by_cases mode : (s.rl.get x).mode = .off
  · rw [if_pos mode, if_pos mode.symm]
  · rw [if_neg mode, if_neg (Ne.symm mode)]
    rfl

theorem followModes_cl (s : State) : (followModes s).cl = (followCapstan s).cl := by simp [followModes]

theorem followModes_fm (s : State) : (followModes s).fm = (followCapstan s).fm := by simp [followModes]

/-- R53: the taking of a state with the brake on leaves all three drives at 0, if loops in OFF had theirs at 0. -/
theorem enter_brakes {st : TState} {vacuum : Bool} (fill : st ≠ .loadingFill) (capstan : s.cl.run = false → s.cl.dc = 0)
    (reels : ∀ x, (s.rl.get x).mode = .off → (s.rl.get x).d = 0) : Braked (enter st true vacuum s) := by
  rw [enter_eq fill]
  refine ⟨by simp [outputsTaken], ?_, fun x => ?_⟩
  · rw [followModes_cl]
    exact followCapstan_dc_of_off (by simp [capstanToRun, outputsTaken]) capstan
  · rw [followModes_rl_get, followedLoop_of_brake x rfl]
    split
    · rename_i mode
      exact reels x mode
    · rfl

theorem Braked.congr (h : Braked s) (tsq : t.tsq.brake = s.tsq.brake) (cl : t.cl = s.cl) (rl : t.rl = s.rl) :
    Braked t := by
  obtain ⟨brake, capstan, reels⟩ := h
  exact ⟨tsq.trans brake, by rw [cl, capstan], fun x => by rw [rl, reels x]⟩

/-- R19: what the estimators' following zeroes, TRANSPORT RESET zeroes too. -/
theorem followEstimator_transportReset (x : Reel) (s : State) :
    (followEstimator x s).mu.transportReset = s.mu.transportReset := by
  unfold followEstimator
  split
  · rfl
  · cases x <;> rfl

theorem followModes_transportReset (s : State) : (followModes s).mu.transportReset = s.mu.transportReset := by
  rw [followModes, followEstimator_transportReset, followEstimator_transportReset]
  simp

/-! ## LOAD (R88) -/

/-- R77: an order refused at its take has no other effect. -/
theorem refused_of_take {seq : Byte} {reason : Reason} {value : Int} (room : Room 1 s) :
    Refused reason.number value seq s (orderFetchTest (refuse reason value seq (consumed seq s))) := by
  have reports := refuse_reports (s := consumed seq s) (reason := reason) (value := value) (seq := seq) room
  have generated := generate_of_room (s := consumed seq s) reason.number value (some seq)
    (maskPasses_of_unmasked _ (.inr (.inl rfl))) (by unfold Room at room; exact room)
  refine ⟨⟨orderFetchTest_of_consumed (by simp), ?_⟩, ?_, ?_, reports.congr rfl (by simp) (by simp)⟩
  · unfold refuse
    rw [generated]
    simp [SnapshotByState, consumed]
  · simp [SameTransport, consumed]
  · unfold refuse
    rw [generated]
    simp [SameSurroundings, SameBus, SameSetup, consumed]

/-- R88: what an accepted LOAD does before it enters FILL. -/
def loadTaken (seq : Byte) (b : Body) (s : State) : State :=
  takeInHand ⟨seq, .load, b⟩ (orderFields b) false .none (forgetCircumferences (dropReferenced (consumed seq s)))

theorem takeLoad_of_accepted {seq : Byte} (b : Body) (door : level .doorClosed s = true)
    (tape : level .tapeInPath s = true) :
    takeLoad ⟨seq, .load, b⟩ (consumed seq s) =
      (enter .loadingFill false true (loadTaken seq b s)).onTsq fun t => { t with timer := 0, timerOn := true } := by
  simp [takeLoad, loadTaken, level_of_slu (s := s) (t := consumed seq s) rfl, door, tape]

/-- Settles O41: LOAD accepted enters FILL from UNLOADED's outputs; the door and the tape are looked at first. -/
theorem loadStartsTheFill : Obligations.LoadStartsTheFill := by
  unfold Obligations.LoadStartsTheFill
  have arrives {s : State} {seq : Byte} (b : Body) (free : HeadFree seq s) (run : s.mc.mode = .run)
      (unloaded : s.tsq.state = .unloaded) :
      exec (.load seq b) s = .next (orderFetchTest (takeLoad ⟨seq, .load, b⟩ (consumed seq s))) := by
    have taken : takeHead ⟨seq, .load, b⟩ (consumed seq s) = takeLoad ⟨seq, .load, b⟩ (consumed seq s) :=
      takeHead_of_order rfl run (by simp [consumed, unloaded, Code.acceptedIn])
    rw [← taken, ← recordArrives_of_headFree free]
    rfl
  refine ⟨?accepted, ?door, ?tape⟩
  case accepted =>
    intro s seq b free law run unloaded door tape
    obtain ⟨brake, pump⟩ := law.unloaded unloaded
    have capstan : s.cl.run = false := by simp [law.capstan, capstanToRun, unloaded, TState.capstanRuns]
    have reels (x : Reel) : (s.rl.get x).mode = .off := (law.reel x).trans (reelModeFor_of_brake x brake)
    have entered := enter_fill_of_unloaded (s := loadTaken seq b s) unloaded brake pump capstan reels
    refine ⟨_, arrives b free run unloaded, ?_⟩
    rw [takeLoad_of_accepted b door tape, entered]
    refine ⟨⟨orderFetchTest_of_consumed rfl, ?_⟩, ?_, ?_, fun x => ?_, ?_⟩
    · simp [SnapshotByState, unloaded, loadTaken, takeInHand, forgetCircumferences, dropReferenced, consumed]
    · simp [handAtTake, loadTaken, takeInHand, forgetCircumferences, dropReferenced, consumed]
    · simp [loadTaken, takeInHand, forgetCircumferences, dropReferenced, consumed]
    · simp only [orderFetchTest_frame, State.onTsq]
      cases x <;> rfl
    · refine ⟨?_, ?_, ?_, ?_, ?_, ?_, ?_, reports_nil_of_ru (due := true) (n := s.ru.snapCounter) ?_⟩ <;>
        simp [SameSurroundings, SameBus, SameSetup, loadTaken, takeInHand, forgetCircumferences, dropReferenced,
          consumed]
  case door =>
    intro s seq b free run unloaded door room
    refine ⟨_, arrives b free run unloaded, ?_⟩
    have refused : takeLoad ⟨seq, .load, b⟩ (consumed seq s) = refuse .doorNotClosed 0 seq (consumed seq s) := by
      simp [takeLoad, level_of_slu (s := s) (t := consumed seq s) rfl, door]
    rw [refused]
    exact refused_of_take room
  case tape =>
    intro s seq b free run unloaded door tape room
    refine ⟨_, arrives b free run unloaded, ?_⟩
    have refused : takeLoad ⟨seq, .load, b⟩ (consumed seq s) = refuse .wrongState 0 seq (consumed seq s) := by
      simp [takeLoad, level_of_slu (s := s) (t := consumed seq s) rfl, door, tape]
    rw [refused]
    exact refused_of_take room

/-! ## TRANSPORT RESET (R99) -/

/-- R147: the ready flags counted slot by slot. -/
theorem readyCount_eq_discarded (s : State) : readyCount s = discarded [] s.oi.ready := by
  have slots : List.range 64 = (List.finRange 64).map Fin.val := by simp
  rw [readyCount, discarded, slots, List.filter_map, List.length_map, List.length_nil, Nat.zero_add]
  rfl

/-- R99: the transport after a TRANSPORT RESET, from the state in which it has taken UNLOADED. -/
def afresh (entered : State) : State :=
  { entered with
    tsq := { entered.tsq with writeEnable := false, referenced := false }
    fm := Fm.reset
    cl := Cl.reset
    rl := ⟨entered.rl.s.transportReset, entered.rl.t.transportReset⟩
    mu := entered.mu.transportReset }

/-- R99: the transport after a TRANSPORT RESET, before the intake is emptied. -/
def transportAfresh (s : State) : State := afresh (enter .unloaded true false (s.onMg fun _ => Mg.reset))

theorem takeTransportReset_eq (r : Record) (noChain : s.wk.active = false) :
    takeTransportReset r s =
      doneAtTake .complete (discardCount (transportAfresh s)) r.seq (flushIntake (r.seq + 1) (transportAfresh s)) := by
  unfold takeTransportReset transportAfresh
  rw [endChain_of_inactive noChain]
  dsimp only
  generalize enter .unloaded true false (s.onMg fun _ => Mg.reset) = entered
  rfl

/-- R19: the measurements of a TRANSPORT RESET, the entry of UNLOADED having changed none that it keeps. -/
theorem transportAfresh_mu (s : State) : (transportAfresh s).mu = s.mu.transportReset := by
  have entered : (enter .unloaded true false (s.onMg fun _ => Mg.reset)).mu.transportReset = s.mu.transportReset := by
    rw [enter_eq (by decide), followModes_transportReset]
    rfl
  exact entered

/-- R56: the band-entered flag is the one thing of a reel loop that is kept. -/
theorem transportAfresh_rl (x : Reel) (s : State) :
    (transportAfresh s).rl.get x = ⟨.off, 0, 0, .none, (s.rl.get x).band⟩ := by
  have band : ((enter .unloaded true false (s.onMg fun _ => Mg.reset)).rl.get x).band = (s.rl.get x).band := by
    rw [enter_eq (by decide), followModes_rl_get, followedLoop_of_brake x rfl]
    split <;> rfl
  rw [← band, transportAfresh]
  generalize enter .unloaded true false (s.onMg fun _ => Mg.reset) = entered
  cases x <;> rfl

/-- R176: the state is UNLOADED now, and a snapshot is due where it was another. -/
theorem transportAfresh_ru (s : State) :
    (transportAfresh s).ru = { s.ru with snapDue := s.ru.snapDue || decide (.unloaded ≠ s.tsq.state) } := by
  simp only [transportAfresh, afresh, enter_eq (by decide : TState.unloaded ≠ .loadingFill), outputsTaken,
    followModes_frame]
  rfl

theorem transportAfresh_tsq (s : State) :
    (transportAfresh s).tsq = { s.tsq with
      state := .unloaded, brake := true, vacuum := false, writeEnable := false, referenced := false } := by
  simp [transportAfresh, afresh, enter_tsq]

@[simp] theorem transportAfresh_frame (s : State) :
    (transportAfresh s).mg = Mg.reset ∧ (transportAfresh s).cl = Cl.reset ∧ (transportAfresh s).fm = Fm.reset ∧
    (transportAfresh s).sc = s.sc ∧ (transportAfresh s).wk = s.wk ∧ (transportAfresh s).slu = s.slu ∧
      (transportAfresh s).oi = s.oi ∧ (transportAfresh s).ptp = s.ptp ∧ (transportAfresh s).ma = s.ma ∧
      (transportAfresh s).mc = s.mc ∧ (transportAfresh s).freeCount = s.freeCount ∧
      (transportAfresh s).inputs = s.inputs ∧ (transportAfresh s).pending = s.pending := by
  simp [transportAfresh, afresh]

/-- Settles O48: each field of `transportAfresh`, with the intake emptied and the answer generated. -/
theorem transportResetStartsAfresh : Obligations.TransportResetStartsAfresh := by
  unfold Obligations.TransportResetStartsAfresh
  intro s seq b free run noChain room
  have accepted : Code.transportReset.acceptedIn (consumed seq s).tsq.state = true := by
    obtain h | h | h := free.serving <;> simp [consumed, h, Code.acceptedIn]
  have taken : takeHead ⟨seq, .transportReset, b⟩ (consumed seq s) =
      takeTransportReset ⟨seq, .transportReset, b⟩ (consumed seq s) := takeHead_of_order rfl run accepted
  have arrives : exec (.transportReset seq b) s =
      .next (orderFetchTest (takeTransportReset ⟨seq, .transportReset, b⟩ (consumed seq s))) := by
    rw [← taken, ← recordArrives_of_headFree free]
    rfl
  have answered : takeTransportReset ⟨seq, .transportReset, b⟩ (consumed seq s) =
      doneAtTake .complete (discardCount (transportAfresh (consumed seq s))) seq
        (flushIntake (seq + 1) (transportAfresh (consumed seq s))) := takeTransportReset_eq _ noChain
  have discard : discardCount (transportAfresh (consumed seq s)) =
      discarded [] (s.oi.ready &&& ~~~(1#64 <<< (seqSlot seq).val)) := by
    rw [discardCount, readyCount_eq_discarded]
    simp [consumed]
  obtain ⟨reports, due, counter, lines⟩ := doneAtTake_reports (o := .complete) (seq := seq) (s := consumed seq s)
    (t := flushIntake (seq + 1) (transportAfresh (consumed seq s)))
    (value := discarded [] (s.oi.ready &&& ~~~(1#64 <<< (seqSlot seq).val))) room (transportAfresh_ru _)
  simp only [BitVec.ofNat_eq_ofNat, consumed_frame, flushIntake_frame, transportAfresh_frame] at due counter lines
  refine ⟨_, arrives, ?_⟩
  rw [answered, discard]
  refine ⟨?_, ?_, ?_, ?_, ?_, ?_, fun x => ?_, ?_, ?_, ?_, ?_, ?_⟩
  · simp [orderFetchTest, fetchDue, readyFlag, flushIntake, consumed, FetchRec.cancel]
  · simp [SnapshotByState, due, counter, transportAfresh_tsq]
  · simp [transportAfresh_tsq]
  · simp [Fm.reset]
  · simp
  · simp [Cl.reset]
  · simp [transportAfresh_rl]
  · simp [transportAfresh_mu, Mu.transportReset]
  · simp
  · simp
  · simp [SameSurroundings, SameBus, SameSetup, lines]
  · have state : (flushIntake (seq + 1) (transportAfresh (consumed seq s))).tsq.state = .unloaded := by
      simp [transportAfresh_tsq]
    rw [state] at reports
    exact reports.congr rfl (by simp) (by simp)
end Sys2Proof.Machine
end

section
/-! The Fault Monitor's tests of an expiry. What each keeps count of and what it finds are told apart, so that tests
which find nothing may be taken in any order. -/

namespace Sys2Proof.Machine

variable {s t : State}

/-! ## The orders of R116 and R130 -/

theorem mem_firstPlaces {α : Type} [DecidableEq α] {a : α} {seen l : List α} :
    a ∈ firstPlaces seen l ↔ a ∈ l ∧ a ∉ seen := by
  induction l generalizing seen with
  | nil => simp [firstPlaces]
  | cons b l ih =>
    unfold firstPlaces
    split
    · grind
    · grind

theorem nodup_firstPlaces {α : Type} [DecidableEq α] (seen l : List α) : (firstPlaces seen l).Nodup := by
  induction l generalizing seen with
  | nil => exact List.nodup_nil
  | cons b l ih =>
    unfold firstPlaces
    split
    · exact ih _
    · exact List.nodup_cons.mpr ⟨by simp [mem_firstPlaces], ih _⟩

theorem mem_allChecks (k : ExpiryCheck) : k ∈ allChecks := by
  cases k with
  | stall x => cases x <;> decide
  | position | vacuum | runaway | door | halt => decide

theorem mem_checkOrder (o : ExpiryOrder) (k : ExpiryCheck) : k ∈ checkOrder o := by
  simp [checkOrder, mem_firstPlaces, mem_allChecks]

theorem nodup_checkOrder (o : ExpiryOrder) : (checkOrder o).Nodup := nodup_firstPlaces _ _

theorem checkOrder_perm (o : ExpiryOrder) : (checkOrder o).Perm allChecks :=
  (List.perm_ext_iff_of_nodup (nodup_checkOrder o) (by decide)).mpr fun k => by
    simp [mem_checkOrder, mem_allChecks]

/-! ## What a test keeps count of, and what it finds -/

/-- The halt wait after its test, where the test does not end the halt (R114). -/
def haltWaitAfter (c : Context) (s : State) : Option Nat :=
  if s.tsq.state = .halting then s.fm.haltWait.map (haltCount c) else s.fm.haltWait

/-- The count that a test keeps, without the fault or the end of a halt that it may find. -/
def watched (c : Context) (s : State) : ExpiryCheck → State
  | .position => s
  | .vacuum => s.onFm fun f => { f with vacTimer := vacTimerAfter s, vacSettled := settledAfter s }
  | .stall x => s.onFm fun f => { f with highRun := f.highRun.set x (highRunAfter x s) }
  | .runaway => s.onFm fun f => { f with runaway := if runsAway c s then 0 else runawayAfter c s }
  | .door => s.onFm fun f => { f with doorCond := doorOpenMoving s }
  | .halt => s.onFm fun f => { f with haltWait := haltWaitAfter c s }

/-- R114: the test of the halt wait ends the halt. -/
def haltEnds (c : Context) (s : State) : Bool :=
  s.tsq.state == .halting &&
    s.fm.haltWait.elim false fun n => capstanRests s || decide (Config.haltWaitMax ≤ haltCount c n)

/-- A test finds its fault, or the end of the halt. -/
def finds (c : Context) (s : State) : ExpiryCheck → Bool
  | .position => c.atBound
  | .vacuum => vacuumSettles s && !level .vacuumOk s
  | .stall x => stalls x s
  | .runaway => runsAway c s
  | .door => doorOpenMoving s && !s.fm.doorCond
  | .halt => haltEnds c s

theorem checkStage_of_not_finds {c : Context} {k : ExpiryCheck} (h : finds c s k = false) :
    checkStage c k s = watched c s k := by
  cases k with
  | position => simpa [checkStage, positionCheck, watched] using fun atBound => absurd atBound (by simp_all [finds])
  | vacuum =>
    have nothing : (vacuumSettles s && !level .vacuumOk s) = false := h
    simp [checkStage, vacuumCheck, nothing, watched]
  | stall x =>
    have nothing : stalls x s = false := h
    simp [checkStage, stallCheck, nothing, watched]
  | runaway =>
    have nothing : runsAway c s = false := h
    simp [checkStage, runawayCheck, nothing, watched]
  | door =>
    have nothing : (doorOpenMoving s && !s.fm.doorCond) = false := h
    simp [checkStage, evaluateDoor, nothing, watched]
  | halt =>
    have nothing : haltEnds c s = false := h
    unfold haltEnds at nothing
    simp only [checkStage, haltCheck, watched, haltWaitAfter]
    by_cases halting : s.tsq.state = .halting
    · cases wait : s.fm.haltWait with
      | none =>
        have kept : (s.onFm fun f => { f with haltWait := none }) = s := by
          rw [← wait]
          rfl
        simp [halting, kept]
      | some n =>
        obtain ⟨moves, short⟩ : capstanRests s = false ∧ haltCount c n < Config.haltWaitMax := by
          simpa [halting, wait] using nothing
        simp [halting, moves, Nat.not_le.mpr short]
    · simp [halting, State.onFm]

/-- Each test keeps counts of its own. -/
theorem watched_comm (c : Context) (s : State) (j k : ExpiryCheck) :
    watched c (watched c s j) k = watched c (watched c s k) j := by
  cases j with
  | position => rfl
  | vacuum => cases k <;> rfl
  | runaway => cases k <;> rfl
  | door => cases k <;> rfl
  | halt => cases k <;> rfl
  | stall x =>
    cases k with
    | stall y => cases x <;> cases y <;> rfl
    | position | vacuum | runaway | door | halt => rfl

/-- What a test finds does not turn on the counts of the others. -/
theorem finds_watched {c : Context} {j k : ExpiryCheck} (h : k ≠ j) : finds c (watched c s j) k = finds c s k := by
  cases j with
  | position => rfl
  | vacuum => cases k with
    | vacuum => exact absurd rfl h
    | position | stall x | runaway | door | halt => rfl
  | runaway => cases k with
    | runaway => exact absurd rfl h
    | position | vacuum | stall x | door | halt => rfl
  | door => cases k with
    | door => exact absurd rfl h
    | position | vacuum | stall x | runaway | halt => rfl
  | halt => cases k with
    | halt => exact absurd rfl h
    | position | vacuum | stall x | runaway | door => rfl
  | stall x =>
    cases k with
    | stall y =>
      have other : y ≠ x := fun same => h (congrArg _ same)
      cases x <;> cases y
      · exact absurd rfl other
      · rfl
      · rfl
      · exact absurd rfl other
    | position | vacuum | runaway | door | halt => rfl

/-! ## A list of tests -/

theorem finds_watchedAll {c : Context} {k : ExpiryCheck} {l : List ExpiryCheck} (h : k ∉ l) :
    finds c (l.foldl (watched c) s) k = finds c s k := by
  induction l generalizing s with
  | nil => rfl
  | cons j l ih =>
    obtain ⟨first, rest⟩ := not_or.mp (mt List.mem_cons.mpr h)
    exact (ih rest).trans (finds_watched first)

theorem checks_of_none_finds {c : Context} {l : List ExpiryCheck} (each : l.Nodup)
    (h : ∀ k ∈ l, finds c s k = false) : l.foldl (fun t k => checkStage c k t) s = l.foldl (watched c) s := by
  induction l generalizing s with
  | nil => rfl
  | cons j l ih =>
    obtain ⟨first, rest⟩ := List.nodup_cons.mp each
    rw [List.foldl_cons, List.foldl_cons, checkStage_of_not_finds (h j List.mem_cons_self)]
    refine ih rest fun k mem => ?_
    have other : k ≠ j := fun same => first (same ▸ mem)
    rw [finds_watched other]
    exact h k (List.mem_cons_of_mem j mem)

/-- The counts of all the tests. -/
def allWatched (c : Context) (s : State) : State :=
  s.onFm fun f => { f with
    vacTimer := vacTimerAfter s, vacSettled := settledAfter s
    highRun := ⟨highRunAfter .s s, highRunAfter .t s⟩
    runaway := if runsAway c s then 0 else runawayAfter c s
    doorCond := doorOpenMoving s
    haltWait := haltWaitAfter c s }

theorem foldl_allChecks (c : Context) (s : State) : allChecks.foldl (watched c) s = allWatched c s := by
  have vacuum : watched c (watched c s .position) .vacuum = s.onFm fun f =>
      { f with vacTimer := vacTimerAfter s, vacSettled := settledAfter s } := rfl
  simp only [allChecks, List.foldl_cons, List.foldl_nil]
  rw [vacuum]
  obtain ⟨mu, mg, cl, rl, sc, wk, tsq, fm, slu, oi, ptp, ma, ru, mc, freeCount, inputs, pending⟩ := s
  obtain ⟨first, later, further, haltWait, runaway, doorCond, highRun, vacTimer, vacSettled⟩ := fm
  rfl

/-- R116: tests that find nothing leave their counts, whatever their order. -/
theorem checked_of_none_finds {o : ExpiryOrder} (h : ∀ k, finds (contextOf s) t k = false) :
    checked o s t = allWatched (contextOf s) t := by
  rw [checked, checks_of_none_finds (nodup_checkOrder o) fun k _ => h k,
    (checkOrder_perm o).foldl_eq' (fun j _ k _ u => watched_comm _ u j k)]
  exact foldl_allChecks _ _

/-- R116: where one test alone may find something, the tests before it and behind it are told apart. -/
theorem checked_of_one_finds (o : ExpiryOrder) (k : ExpiryCheck) (h : ∀ j, j ≠ k → finds (contextOf s) t j = false) :
    ∃ before after : List ExpiryCheck, checkOrder o = before ++ k :: after ∧ k ∉ before ∧ (before ++ after).Nodup ∧
      checked o s t = after.foldl (fun u j => checkStage (contextOf s) j u)
        (checkStage (contextOf s) k (before.foldl (watched (contextOf s)) t)) := by
  obtain ⟨before, after, places⟩ := List.append_of_mem (mem_checkOrder o k)
  have each := nodup_checkOrder o
  rw [places] at each
  have rest : (before ++ after).Nodup := each.sublist (by simp)
  have notBefore : k ∉ before := by
    intro mem
    exact (List.nodup_append.mp each).2.2 k mem k List.mem_cons_self rfl
  refine ⟨before, after, places, notBefore, rest, ?_⟩
  have quiet := checks_of_none_finds (c := contextOf s) (s := t) (l := before) (rest.sublist (by simp))
    fun j mem => h j fun same => notBefore (same ▸ mem)
  rw [checked, places, List.foldl_append, List.foldl_cons, quiet]

end Sys2Proof.Machine
end

section
/-! The servo stages of an expiry: the places of the examination of the arrival flag and of the phase timer do not
matter where the flag is set and no phase timer runs. The generator and the capstan loop at rest. -/

namespace Sys2Proof.Machine

variable {s t : State}

/-- The arrival flag as given (R18). -/
def withArrival (a : Bool) (s : State) : State := s.onMu fun u => { u with arrival := a }

theorem missStage_of_arrival (h : s.mu.arrival = true) : missStage s = withArrival false s := by
  simp [missStage, missed, h, withArrival]

/-- R90, R95: the states in which the phase timer runs. -/
def TState.timed : TState → Bool
  | .loadingFill | .unloadingWindOff => true
  | .unloaded | .loadingSeek | .ready | .moving | .settling | .rewindingFast | .rewindingSearch | .rewindingReturn
  | .unloadingReturn | .halting | .fault => false

theorem timerStage_of_untimed {c : Context} (h : c.state.timed = false) : timerStage c s = s := by
  unfold timerStage phaseTimer
  by_cases same : s.tsq.state = c.state
  · rw [if_pos same, same, if_neg]
    rintro (fill | windOff)
    · simp [fill, TState.timed] at h
    · simp [windOff, TState.timed] at h
  · rw [if_neg same]

/-- A stage takes u to v whatever the arrival flag, which it leaves as it is. -/
def Takes (f : State → State) (u v : State) : Prop := ∀ a, f (withArrival a u) = withArrival a v

/-- The generator's step and the computation of the capstan loop (R20, R40). -/
def motionStage (s : State) : State := computeCapstan (generatorStage s)

/-- R18, R32: with the arrival flag set and no phase timer running, the servo stages are the motion and the hand-on of
the crossings, in the order that the command gives (log entry 8). -/
theorem servoRun_of_arrival (o : ExpiryOrder) (arrival : s.mu.arrival = true) (untimed : s.tsq.state.timed = false)
    (first : o.crossingsFirst = true → ∃ u, Takes (takeCrossings (measured s.mu).crossings) (s.onMu Mu.atExpiry) u ∧
      Takes motionStage u t)
    (second : o.crossingsFirst = false → ∃ u, Takes motionStage (s.onMu Mu.atExpiry) u ∧
      Takes (takeCrossings (measured s.mu).crossings) u t) :
    (servoRun o s).state = withArrival false t := by
  obtain ⟨crossingsFirst, presentFirst, timerFirst, checks⟩ := o
  have timer (u : State) : timerStage (contextOf s) u = u := timerStage_of_untimed untimed
  have examined (u : State) : missStage (withArrival true u) = withArrival false u := missStage_of_arrival rfl
  have start : s.onMu Mu.atExpiry = withArrival true (s.onMu Mu.atExpiry) := by
    unfold withArrival
    rw [← arrival]
    rfl
  have stages : (contextOf s).crossings = (measured s.mu).crossings := rfl
  cases crossingsFirst with
  | true =>
    obtain ⟨u, crossings, motion⟩ := first rfl
    unfold Takes motionStage at motion
    cases presentFirst <;> cases timerFirst <;>
      simp only [servoRun, Run.whenever_true, Run.whenever_false, Run.timer_state, Run.miss_state, Run.andThen_state,
        Run.generator_state, Run.crossings_state, Bool.not_true, Bool.not_false, Bool.and_true, Bool.and_false,
        Bool.and_self, timer, stages]
    all_goals rw [start, crossings]
    all_goals simp only [examined, motion]
  | false =>
    obtain ⟨u, motion, crossings⟩ := second rfl
    unfold Takes motionStage at motion
    cases presentFirst <;> cases timerFirst <;>
      simp only [servoRun, Run.whenever_true, Run.whenever_false, Run.timer_state, Run.miss_state, Run.andThen_state,
        Run.generator_state, Run.crossings_state, Bool.not_true, Bool.not_false, Bool.and_true, Bool.and_false,
        Bool.and_self, timer, stages]
    all_goals rw [start]
    all_goals simp only [examined, motion, crossings _]

/-! ## The generator and the capstan loop -/

/-- R29 to R31, R33: with nothing held, no request is applied. -/
theorem applyRequests_of_none (stops : s.mg.pendStops = []) (markStop : s.mg.pendMarkStop = false)
    (reaim : s.mg.pendReaim = none) (halt : s.mg.pendHalt = false) : applyRequests s = (s, none) := by
  have emptied : (s.onMg fun g => { g with pendStops := [] }) = s := by
    unfold State.onMg
    rw [← stops]
  unfold applyRequests
  rw [if_neg (by simp [halt]), stops]
  simp only [applyMarkStop, markStop, Bool.false_eq_true, if_false, applyStops, emptied, applyReaim, reaim]

/-- R37: outside MOVING the saturation run is 0. -/
theorem reduceSpeed_of_not_moving (h : s.tsq.state ≠ .moving) : reduceSpeed s = s.onMg fun g => { g with satRun := 0 } := by
  have notDue : reductionDue s = false := by simp [reductionDue, h]
  rw [reduceSpeed, notDue, if_neg (by decide), if_neg h]

/-- R40, R41: one computation of the capstan loop in RUN. -/
theorem computeCapstan_of_run (h : s.cl.run = true) :
    computeCapstan s = { s with cl := capstanAfter s.mc.params s.cl s.mg.vt s.mu.m } := by
  unfold computeCapstan capstanAfter
  rw [if_pos h]
  dsimp only
  rw [integrate_eq_integrated (by decide)]
  simp only [driven_eq, State.onCl, capstanSum]
  rfl

/-- R20, R41: the generator IDLE hands on 0, from which the capstan loop computes. -/
def heldAtRest (s : State) : State :=
  { s with
    mg := { s.mg with vt := 0, prevVt := 0, delta := -s.mg.prevVt, satRun := 0 }
    cl := capstanAfter s.mc.params s.cl 0 s.mu.m }

/-- What the generator has to do with at an expiry at rest: no request is held, it is IDLE, and no SPACE or chain is in
hand that its speed could be reduced for. -/
structure GeneratorIdle (s : State) : Prop where
  stops : s.mg.pendStops = []
  markStop : s.mg.pendMarkStop = false
  reaim : s.mg.pendReaim = none
  halt : s.mg.pendHalt = false
  idle : s.mg.phase = .idle
  still : s.tsq.state ≠ .moving

theorem generatorStage_of_idle (h : GeneratorIdle s) :
    generatorStage s = handOnSpeed 0 (s.onMg fun g => { g with satRun := 0 }) := by
  obtain ⟨stops, markStop, reaim, halt, idle, still⟩ := h
  have step : generatorStep s = (handOnSpeed 0 (s.onMg fun g => { g with satRun := 0 }), none) := by
    rw [generatorStep, applyRequests_of_none stops markStop reaim halt]
    simp [reduceSpeed_of_not_moving still, phaseStep, idle]
  rw [generatorStage, step]
  rfl

theorem motionStage_of_idle (h : GeneratorIdle s) (running : s.cl.run = true) :
    motionStage s = heldAtRest s := by
  rw [motionStage, generatorStage_of_idle h, computeCapstan_of_run (by simpa using running)]
  simp [heldAtRest, handOnSpeed, State.onMg]

/-! ## The measurements of an expiry -/

theorem satInc_eq (bound n : Nat) : satInc bound n = min bound (n + 1) := by
  unfold satInc
  split <;> omega

/-- R1, R3, R5, R6, R16: the period's update, with the arrival flag as the later stages leave it. -/
theorem atExpiry_measured (s : State) : { s.mu.atExpiry with arrival := false } = { measuredMu s with notices := [] } := by
  simp only [Mu.atExpiry, measuredMu, satInc_eq]
  rfl

end Sys2Proof.Machine
end

section
/-! Expiries at which the Fault Monitor finds nothing, and what closes an expiry: the sense-change set, the snapshot
interval and the queue head. -/

namespace Sys2Proof.Machine

variable {s t : State} {c : Context}

/-! ## What each test finds (R106, R108 to R111, R114) -/

theorem vacuum_not_finds (present : level .vacuumOk s = true) : finds c s .vacuum = false := by
  simp [finds, present]

theorem door_not_finds (closed : level .doorClosed s = true) : finds c s .door = false := by
  simp [finds, doorOpenMoving, closed]

theorem halt_not_finds (h : s.tsq.state ≠ .halting ∨ s.fm.haltWait = none) : finds c s .halt = false := by
  obtain h | h := h <;> simp [finds, haltEnds, h]

/-- R110: the runaway run stays below 8. -/
theorem runaway_not_finds (h : runawayAfter c s < 8) : finds c s .runaway = false :=
  decide_eq_false (Nat.not_le.mpr h)

theorem runawayAfter_of_within (h : (s.mu.m - c.vt).natAbs ≤ s.mc.params.runawayLimit) : runawayAfter c s = 0 := by
  rw [runawayAfter, if_neg]
  rintro ⟨-, beyond⟩
  omega

theorem highRunAfter_of_low {x : Reel} (h : DriveLow x s) : highRunAfter x s = 0 := by
  rw [highRunAfter, if_neg (Nat.not_le.mpr h)]

theorem highRunAfter_le (x : Reel) (s : State) : highRunAfter x s ≤ s.fm.highRun.get x + 1 := by
  unfold highRunAfter
  split
  · exact satInc_le_succ _ _
  · omega

/-- R109: a low drive, a short run or a tachometer heard of lately is no stall. -/
theorem stall_not_finds {x : Reel} (time : 1 ≤ s.mc.params.stallTime)
    (h : DriveLow x s ∨ s.fm.highRun.get x + 1 < s.mc.params.stallTime ∨ s.mu.silence.get x < s.mc.params.stallTime) :
    finds c s (.stall x) = false := by
  obtain low | short | heard := h
  · have zero := highRunAfter_of_low low
    simp only [finds, stalls, zero]
    simp [Nat.not_le.mpr time]
  · have bound := highRunAfter_le x s
    have below : ¬ s.mc.params.stallTime ≤ highRunAfter x s := by omega
    simp [finds, stalls, below]
  · simp [finds, stalls, Nat.not_le.mpr heard]

/-- R6: P between its bounds is not newly at one. -/
theorem not_atBound_of_within (h : WithinBounds s) : (contextOf s).atBound = false := by
  obtain ⟨above, below⟩ := h
  have p : clampPos (s.mu.p + speedOf s.mu.accum) = s.mu.p + newM s := clampI_of_mem (Int.le_of_lt above) (Int.le_of_lt below)
  refine decide_eq_false ?_
  rw [p]
  rintro ⟨low | high, -⟩
  · exact absurd low (Int.ne_of_gt above)
  · exact absurd high (Int.ne_of_lt below)

theorem Faultless.unfaulted (h : Faultless s) : Unfaulted s :=
  ⟨⟨h.stallTime, fun x => .inl (h.drives x)⟩, h.speed, h.door, h.vacuum⟩

/-- What the tests of an expiry read, as the servo stages leave it where they touch neither a reel nor a line. -/
structure TestsSee (s t : State) : Prop where
  speed : t.mu.m = newM s
  silence : t.mu.silence = (measuredMu s).silence
  reels : t.rl = s.rl
  lines : t.slu = s.slu
  params : t.mc = s.mc
  runs : t.fm.highRun = s.fm.highRun

/-- R109: the tests of an expiry find no stall. -/
theorem TestsSee.stall (see : TestsSee s t) (h : StallFree s) (x : Reel) : finds c t (.stall x) = false := by
  obtain ⟨time, free⟩ := h
  have silence : t.mu.silence.get x = min 65535 (s.mu.silence.get x + 1) := by
    rw [see.silence]
    cases x <;> rfl
  refine stall_not_finds (by rw [see.params]; exact time) ?_
  rw [silence, see.runs, see.params]
  obtain low | short | heard := free x
  · left
    rw [DriveLow, see.reels, see.params]
    exact low
  · exact .inr (.inl short)
  · right; right
    omega

/-- R110: the capstan follows the generator. -/
theorem TestsSee.runaway (see : TestsSee s t) (h : SpeedFollows s) : runawayAfter (contextOf s) t = 0 := by
  refine runawayAfter_of_within ?_
  rw [see.speed, see.params]
  exact h

/-- The tests of an expiry at which no fault comes about find nothing (R106, R108 to R111). -/
theorem TestsSee.none_finds (see : TestsSee s t) (h : Unfaulted s)
    (halt : t.tsq.state ≠ .halting ∨ t.fm.haltWait = none) (k : ExpiryCheck) : finds (contextOf s) t k = false := by
  obtain ⟨stalls, speed, ⟨door, bounds⟩, vacuum⟩ := h
  cases k with
  | position => exact not_atBound_of_within bounds
  | vacuum => exact vacuum_not_finds ((level_of_slu see.lines _).trans vacuum)
  | stall x => exact see.stall stalls x
  | runaway => exact runaway_not_finds (by rw [see.runaway speed]; decide)
  | door => exact door_not_finds ((level_of_slu see.lines _).trans door)
  | halt => exact halt_not_finds halt

/-! ## What closes an expiry -/

theorem senseChange_of_no_request (h : s.slu.request = false) : senseChange s = s := by simp [senseChange, h]

theorem NothingDue.congr (h : NothingDue s) (oi : t.oi = s.oi) : NothingDue t := by
  obtain ⟨queue, fetch⟩ := h
  unfold fetchDue readyFlag expectedSlot at fetch
  refine ⟨by rw [oi, queue], ?_⟩
  unfold fetchDue readyFlag expectedSlot
  rw [oi]
  exact fetch

/-- What the snapshot interval leaves of the Report Unit (R176). -/
theorem intervalStage_ru (s : State) : ∃ due n, (intervalStage s).ru = { s.ru with snapDue := due, snapCounter := n } := by
  unfold intervalStage
  split
  · exact ⟨_, _, rfl⟩
  · by_cases reached : intervalReached s = true
    · exact ⟨true, 0, by simp [reached]⟩
    · exact ⟨s.ru.snapDue, s.ru.snapCounter + 1, by simp [reached]⟩

theorem intervalStage_reports {l : List Said} (h : Reports s t l) : Reports s (intervalStage t) l := by
  obtain ⟨list, names, ring, loss, line, count⟩ := h
  obtain ⟨due, n, ru⟩ := intervalStage_ru t
  have said (id : Nat) (l : List Said) : reportsSaying (intervalStage t) id l = reportsSaying t id l := by
    induction l generalizing id with
    | nil => rfl
    | cons x xs ih => simp [reportsSaying, ih]
  constructor <;> simp only [ru, said] <;> assumption

/-- R176, at an expiry: the interval, where the snapshot was due by the state alone before it. -/
theorem intervalStage_snapshot (h : SnapshotByState s t) (mc : t.mc = s.mc) : SnapshotByExpiry s (intervalStage t) := by
  obtain ⟨due, counter⟩ := h
  unfold SnapshotByExpiry intervalStage
  rw [mc, intervalReached, mc, counter]
  by_cases off : s.mc.params.snapInterval = 0
  · simp [off, due, counter]
  · by_cases reached : s.mc.params.snapInterval ≤ s.ru.snapCounter + 1
    · simp [off, reached]
    · simp [off, reached, due, counter]

/-- R1: an expiry that leaves nothing due for the head and the fetch ends with the snapshot interval, from the state
after the tests and the sense-change set. -/
theorem exec_periodExpiry {o : ExpiryOrder} (watching : watching s = true) (due : NothingDue s)
    (ends : senseChange (checked o s (servoRun o s).state) = t) (oi : t.oi = s.oi) :
    exec (.periodExpiry o) s = .next (intervalStage t) := by
  have whole := expiryRun_state o s
  rw [ends, conclude_of_nothingDue (due.congr (by simpa using oi))] at whole
  rw [← whole]
  change Host.Outcome.next (expiry o s) = _
  rw [expiry, if_pos watching]

/-- An expiry at which no fault, no request and no sense change comes about ends with the counts of the tests and the
snapshot interval. -/
theorem exec_periodExpiry_of_calm {o : ExpiryOrder} (watching : watching s = true) (due : NothingDue s)
    (unfaulted : Unfaulted s) (request : s.slu.request = false) (servo : (servoRun o s).state = t) (see : TestsSee s t)
    (halt : t.tsq.state ≠ .halting ∨ t.fm.haltWait = none) (oi : t.oi = s.oi) :
    exec (.periodExpiry o) s = .next (intervalStage (allWatched (contextOf s) t)) := by
  have tests : checked o s t = allWatched (contextOf s) t := checked_of_none_finds (see.none_finds unfaulted halt)
  refine exec_periodExpiry watching due ?_ oi
  rw [servo, tests]
  exact senseChange_of_no_request ((congrArg Slu.request see.lines).trans request)

end Sys2Proof.Machine
end

section
/-! Expiries in READY at rest: with nothing to find, with a mark notice, with a sense change, and with the faults
SAMPLE LOSS, CAPSTAN RUNAWAY and POSITION RANGE. -/

namespace Sys2Proof.Machine

variable {s t : State}

/-- The generator is idle from the period's update on. -/
theorem Undisturbed.generatorIdle (quiet : Undisturbed s) (idle : s.mg.phase = .idle) (still : s.tsq.state ≠ .moving) :
    GeneratorIdle s := ⟨quiet.stops, quiet.markStop, quiet.reaim, quiet.halt, idle, still⟩

theorem GeneratorIdle.congr (h : GeneratorIdle s) (mg : t.mg = s.mg) (tsq : t.tsq = s.tsq) : GeneratorIdle t := by
  obtain ⟨stops, markStop, reaim, halt, idle, still⟩ := h
  constructor <;> simp only [mg, tsq] <;> assumption

/-- The state after the servo stages of an expiry at rest that finds the arrival flag set. -/
def restingServo (s : State) : State := withArrival false (heldAtRest (s.onMu Mu.atExpiry))

theorem takes_motionStage_of_idle (h : GeneratorIdle s) (running : s.cl.run = true) : Takes motionStage s (heldAtRest s) :=
  fun a => motionStage_of_idle (s := withArrival a s) (h.congr rfl rfl) running

theorem takes_no_crossings (s : State) : Takes (takeCrossings []) s s := fun _ => rfl

/-- R20, R41, R44: the servo stages at rest. -/
theorem servoRun_of_rest (o : ExpiryOrder) (idle : GeneratorIdle s) (running : s.cl.run = true)
    (untimed : s.tsq.state.timed = false) (notices : s.mu.notices = []) (arrival : s.mu.arrival = true) :
    (servoRun o s).state = restingServo s := by
  have motion : Takes motionStage (s.onMu Mu.atExpiry) (heldAtRest (s.onMu Mu.atExpiry)) :=
    takes_motionStage_of_idle (idle.congr rfl rfl) running
  have none : (measured s.mu).crossings = [] := by simp [measured, notices]
  refine servoRun_of_arrival o arrival untimed (fun _ => ⟨_, ?_, motion⟩) fun _ => ⟨_, motion, ?_⟩
  · rw [none]
    exact takes_no_crossings _
  · rw [none]
    exact takes_no_crossings _

theorem restingServo_mu (s : State) : (restingServo s).mu = { measuredMu s with notices := [] } := atExpiry_measured s

theorem measuredMu_of_no_notices (h : s.mu.notices = []) : { measuredMu s with notices := [] } = measuredMu s := by
  have same : (measuredMu s).notices = [] := h
  rw [← same]

/-- At rest the tests see the measurements of the expiry. -/
theorem restingServo_seen (s : State) : TestsSee s (restingServo s) where
  speed := by rw [restingServo_mu]; rfl
  silence := by rw [restingServo_mu]
  reels := rfl
  lines := rfl
  params := rfl
  runs := rfl

/-- Settles O16: the servo stages at rest, tests that find nothing, and the snapshot interval. -/
theorem restingExpiryHoldsTheTape : Obligations.RestingExpiryHoldsTheTape := by
  unfold Obligations.RestingExpiryHoldsTheTape
  intro s o resting faultless arrival
  obtain ⟨quiet, due, ready, -, -, -, ⟨noFault, -⟩, idle, running, -, -, -⟩ := resting
  have servo : (servoRun o s).state = restingServo s :=
    servoRun_of_rest o (quiet.generatorIdle idle (by simp [ready])) running (by simp [ready, TState.timed]) quiet.notices
      arrival
  have notHalting : (restingServo s).tsq.state ≠ .halting := by simp [restingServo, withArrival, heldAtRest, ready]
  have seen := restingServo_seen s
  refine ⟨_, exec_periodExpiry_of_calm quiet.watching due faultless.unfaulted quiet.request servo seen (.inl notHalting)
    rfl, ?_⟩
  have reports : Reports s (allWatched (contextOf s) (restingServo s)) [] :=
    reports_nil_of_ru (due := s.ru.snapDue) (n := s.ru.snapCounter) rfl
  have door : level .doorClosed (restingServo s) = true := faultless.door.1
  have low (x : Reel) : highRunAfter x (restingServo s) = 0 := highRunAfter_of_low (faultless.drives x)
  have steady := seen.runaway faultless.speed
  simp only [SameSurroundings, SameBus, SameSetup, intervalStage_frame]
  refine ⟨?mu, rfl, rfl, rfl, rfl, rfl, rfl, noFault, ?runaway, ?door, fun x => ?highRun, rfl,
    ⟨⟨rfl, rfl⟩, rfl, rfl, rfl, rfl, rfl⟩, intervalStage_reports reports, intervalStage_snapshot ⟨?due, rfl⟩ rfl⟩
  case mu => exact (restingServo_mu s).trans (measuredMu_of_no_notices quiet.notices)
  case runaway => simp [allWatched, steady]
  case door => simp [allWatched, doorOpenMoving, door]
  case highRun => cases x <;> exact low _
  case due => simp [allWatched, restingServo, withArrival, heldAtRest]

/-! ## A mark crossing at rest (R9, R10) -/

/-- A report at the tail of the pending list, and the next name behind it. -/
def reported (r : Report) (s : State) : State :=
  s.onRu fun u => { u with pendingReports := u.pendingReports ++ [r], nextId := u.nextId + 1 }

/-- The EOT crossing record after one crossing. -/
def eotTaken (c : Crossing) (s : State) : State := s.onMu fun u => { u with eot := eotAfter u.eot [c] }

/-- R9, R10: with no order in hand a crossing is recorded and reported. -/
theorem takeCrossings_of_noHand {c : Crossing} (noHand : s.tsq.inHand = none)
    (mask : s.mc.params.mask.markCrossed = true) (room : Room 1 s) :
    takeCrossings [c] s = reported (makeReport .markCrossed c.number c.pos none s) (eotTaken c s) := by
  have bot (u : State) (h : u.tsq.inHand = none) : (if c.mark = .bot then botCrossing c.forward c.pos u else u) = u := by
    split
    · rw [botCrossing, h]
    · rfl
  have room' : (eotTaken c s).ru.pendingReports.length < 4 := by
    unfold Room at room
    exact Nat.lt_of_succ_le room
  change handOnCrossing c (eotTaken c s) = _
  rw [handOnCrossing, bot (eotTaken c s) noHand]
  rw [generate_of_room (s := eotTaken c s) (kind := .markCrossed) _ _ _ mask room', handSeq]
  rw [show (eotTaken c s).tsq.inHand = none from noHand]
  rfl

theorem reported_reports (kind : ReportKind) (code : Nat) (value : Int) (seq : Option Byte) (s : State) :
    Reports s (reported (makeReport kind code value seq s) s) [⟨kind, code, value, seq, s.tsq.state⟩] :=
  ⟨by simp [reported, reportsSaying, makeReport, Config.detailMin, Config.detailMax], by simp [reported],
    ⟨rfl, rfl, rfl, rfl⟩, rfl, ⟨rfl, rfl⟩, rfl⟩

/-- The state after the servo stages of an expiry at rest with this crossing. -/
def crossingServo (c : Crossing) (s : State) : State :=
  reported (makeReport .markCrossed c.number c.pos none (restingServo s)) (eotTaken c (restingServo s))

theorem servoRun_of_crossing (o : ExpiryOrder) {c : Crossing} (idle : GeneratorIdle s) (running : s.cl.run = true)
    (untimed : s.tsq.state.timed = false) (crossings : (measured s.mu).crossings = [c])
    (arrival : s.mu.arrival = true) (noHand : s.tsq.inHand = none) (mask : s.mc.params.mask.markCrossed = true)
    (room : Room 1 s) : (servoRun o s).state = crossingServo c s := by
  have taken {u : State} (hand : u.tsq.inHand = none) (mask : u.mc.params.mask.markCrossed = true) (room : Room 1 u) :
      Takes (takeCrossings [c]) u (reported (makeReport .markCrossed c.number c.pos none u) (eotTaken c u)) :=
    fun a => takeCrossings_of_noHand (s := withArrival a u) hand mask room
  have atExpiry : GeneratorIdle (s.onMu Mu.atExpiry) := idle.congr rfl rfl
  refine servoRun_of_arrival (t := reported (makeReport .markCrossed c.number c.pos none (s.onMu Mu.atExpiry))
    (eotTaken c (heldAtRest (s.onMu Mu.atExpiry)))) o arrival untimed (fun _ => ?_) fun _ => ?_
  · refine ⟨reported (makeReport .markCrossed c.number c.pos none (s.onMu Mu.atExpiry))
      (eotTaken c (s.onMu Mu.atExpiry)), ?_, takes_motionStage_of_idle (atExpiry.congr rfl rfl) running⟩
    rw [crossings]
    exact taken noHand mask room
  · refine ⟨_, takes_motionStage_of_idle atExpiry running, ?_⟩
    rw [crossings]
    exact taken (u := heldAtRest (s.onMu Mu.atExpiry)) noHand mask room

end Sys2Proof.Machine
end

section
/-! What every expiry measures, the snapshot interval, and the sense-change set. -/

namespace Sys2Proof.Machine

variable {s t : State}
/-! ## The sense-change set (R128) -/

/-- The levels of the ten functions, by function number less 1 (section 12.4). -/
def levelBit (s : State) (i : Fin 10) : Bool := level (Func.assigned.get i) s

theorem levelsField_eq_ofBits (s : State) : levelsField s = Nat.ofBits (levelBit s) := by
  have term (b : Bool) (n : Nat) : (if b then n else 0) = n * b.toNat := by cases b <;> simp
  simp only [levelsField, Func.assigned, List.map_cons, List.map_nil, List.sum_cons, List.sum_nil, term]
  simp [Nat.ofBits, Fin.foldr_succ, Func.number, levelBit, Func.assigned]
  omega

theorem levelBit_number {f : Func} (h : f ≠ .none) (s : State) :
    ∃ low : f.number - 1 < 10, levelBit s ⟨f.number - 1, low⟩ = level f s := by
  cases f with
  | none => exact absurd rfl h
  | limit x b => cases x <;> cases b <;> exact ⟨by decide, rfl⟩
  | botMark | eotMark | vacuumOk | doorClosed | tapeInPath | writeRing => exact ⟨by decide, rfl⟩

theorem levelsField_testBit {f : Func} (h : f ≠ .none) (s : State) : (levelsField s).testBit (f.number - 1) = level f s := by
  obtain ⟨low, same⟩ := levelBit_number h s
  rw [levelsField_eq_ofBits, Nat.testBit_ofBits_lt _ _ low, same]

theorem levelsField_lt (s : State) : levelsField s < 1024 := by
  rw [levelsField_eq_ofBits]
  exact Nat.ofBits_lt_two_pow _

/-- R128: the sense-change set is emptied with the request. -/
def setEmptied (f : Line → Line) (s : State) : State :=
  s.onSlu fun u => { u with lines := u.lines.map f, changeSet := 0, request := false }

theorem senseChange_of_mask (request : s.slu.request = true) (mask : s.mc.params.mask.senseChange = true)
    (room : Room 1 s) :
    senseChange s = reported (makeReport .senseChange (levelsField s) s.slu.changeSet.toNat none s)
      (setEmptied (Line.carriedBy s.ru.nextId) s) := by
  have room' : (setEmptied (Line.carriedBy s.ru.nextId) s).ru.pendingReports.length < 4 := by
    unfold Room at room
    exact Nat.lt_of_succ_le room
  have passes : maskPasses s .senseChange = true := mask
  rw [senseChange, if_pos request]
  dsimp only
  rw [if_pos passes]
  exact generate_of_room _ _ _ mask room'

theorem senseChange_of_masked (request : s.slu.request = true) (mask : s.mc.params.mask.senseChange = false) :
    senseChange s = setEmptied Line.clearNotYet s := by
  have stays : ¬ maskPasses s .senseChange = true := by simp [maskPasses, mask]
  rw [senseChange, if_pos request]
  dsimp only
  rw [if_neg stays]
  rfl

/-! ## Every expiry -/

theorem whenever_mc {r : Run} {f : Run → Run} (b : Bool) (h : (f r).state.mc = r.state.mc) :
    (r.whenever b f).state.mc = r.state.mc := by
  cases b
  · rfl
  · exact h

theorem servoRun_mc (o : ExpiryOrder) (s : State) : (servoRun o s).state.mc = s.mc := by
  have first : ((⟨s.onMu Mu.atExpiry, []⟩ : Run).whenever o.crossingsFirst (Run.crossings (contextOf s))).state.mc = s.mc :=
    whenever_mc _ (by rw [Run.crossings_state]; simp)
  simp [servoRun, whenever_mc, first]

theorem checked_mc (o : ExpiryOrder) (s t : State) : (checked o s t).mc = t.mc := by
  unfold checked
  generalize checkOrder o = l
  induction l generalizing t with
  | nil => rfl
  | cons k l ih => simp [ih]

/-- The state of an expiry in which the snapshot interval is looked at. -/
def beforeInterval (o : ExpiryOrder) (s : State) : State := senseChange (checked o s (servoRun o s).state)

theorem beforeInterval_keeps (o : ExpiryOrder) (s : State) : Kept (s.onMu Mu.atExpiry) (beforeInterval o s) :=
  senseChange_keeps (checked_keeps (servoRun_keeps o s))

theorem beforeInterval_arrival (o : ExpiryOrder) (s : State) : (beforeInterval o s).mu.arrival = false :=
  (senseChange_keeps (checked_keeps (Kept.refl _))).measures.arrival (servoRun_arrival o s)

theorem beforeInterval_mc (o : ExpiryOrder) (s : State) : (beforeInterval o s).mc = s.mc := by
  simp [beforeInterval, checked_mc, servoRun_mc]

/-- What closes every expiry keeps the measurements, and a snapshot that the interval has made due (log entry 10). -/
theorem expiryRun_carries (o : ExpiryOrder) (s : State) :
    Carried (intervalStage (beforeInterval o s)) (expiryRun o s).state := by
  rw [expiryRun_state]
  exact conclude_carries _

theorem intervalReached_beforeInterval (o : ExpiryOrder) (on : s.mc.params.snapInterval ≠ 0)
    (reached : s.mc.params.snapInterval ≤ s.ru.snapCounter + 1) : intervalReached (beforeInterval o s) = true := by
  have counter : (beforeInterval o s).ru.snapCounter = s.ru.snapCounter := (beforeInterval_keeps o s).interval.counter
  simp [intervalReached, beforeInterval_mc, counter, on, reached]

/-- Log entry 2: the interval counter that reaches the interval names the expiry. -/
theorem snapshotInterval_mem_events (o : ExpiryOrder) (reached : intervalReached (beforeInterval o s) = true) :
    ExpiryEvent.snapshotInterval ∈ (expiryRun o s).events := by
  have state : (((checkOrder o).foldl (Run.check (contextOf s)) (servoRun o s)).andThen senseChange).state =
      beforeInterval o s := by
    rw [Run.andThen_state, Run.checks_state]
    rfl
  simp only [expiryRun, Run.noting, state, reached]
  exact List.mem_cons_self

theorem exec_periodExpiry_of_watching (o : ExpiryOrder) (h : watching s = true) :
    exec (.periodExpiry o) s = .next (expiryRun o s).state := by
  change Host.Outcome.next (expiry o s) = _
  rw [expiry, if_pos h]

/-- Log entry 2: an expiry in which the event comes about is the whole expiry under the event's name too. -/
theorem next_namedExpiry {o : ExpiryOrder} {e : ExpiryEvent} (watches : watching s = true)
    (named : e ∈ (expiryRun o s).events) : Host.Outcome.next (namedExpiry e o s) = exec (.periodExpiry o) s := by
  rw [namedExpiry, if_pos ⟨watches, named⟩, exec_periodExpiry_of_watching o watches]

/-- R9: a notice is resolved with the new last direction. -/
theorem crossings_of_one {n : Notice} (notices : s.mu.notices = [n]) :
    (measured s.mu).crossings = [⟨n.mark, newDirection s, n.pos⟩] := by
  have forward : (resolve (newM s) (newDirection s) n).forward = newDirection s := by
    unfold resolve newDirection
    dsimp only
    split <;> rfl
  have crossings : (measured s.mu).crossings = [resolve (newM s) (newDirection s) n] := by
    simp only [measured, notices]
    rfl
  rw [crossings]
  conv_rhs => rw [← forward]
  rfl

/-- Section 12.4: the MARK CROSSED code of a crossing. -/
def markCode (mark : Mark) (forward : Bool) : Nat :=
  (match mark with
    | .bot => 1
    | .eot => 3) + if forward then 0 else 1

theorem crossing_number (c : Crossing) : c.number = markCode c.mark c.forward := by
  obtain ⟨mark, forward, pos⟩ := c
  cases mark <;> cases forward <;> rfl

theorem crossingServo_seen (c : Crossing) (s : State) : TestsSee s (crossingServo c s) where
  speed := (restingServo_seen s).speed
  silence := (restingServo_seen s).silence
  reels := rfl
  lines := rfl
  params := rfl
  runs := rfl

/-- Settles O15: what every expiry measures and what the interval makes due is kept by all that follows; at rest the
servo stages are those of `crossingServo`, and `restingServo` with the sense-change set emptied. -/
theorem expiryMeasuresAndCounts : Obligations.ExpiryMeasuresAndCounts := by
  unfold Obligations.ExpiryMeasuresAndCounts
  refine ⟨?measures, ?interval, ?initialising, ?mark, ?sense⟩
  case measures =>
    intro s o watches
    have kept := (beforeInterval_keeps o s).measures
    have carried := (expiryRun_carries o s).measures
    simp only [intervalStage_frame] at carried
    have arrival := carried.arrival (beforeInterval_arrival o s)
    replace kept := kept.trans carried
    exact ⟨_, exec_periodExpiry_of_watching o watches, kept.count, kept.speed, kept.accum, kept.direction, kept.notices,
      arrival, kept.convert⟩
  case interval =>
    intro s o watches on reached
    have reaches := intervalReached_beforeInterval o on reached
    have closed : (intervalStage (beforeInterval o s)).ru =
        { (beforeInterval o s).ru with snapDue := true, snapCounter := 0 } := by
      simp [intervalStage, beforeInterval_mc, on, reaches]
    obtain ⟨-, due, counter⟩ := expiryRun_carries o s
    rw [closed] at due counter
    have runs := exec_periodExpiry_of_watching o watches
    exact ⟨_, (next_namedExpiry watches (snapshotInterval_mem_events o reaches)).trans runs, runs, due rfl, counter rfl⟩
  case initialising =>
    intro s o initialising
    change Host.Outcome.next (expiry o s) = _
    rw [expiry, if_neg (by simp [initialising])]
  case mark =>
    intro s o mark pos resting notices unfaulted arrival mask
    obtain ⟨quiet, due, ready, -, -, noHand, ⟨noFault, -⟩, idle, running, -, -, room⟩ := resting
    replace ready : s.tsq.state = .ready := ready
    have crossings := crossings_of_one notices
    have idles : GeneratorIdle s := ⟨quiet.stops, quiet.markStop, quiet.reaim, quiet.halt, idle, by simp [ready]⟩
    have servo := servoRun_of_crossing o idles running (by simp [ready, TState.timed]) crossings arrival noHand mask room
    generalize crossed : (⟨mark, newDirection s, pos⟩ : Crossing) = c at servo
    have notHalting : (crossingServo c s).tsq.state ≠ .halting := by
      change s.tsq.state ≠ .halting
      simp [ready]
    refine ⟨_, exec_periodExpiry_of_calm quiet.watching (due.congr rfl) unfaulted quiet.request servo
      (crossingServo_seen c s) (.inl notHalting) rfl, ?_⟩
    have reports : Reports s (allWatched (contextOf s) (crossingServo c s))
        [⟨.markCrossed, c.number, c.pos, none, s.tsq.state⟩] :=
      (reported_reports .markCrossed c.number c.pos none (eotTaken c (restingServo s))).congr rfl rfl rfl
    rw [crossing_number, ready] at reports
    simp only [SameSurroundings, SameBus, SameSetup, intervalStage_frame]
    subst crossed
    refine ⟨?mu, intervalStage_reports reports, rfl, idle, rfl, noFault, rfl, rfl, rfl, rfl,
      ⟨⟨rfl, rfl⟩, rfl, rfl, rfl, rfl, rfl⟩, intervalStage_snapshot ⟨?due, rfl⟩ rfl⟩
    case mu =>
      refine Eq.trans (b := { (restingServo s).mu with
        eot := eotAfter s.mu.eot [⟨mark, newDirection s, pos⟩] }) rfl ?_
      rw [restingServo_mu]
      cases mark <;> rfl
    case due => simp [allWatched, crossingServo, reported, eotTaken, restingServo, withArrival, heldAtRest]
  case sense =>
    intro s o resting request unfaulted arrival
    obtain ⟨quiet, due, ready, -, -, -, ⟨noFault, -⟩, idle, running, -, -, room⟩ := resting
    replace ready : s.tsq.state = .ready := ready
    have idles : GeneratorIdle s := ⟨quiet.stops, quiet.markStop, quiet.reaim, quiet.halt, idle, by simp [ready]⟩
    have servo : (servoRun o s).state = restingServo s :=
      servoRun_of_rest o idles running (by simp [ready, TState.timed]) quiet.notices arrival
    have notHalting : (restingServo s).tsq.state ≠ .halting := by
      change s.tsq.state ≠ .halting
      simp [ready]
    have tests : checked o s (restingServo s) = allWatched (contextOf s) (restingServo s) :=
      checked_of_none_finds ((restingServo_seen s).none_finds unfaulted (.inl notHalting))
    have mu : (restingServo s).mu = measuredMu s := (restingServo_mu s).trans (measuredMu_of_no_notices quiet.notices)
    have ends (t : State) (lines : senseChange (allWatched (contextOf s) (restingServo s)) = t) :
        senseChange (checked o s (servoRun o s).state) = t := by rw [servo, tests, lines]
    have snapshot (slu : Slu) (ru : Ru) (h : ru.snapDue = s.ru.snapDue) (n : ru.snapCounter = s.ru.snapCounter) :
        SnapshotByExpiry s (intervalStage { allWatched (contextOf s) (restingServo s) with slu := slu, ru := ru }) :=
      intervalStage_snapshot
        ⟨by simp [allWatched, restingServo, withArrival, heldAtRest, h], n⟩ rfl
    cases mask : s.mc.params.mask.senseChange with
    | true =>
      refine ⟨_, exec_periodExpiry quiet.watching due (ends _ (senseChange_of_mask request mask room)) rfl, ?_⟩
      have reports := (reported_reports .senseChange (levelsField s) s.slu.changeSet.toNat none
        (setEmptied (Line.carriedBy s.ru.nextId) (allWatched (contextOf s) (restingServo s)))).congr
          (s' := s) (t' := reported (makeReport .senseChange (levelsField s) s.slu.changeSet.toNat none
            (allWatched (contextOf s) (restingServo s)))
              (setEmptied (Line.carriedBy s.ru.nextId) (allWatched (contextOf s) (restingServo s)))) rfl rfl rfl
      rw [show (setEmptied (Line.carriedBy s.ru.nextId) (allWatched (contextOf s) (restingServo s))).tsq.state = .ready
        from ready] at reports
      simp only [SameBus, intervalStage_frame]
      refine ⟨rfl, fun k => ?_, fun _ => ⟨levelsField s, levelsField_lt s, fun f h => levelsField_testBit h s,
        intervalStage_reports reports⟩, fun off => absurd off (by decide), mu, rfl, noFault, rfl, rfl, rfl, rfl, ⟨rfl, rfl⟩,
        rfl, snapshot _ _ rfl rfl⟩
      exact Vector.get_map _ _ _
    | false =>
      refine ⟨_, exec_periodExpiry quiet.watching due (ends _ (senseChange_of_masked request mask)) rfl, ?_⟩
      obtain ⟨due', n', ru⟩ := intervalStage_ru (setEmptied Line.clearNotYet (allWatched (contextOf s) (restingServo s)))
      simp only [SameBus, intervalStage_frame]
      refine ⟨rfl, fun k => ?_, fun on => absurd on (by decide), fun _ => by rw [ru]; rfl, mu, rfl, noFault, rfl, rfl, rfl,
        rfl, ⟨rfl, rfl⟩, rfl, snapshot _ _ rfl rfl⟩
      exact Vector.get_map _ _ _

end Sys2Proof.Machine
end

section
/-! Expiries in READY at rest that take a fault: the halt of CAPSTAN RUNAWAY and POSITION RANGE (R113), and the brake of
SAMPLE LOSS (R115). -/

namespace Sys2Proof.Machine

variable {s t u : State} {c : Context}

/-! ## What the counting of the tests leaves -/

/-- From s to t only the counts of the Fault Monitor's tests have moved. -/
structure Counted (s t : State) : Prop where
  rest : t = { s with fm := t.fm }
  first : t.fm.first = s.fm.first
  later : t.fm.later = s.fm.later
  wait : s.fm.haltWait = none → t.fm.haltWait = none

theorem Counted.refl (s : State) : Counted s s := ⟨rfl, rfl, rfl, id⟩

theorem Counted.trans (h : Counted s t) (h' : Counted t u) : Counted s u where
  rest := by rw [h'.rest, h.rest]
  first := h'.first.trans h.first
  later := h'.later.trans h.later
  wait := h'.wait ∘ h.wait

theorem watched_counted (c : Context) (s : State) (k : ExpiryCheck) : Counted s (watched c s k) := by
  cases k with
  | position | vacuum | stall x | runaway | door => exact ⟨rfl, rfl, rfl, id⟩
  | halt =>
    refine ⟨rfl, rfl, rfl, fun none => ?_⟩
    simp [watched, haltWaitAfter, none]

theorem watchedAll_counted (c : Context) (s : State) (l : List ExpiryCheck) : Counted s (l.foldl (watched c) s) := by
  induction l generalizing s with
  | nil => exact .refl s
  | cons k l ih => exact (watched_counted c s k).trans (ih _)

theorem watched_runaway {k : ExpiryCheck} (h : k ≠ .runaway) (s : State) : (watched c s k).fm.runaway = s.fm.runaway := by
  cases k with
  | runaway => exact absurd rfl h
  | position | vacuum | stall x | door | halt => rfl

theorem watchedAll_runaway {l : List ExpiryCheck} (h : .runaway ∉ l) (s : State) :
    (l.foldl (watched c) s).fm.runaway = s.fm.runaway := by
  induction l generalizing s with
  | nil => rfl
  | cons k l ih =>
    obtain ⟨first, rest⟩ := not_or.mp (mt List.mem_cons.mpr h)
    exact (ih rest _).trans (watched_runaway (Ne.symm first) s)

/-! ## The halt (R113) -/

/-- R113: the halt of a fault taken in READY at rest, before its report. -/
def haltTaken (kind : FaultKind) (s : State) : State :=
  { s with
    tsq := { s.tsq with state := .halting, writeEnable := false }
    fm := { s.fm with first := some kind, haltWait := none }
    mg := { s.mg with pendHalt := true }
    ru := { s.ru with snapDue := s.ru.snapDue || decide (.halting ≠ s.tsq.state) } }

/-- R112, R113: the halt and its FAULT report. -/
def halted (kind : FaultKind) (value : Int) (s : State) : State :=
  reported (makeReport .fault kind.number value none (haltTaken kind s)) (haltTaken kind s)

/-- READY at rest with its outputs, no order in hand, no fault, no chain, and room for a report. -/
structure AtRest (s : State) : Prop where
  ready : s.tsq.state = .ready
  brake : s.tsq.brake = false
  pump : s.tsq.vacuum = true
  noHand : s.tsq.inHand = none
  noFault : s.fm.first = none
  running : s.cl.run = true
  looping : ∀ x : Reel, (s.rl.get x).mode = .loop
  noChain : s.wk.active = false
  room : Room 1 s

theorem Counted.atRest (h : Counted s t) (rest : AtRest s) : AtRest t := by
  obtain ⟨ready, brake, pump, noHand, noFault, running, looping, noChain, room⟩ := rest
  have first := h.first
  rw [h.rest]
  exact ⟨ready, brake, pump, noHand, first.trans noFault, running, looping, noChain, room⟩

/-- R39, R43: a state in which the capstan loop runs and the reels loop leaves them as READY has them. -/
theorem enterKeeping_of_running {st : TState} (loops : st.loops = true) (runs : st.capstanRuns = true)
    (brake : s.tsq.brake = false) (pump : s.tsq.vacuum = true) (running : s.cl.run = true)
    (looping : ∀ x : Reel, (s.rl.get x).mode = .loop) : enterKeeping st s = stateTaken st s := by
  rw [enterKeeping_of_looping loops brake pump looping]
  refine followCapstan_of_same ?_
  simp [capstanToRun, stateTaken, runs, brake, running]

/-- The first fault, with no order in hand and no reel in FILL: the response, then the FAULT report (R112). -/
theorem takeFault_of_first {kind : FaultKind} (value : Int) (attends : attended kind s = true)
    (noFault : s.fm.first = none) (notFill : s.tsq.state ≠ .loadingFill) (noHand : s.tsq.inHand = none) :
    takeFault kind value s =
      finishOrder .haltedByFault 0 (generate .fault kind.number value none
        (if kind.brakeClass then brakeResponse kind (s.onFm fun f => { f with first := some kind })
          else haltResponse (s.onFm fun f => { f with first := some kind }))) := by
  have fill : (s.tsq.state == .loadingFill) = false := by simp [notFill]
  unfold takeFault
  rw [if_pos attends, noFault]
  simp [fill, handSeq, noHand]

/-- R112, R113: a fault of the halt class at rest. -/
theorem AtRest.takeFault_halts (rest : AtRest s) {kind : FaultKind} (value : Int) (halts : kind.brakeClass = false)
    (attends : attended kind s = true) : takeFault kind value s = halted kind value s := by
  have entered := enterKeeping_of_running (st := .halting) (s := s.onFm fun f => { f with first := some kind }) rfl rfl
    rest.brake rest.pump rest.running rest.looping
  have inactive : (stateTaken .halting (s.onFm fun f => { f with first := some kind })).wk.active = false := rest.noChain
  have response : haltResponse (s.onFm fun f => { f with first := some kind }) = haltTaken kind s := by
    unfold haltResponse
    rw [entered, endChain_of_inactive inactive]
    rfl
  have room : (haltTaken kind s).ru.pendingReports.length < 4 := by
    have room := rest.room
    unfold Room at room
    exact Nat.lt_of_succ_le room
  have reports : generate .fault kind.number value none (haltTaken kind s) = halted kind value s :=
    generate_of_room _ _ _ (maskPasses_of_unmasked _ (.inr (.inr (.inr rfl)))) room
  have noHand : (halted kind value s).tsq.inHand = none := rest.noHand
  rw [takeFault_of_first value attends rest.noFault (by simp [rest.ready]) rest.noHand, halts, if_neg (by decide),
    response, reports, finishOrder_of_none _ _ noHand]

/-! ## An expiry that halts -/

/-- Behind the halt the other tests find what they found before it, and the halt's own test nothing yet (R114). -/
theorem finds_halted {kind : FaultKind} {value : Int} {k : ExpiryCheck} (h : finds c s k = false) :
    finds c (halted kind value s) k = false := by
  cases k with
  | position => exact h
  | vacuum => exact h
  | stall x => exact h
  | runaway => exact h
  | door => exact h
  | halt => exact halt_not_finds (.inr rfl)

theorem Resting.atRest (h : Resting s) : AtRest (restingServo s) := by
  obtain ⟨-, -, ready, brake, pump, noHand, ⟨noFault, -⟩, -, running, looping, noChain, room⟩ := h
  exact ⟨ready, brake, pump, noHand, noFault, running, looping, noChain, room⟩

/-- An expiry at rest in which the test k alone finds its fault, one of the halt class: before the test and behind it
only the counts of the tests move. -/
theorem exec_periodExpiry_of_halt (o : ExpiryOrder) {k : ExpiryCheck} {kind : FaultKind} {value : Int} (resting : Resting s)
    (arrival : s.mu.arrival = true) (halts : kind.brakeClass = false)
    (others : ∀ j, j ≠ k → finds (contextOf s) (restingServo s) j = false)
    (found : finds (contextOf s) (restingServo s) k = true)
    (takes : ∀ u, Counted (restingServo s) u → finds (contextOf s) u k = true →
      checkStage (contextOf s) k u = takeFault kind value (watched (contextOf s) u k))
    (attends : ∀ u, Counted (restingServo s) u → attended kind u = true) :
    ∃ before after : List ExpiryCheck, ∃ u v : State, checkOrder o = before ++ k :: after ∧ k ∉ before ∧ k ∉ after ∧
      u = before.foldl (watched (contextOf s)) (restingServo s) ∧
      before.foldl (fun t j => checkStage (contextOf s) j t) (servoRun o s).state = u ∧
      v = after.foldl (watched (contextOf s)) (halted kind value (watched (contextOf s) u k)) ∧
      exec (.periodExpiry o) s = .next (intervalStage v) := by
  obtain ⟨before, after, places, notBefore, each, outcome⟩ := checked_of_one_finds (t := restingServo s) o k others
  have notAfter : k ∉ after := by
    have each := nodup_checkOrder o
    rw [places] at each
    exact (List.nodup_cons.mp (each.sublist (List.sublist_append_right _ _))).1
  have idle := resting.quiet.generatorIdle resting.idle (by simp [resting.ready])
  have servo := servoRun_of_rest o idle resting.running (by simp [resting.ready, TState.timed]) resting.quiet.notices arrival
  have early := checks_of_none_finds (c := contextOf s) (s := restingServo s) (each.sublist (List.sublist_append_left _ _))
    fun j mem => others j fun same => notBefore (same ▸ mem)
  refine ⟨before, after, _, _, places, notBefore, notAfter, rfl, by rw [servo, early], rfl, ?_⟩
  have counted := watchedAll_counted (contextOf s) (restingServo s) before
  generalize reached : before.foldl (watched (contextOf s)) (restingServo s) = u at counted outcome
  have finding : finds (contextOf s) u k = true := by rw [← reached, finds_watchedAll notBefore, found]
  have counted' : Counted (restingServo s) (watched (contextOf s) u k) := counted.trans (watched_counted _ _ _)
  have taken : takeFault kind value (watched (contextOf s) u k) = halted kind value (watched (contextOf s) u k) :=
    (counted'.atRest resting.atRest).takeFault_halts value halts (attends _ counted')
  have quiet (j : ExpiryCheck) (mem : j ∈ after) :
      finds (contextOf s) (halted kind value (watched (contextOf s) u k)) j = false := by
    have other : j ≠ k := fun same => notAfter (same ▸ mem)
    have apart : j ∉ before := fun early => (List.nodup_append.mp each).2.2 j early j mem rfl
    refine finds_halted ?_
    rw [finds_watched other, ← reached, finds_watchedAll apart]
    exact others j other
  have tests : checked o s (restingServo s) =
      after.foldl (watched (contextOf s)) (halted kind value (watched (contextOf s) u k)) := by
    rw [outcome, takes u counted finding, taken, checks_of_none_finds (each.sublist (List.sublist_append_right _ _)) quiet]
  have ends := watchedAll_counted (contextOf s) (halted kind value (watched (contextOf s) u k)) after
  generalize after.foldl (watched (contextOf s)) (halted kind value (watched (contextOf s) u k)) = v at tests ends
  have slu : v.slu = s.slu := by rw [ends.rest, counted'.rest]; rfl
  have oi : v.oi = s.oi := by rw [ends.rest, counted'.rest]; rfl
  refine exec_periodExpiry resting.quiet.watching resting.due ?_ oi
  rw [servo, tests]
  exact senseChange_of_no_request (by rw [slu]; exact resting.quiet.request)

/-- What an expiry in READY at rest that takes a fault of the halt class leaves. -/
structure HaltOutcome (kind : FaultKind) (value : Int) (s t : State) : Prop where
  record : t.fm.first = some kind ∧ t.fm.later = []
  wait : t.fm.haltWait = none
  outputs : t.tsq = { s.tsq with state := .halting, writeEnable := false }
  request : t.mg.pendHalt = true
  rest : t.mg.vt = 0
  capstan : t.cl = capstanAfter s.mc.params s.cl 0 (newM s)
  measures : t.mu = measuredMu s
  reels : t.rl = s.rl
  chain : t.sc = s.sc ∧ t.wk = s.wk
  intake : t.oi = s.oi
  around : SameSurroundings s t
  reports : Reports s t [⟨.fault, kind.number, value, none, .halting⟩]
  snapshot : SnapshotByExpiry s t

/-- Reports are said of the pending list and the names: when a snapshot became due does not matter. -/
theorem Reports.of_due {l : List Said} {due : Bool} (h : Reports { s with ru := { s.ru with snapDue := due } } t l) :
    Reports s t l := ⟨h.list, h.names, h.ring, h.loss, h.line, h.count⟩

theorem haltOutcome {kind : FaultKind} {value : Int} {v : State} (resting : Resting s) (before : Counted (restingServo s) u)
    (after : Counted (halted kind value u) v) : HaltOutcome kind value s (intervalStage v) := by
  have mu : (restingServo s).mu = measuredMu s :=
    (restingServo_mu s).trans (measuredMu_of_no_notices resting.quiet.notices)
  have later : v.fm.later = [] := after.later.trans (before.later.trans resting.noFault.2)
  have first : v.fm.first = some kind := after.first
  have wait : v.fm.haltWait = none := after.wait rfl
  have reports : Reports (haltTaken kind u) (halted kind value u) [⟨.fault, kind.number, value, none, .halting⟩] :=
    reported_reports .fault kind.number value none (haltTaken kind u)
  have whole := after.rest
  rw [before.rest] at whole reports
  rw [whole]
  constructor
  case reports => exact intervalStage_reports (Reports.of_due (reports.congr rfl rfl rfl))
  case snapshot => exact intervalStage_snapshot ⟨rfl, rfl⟩ rfl
  all_goals simp only [SameSurroundings, SameBus, SameSetup, intervalStage_frame]
  case record => exact ⟨first, later⟩
  case wait => exact wait
  case measures => exact mu
  case outputs | request | rest | capstan | reels | intake => rfl
  case chain => exact ⟨rfl, rfl⟩
  case around => exact ⟨⟨rfl, rfl⟩, rfl, rfl, rfl, rfl, rfl⟩

/-! ## The named events of the tests (log entry 2) -/

theorem noting_grows {r : Run} {e e' : ExpiryEvent} (f : State → Bool) (h : e ∈ r.events) : e ∈ (r.noting e' f).events := by
  unfold Run.noting
  split
  · exact List.mem_cons_of_mem _ h
  · exact h

theorem check_grows {r : Run} {e : ExpiryEvent} (k : ExpiryCheck) (h : e ∈ r.events) : e ∈ (Run.check c r k).events := by
  cases k with
  | position | door => exact h
  | vacuum | stall x | runaway | halt => exact noting_grows _ h

theorem checks_grow {r : Run} {e : ExpiryEvent} (l : List ExpiryCheck) (h : e ∈ r.events) :
    e ∈ (l.foldl (Run.check c) r).events := by
  induction l generalizing r with
  | nil => exact h
  | cons k l ih => exact ih (check_grows k h)

/-- What a test names at its place is named by the expiry. -/
theorem mem_events_of_check {o : ExpiryOrder} {before after : List ExpiryCheck} {k : ExpiryCheck} {e : ExpiryEvent}
    (places : checkOrder o = before ++ k :: after)
    (named : ∀ r : Run, r.state = before.foldl (fun t j => checkStage (contextOf s) j t) (servoRun o s).state →
      e ∈ (Run.check (contextOf s) r k).events) : e ∈ (expiryRun o s).events := by
  have tests : e ∈ ((checkOrder o).foldl (Run.check (contextOf s)) (servoRun o s)).events := by
    rw [places, List.foldl_append, List.foldl_cons]
    exact checks_grow after (named _ (Run.checks_state _ _ _))
  exact noting_grows intervalReached tests

theorem runaway_named {r : Run} (h : finds c r.state .runaway = true) :
    ExpiryEvent.capstanRunaway ∈ (Run.check c r .runaway).events := by
  have comes : runsAway c r.state = true := h
  simp [Run.check, Run.noting, comes, Run.andThen]

/-! ## CAPSTAN RUNAWAY and POSITION RANGE -/

theorem checkStage_of_runaway (h : finds c s .runaway = true) :
    checkStage c .runaway s = takeFault .capstanRunaway (s.mu.m - c.vt) (watched c s .runaway) := by
  have found : runsAway c s = true := h
  simp [checkStage, runawayCheck, watched, found]

theorem checkStage_of_atBound (h : finds c s .position = true) :
    checkStage c .position s = takeFault .positionRange s.mu.p (watched c s .position) := by
  have found : c.atBound = true := h
  simp [checkStage, positionCheck, watched, found]

/-- R110: the eighth expiry in a row at which m is beyond the runaway limit of v_t. -/
theorem runaway_finds (see : TestsSee s t) (running : t.cl.run = true) (runs : 7 ≤ t.fm.runaway) (beyond : ¬ SpeedFollows s) :
    finds (contextOf s) t .runaway = true := by
  have limit : t.mc.params.runawayLimit < (t.mu.m - (contextOf s).vt).natAbs := by
    rw [see.speed, see.params]
    exact Nat.lt_of_not_le beyond
  have eighth : 8 ≤ runawayAfter (contextOf s) t := by
    rw [runawayAfter, if_pos ⟨running, limit⟩]
    omega
  exact decide_eq_true eighth

/-- R6: P comes newly to a bound. -/
theorem atBound_of_newP (bound : newP s = -33554432 ∨ newP s = 33554431) (new : newP s ≠ s.mu.p) :
    (contextOf s).atBound = true := decide_eq_true ⟨bound, new.symm⟩

/-- Settles O23: the test of the fault is the one that finds something, whatever its place in the order. -/
theorem capstanRunawayHalts : Obligations.CapstanRunawayHalts := by
  unfold Obligations.CapstanRunawayHalts
  refine ⟨?runaway, ?position⟩
  case runaway =>
    intro s o resting arrival runs beyond time low door vacuum
    have see := restingServo_seen s
    have found := runaway_finds see (t := restingServo s) resting.running runs beyond
    have others (j : ExpiryCheck) (other : j ≠ .runaway) : finds (contextOf s) (restingServo s) j = false := by
      cases j with
      | position => exact not_atBound_of_within door.2
      | vacuum => exact vacuum_not_finds vacuum
      | stall x => exact see.stall ⟨time, fun x => .inl (low x)⟩ x
      | runaway => exact absurd rfl other
      | door => exact door_not_finds door.1
      | halt => exact halt_not_finds (.inl (by simp [resting.atRest.ready]))
    have speed (u : State) (counted : Counted (restingServo s) u) : u.mu.m = newM s := by
      rw [counted.rest]
      exact see.speed
    obtain ⟨before, after, u, v, places, notBefore, notAfter, reached, early, ends, runs⟩ :=
      exec_periodExpiry_of_halt (kind := .capstanRunaway) (value := newM s - s.mg.vt) o resting arrival rfl others found
        (fun u counted finding => by rw [checkStage_of_runaway finding, speed u counted]; rfl)
        (fun u counted => by
          rw [counted.rest, attended, Bool.and_eq_true]
          exact ⟨resting.quiet.watching, resting.running⟩)
    have counted : Counted (restingServo s) (watched (contextOf s) u .runaway) := by
      rw [reached]
      exact (watchedAll_counted _ _ _).trans (watched_counted _ _ _)
    have finding : finds (contextOf s) u .runaway = true := by rw [reached, finds_watchedAll notBefore, found]
    obtain ⟨⟨first, later⟩, wait, outputs, request, -, capstan, measures, reels, ⟨chain, walker⟩, intake, around, reports,
      snapshot⟩ := haltOutcome (v := v) resting counted (by rw [ends]; exact watchedAll_counted _ _ _)
    have run : (intervalStage v).fm.runaway = 0 := by
      have zero : (watched (contextOf s) u .runaway).fm.runaway = 0 := if_pos finding
      rw [ends]
      simp only [intervalStage_frame]
      exact (watchedAll_runaway notAfter _).trans zero
    have named : ExpiryEvent.capstanRunaway ∈ (expiryRun o s).events :=
      mem_events_of_check places fun r state => runaway_named (by rw [state, early]; exact finding)
    exact ⟨_, (next_namedExpiry resting.quiet.watching named).trans runs, runs, first, later, run, wait, outputs, request,
      capstan, measures, reels, chain, walker, intake, around, reports, snapshot⟩
  case position =>
    intro s o resting arrival bound new stalls speed door vacuum
    have see := restingServo_seen s
    have others (j : ExpiryCheck) (other : j ≠ .position) : finds (contextOf s) (restingServo s) j = false := by
      cases j with
      | position => exact absurd rfl other
      | vacuum => exact vacuum_not_finds vacuum
      | stall x => exact see.stall stalls x
      | runaway => exact runaway_not_finds (by rw [see.runaway speed]; decide)
      | door => exact door_not_finds door
      | halt => exact halt_not_finds (.inl (by simp [resting.atRest.ready]))
    have p (u : State) (counted : Counted (restingServo s) u) : u.mu.p = newP s := by
      rw [counted.rest]
      rfl
    obtain ⟨before, after, u, v, places, notBefore, notAfter, reached, -, ends, runs⟩ :=
      exec_periodExpiry_of_halt (kind := .positionRange) (value := newP s) o resting arrival rfl others
        (atBound_of_newP bound new)
        (fun u counted finding => by rw [checkStage_of_atBound finding, p u counted])
        (fun u counted => by
          rw [counted.rest, attended, Bool.and_eq_true]
          exact ⟨resting.quiet.watching, by simp [resting.atRest.ready]⟩)
    have counted : Counted (restingServo s) (watched (contextOf s) u .position) := by
      rw [reached]
      exact watchedAll_counted _ _ _
    obtain ⟨⟨first, later⟩, wait, outputs, request, rest, -, measures, reels, ⟨chain, walker⟩, intake, around, reports,
      snapshot⟩ := haltOutcome (v := v) resting counted (by rw [ends]; exact watchedAll_counted _ _ _)
    exact ⟨_, runs, first, later, wait, outputs, request, rest, measures, reels, chain, walker, intake, around, reports,
      snapshot⟩

end Sys2Proof.Machine
end

section
/-! SAMPLE LOSS in READY at rest: the brake of R115 at the third miss, wherever the order puts the miss. -/

namespace Sys2Proof.Machine

variable {s t u : State} {c : Context}

/-! ## The brake (R115) -/

/-- R115: the brake of a fault taken as the first, before its report. -/
def brakeTaken (kind : FaultKind) (s : State) : State := brakeResponse kind (s.onFm fun f => { f with first := some kind })

/-- R53, R115: the state, the outputs and the generator as the brake sets them, VACUUM PUMP kept, before the loops
follow. -/
def brakeOutputs (kind : FaultKind) (s : State) : State :=
  outputsTaken .fault true s.tsq.vacuum (brakeGenerator (s.onFm fun f => { f with first := some kind }))

/-- R115: with no chain the brake is the loops' following of its outputs. -/
theorem brakeTaken_eq {kind : FaultKind} (keeps : kind.dropsVacuum = false) (noChain : s.wk.active = false) :
    brakeTaken kind s =
      dropWriteEnable ((followModes (brakeOutputs kind s)).onFm fun f => { f with haltWait := none }) := by
  have inactive : ((followModes (brakeOutputs kind s)).onFm fun f => { f with haltWait := none }).wk.active = false := by
    simpa [brakeOutputs, outputsTaken, brakeGenerator] using noChain
  unfold brakeTaken brakeResponse
  dsimp only
  rw [enter_eq (by decide), keeps, Bool.not_false, Bool.and_true]
  change dropWriteEnable (endChain ((followModes (brakeOutputs kind s)).onFm fun f => { f with haltWait := none })) = _
  rw [endChain_of_inactive inactive]

/-- R15: reels that are off with the vacuum on measure on: nothing follows in the estimators. -/
theorem followModes_mu_of_brake (brake : s.tsq.brake = true) (pump : s.tsq.vacuum = true)
    (looping : ∀ x : Reel, (s.rl.get x).mode = .loop) : (followModes s).mu = s.mu := by
  have mode (x : Reel) : ((followReel .t (followReel .s (followCapstan s))).rl.get x).mode = .off := by
    have followed := followModes_rl_get x s
    rw [followedLoop_of_brake x brake, if_neg (by simp [looping x])] at followed
    have same : (followModes s).rl = (followReel .t (followReel .s (followCapstan s))).rl := by simp [followModes]
    rw [← same, followed]
  have enabled (x : Reel) : estEnabled x (followReel .t (followReel .s (followCapstan s))) = true :=
    (estEnabled_iff x _).mpr ⟨by simpa using pump, by simp [mode x]⟩
  rw [followModes, followEstimator_of_enabled (enabled .s), followEstimator_of_enabled (enabled .t)]
  simp

/-- What the brake of a fault that keeps the vacuum leaves at rest. -/
structure BrakeTaken (kind : FaultKind) (s t : State) : Prop where
  record : t.fm.first = some kind ∧ t.fm.later = s.fm.later
  wait : t.fm.haltWait = none
  outputs : t.tsq = { s.tsq with state := .fault, brake := true, writeEnable := false }
  off : t.cl.run = false
  braked : Braked t
  generator : t.mg = Mg.reset
  measures : t.mu = s.mu
  chain : t.sc = s.sc ∧ t.wk = s.wk
  due : t.ru = { s.ru with snapDue := s.ru.snapDue || decide (.fault ≠ s.tsq.state) }
  intake : t.oi = s.oi
  around : SameSurroundings s t

theorem AtRest.brakes (rest : AtRest s) {kind : FaultKind} (keeps : kind.dropsVacuum = false) :
    BrakeTaken kind s (brakeTaken kind s) := by
  have run : (followModes (brakeOutputs kind s)).cl.run = false := by
    rw [followModes_cl, followCapstan_run]
    simp [capstanToRun, brakeOutputs, outputsTaken]
  have capstan : (followModes (brakeOutputs kind s)).cl.dc = 0 := by
    rw [followModes_cl]
    refine followCapstan_dc_of_off (by simp [capstanToRun, brakeOutputs, outputsTaken]) fun off => ?_
    exact absurd off (by simp [brakeOutputs, outputsTaken, brakeGenerator, rest.running])
  have reels (x : Reel) : ((followModes (brakeOutputs kind s)).rl.get x).d = 0 := by
    have looping : ((brakeOutputs kind s).rl.get x).mode = .loop := rest.looping x
    rw [followModes_rl_get, followedLoop_of_brake x rfl, if_neg (by simp [looping])]
  have mu : (followModes (brakeOutputs kind s)).mu = s.mu := followModes_mu_of_brake rfl rest.pump rest.looping
  have fm : (followModes (brakeOutputs kind s)).fm.first = some kind ∧
      (followModes (brakeOutputs kind s)).fm.later = s.fm.later := by
    rw [followModes_fm, followCapstan_fm]
    exact ⟨rfl, rfl⟩
  rw [brakeTaken_eq keeps rest.noChain]
  obtain ⟨first, later⟩ := fm
  constructor
  case record => exact ⟨first, later⟩
  case wait => rfl
  case outputs => simp [dropWriteEnable_tsq, brakeOutputs, outputsTaken, brakeGenerator, rest.pump]
  case off => exact run
  case braked => exact ⟨by simp [dropWriteEnable_tsq, brakeOutputs, outputsTaken], capstan, reels⟩
  case generator => simp [dropWriteEnable, brakeOutputs, outputsTaken, brakeGenerator]
  case measures => exact mu
  case due =>
    simp only [dropWriteEnable_frame, State.onFm_ru, followModes_frame]
    rfl
  case chain | intake | around =>
    simp [dropWriteEnable, brakeOutputs, outputsTaken, brakeGenerator, SameSurroundings, SameBus, SameSetup]

/-- R112, R115: a fault of the brake class at rest. -/
theorem AtRest.takeFault_brakes (rest : AtRest s) {kind : FaultKind} (value : Int) (brakes : kind.brakeClass = true)
    (keeps : kind.dropsVacuum = false) (attends : attended kind s = true) :
    takeFault kind value s =
      reported (makeReport .fault kind.number value none (brakeTaken kind s)) (brakeTaken kind s) := by
  have taken := rest.brakes keeps
  have room : (brakeTaken kind s).ru.pendingReports.length < 4 := by
    have room := rest.room
    unfold Room at room
    rw [taken.due]
    exact Nat.lt_of_succ_le room
  have reports := generate_of_room (s := brakeTaken kind s) (kind := .fault) kind.number value none
    (maskPasses_of_unmasked _ (.inr (.inr (.inr rfl)))) room
  rw [takeFault_of_first value attends rest.noFault (by simp [rest.ready]) rest.noHand, if_pos brakes]
  change finishOrder _ _ (generate .fault kind.number value none (brakeTaken kind s)) = _
  rw [reports]
  refine finishOrder_of_none _ _ ?_
  change (brakeTaken kind s).tsq.inHand = none
  rw [taken.outputs]
  exact rest.noHand

/-! ## The miss -/

/-- The state in which the third miss takes its fault: the reels starved, the loss noted as reported (R18, R48). -/
def lossNoted (s : State) : State :=
  (starveReel .t (starveReel .s (s.onMu fun u => { u with missCount := satInc Config.countMax u.missCount }))).onMu
    fun u => { u with lossReported := true }

theorem missStage_of_loss (arrival : s.mu.arrival = false) (third : 2 ≤ s.mu.missCount) (pump : s.tsq.vacuum = true)
    (unreported : s.mu.lossReported = false) :
    lossDelivered s = true ∧
      missStage s = takeFault .sampleLoss (satInc Config.countMax s.mu.missCount) (lossNoted s) := by
  have count : 3 ≤ satInc Config.countMax s.mu.missCount := by
    rw [satInc_eq, Config.countMax]
    omega
  have missing : missed s = true := by simp [missed, arrival]
  have delivered : lossDelivered s = true := by simp [lossDelivered, missing, count, pump, unreported]
  refine ⟨delivered, ?_⟩
  rw [missStage, if_pos missing]
  simp only [delivered, if_true, if_neg (Nat.not_lt.mpr count)]
  rfl

theorem starveReel_mode (x y : Reel) (s : State) : ((starveReel x s).rl.get y).mode = (s.rl.get y).mode := by
  unfold starveReel
  split
  · cases x <;> cases y <;> rfl
  · cases x <;> cases y <;> rfl
  · rfl
  · rfl

theorem AtRest.starves (rest : AtRest s) : AtRest (lossNoted s) := by
  obtain ⟨ready, brake, pump, noHand, noFault, running, looping, noChain, room⟩ := rest
  constructor
  case looping =>
    intro x
    refine (starveReel_mode .t x _).trans ((starveReel_mode .s x _).trans ?_)
    exact looping x
  case room => simpa [lossNoted, Room] using room
  all_goals simpa [lossNoted]

/-- R34, R39: with the generator reset and the capstan loop off, the motion stage finds nothing to do. -/
theorem motionStage_of_braked (generator : s.mg = Mg.reset) (off : s.cl.run = false) (still : s.tsq.state ≠ .moving) :
    motionStage s = s := by
  have idle : GeneratorIdle s := by constructor <;> simp [generator, Mg.reset, still]
  have mg : (handOnSpeed 0 (s.onMg fun g => { g with satRun := 0 })).mg = s.mg := by
    simp [handOnSpeed, generator, Mg.reset]
  have kept : handOnSpeed 0 (s.onMg fun g => { g with satRun := 0 }) = s := by
    calc handOnSpeed 0 (s.onMg fun g => { g with satRun := 0 })
      _ = { s with mg := (handOnSpeed 0 (s.onMg fun g => { g with satRun := 0 })).mg } := rfl
      _ = s := by rw [mg]
  rw [motionStage, generatorStage_of_idle idle, kept, computeCapstan, if_neg (by simp [off])]

theorem timer_grows {r : Run} {e : ExpiryEvent} (h : e ∈ r.events) : e ∈ (r.timer c).events :=
  noting_grows _ (noting_grows _ h)

theorem generator_grows {r : Run} {e : ExpiryEvent} (h : e ∈ r.events) : e ∈ r.generator.events :=
  noting_grows _ (noting_grows _ (noting_grows _ h))

theorem whenever_grows {r : Run} {f : Run → Run} {e : ExpiryEvent} (b : Bool) (h : e ∈ r.events)
    (grows : ∀ r : Run, e ∈ r.events → e ∈ (f r).events) : e ∈ (r.whenever b f).events := by
  cases b
  · exact h
  · exact grows r h

theorem loss_named {r : Run} (h : lossDelivered r.state = true) : ExpiryEvent.sampleLoss ∈ r.miss.events := by
  simp [Run.miss, Run.noting, h, Run.andThen]

/-- The servo stages at rest with the arrival flag clear: the miss comes before or behind the motion, and behind its
fault the motion finds nothing to do. -/
theorem servoRun_of_miss (o : ExpiryOrder) (untimed : s.tsq.state.timed = false) (notices : s.mu.notices = [])
    (still : motionStage (missStage (s.onMu Mu.atExpiry)) = missStage (s.onMu Mu.atExpiry))
    (delivered : ∀ u, u = s.onMu Mu.atExpiry ∨ u = motionStage (s.onMu Mu.atExpiry) → lossDelivered u = true) :
    ∃ u, (u = s.onMu Mu.atExpiry ∨ u = motionStage (s.onMu Mu.atExpiry)) ∧ (servoRun o s).state = missStage u ∧
      ExpiryEvent.sampleLoss ∈ (servoRun o s).events := by
  obtain ⟨crossingsFirst, presentFirst, timerFirst, checks⟩ := o
  have timer (u : State) : timerStage (contextOf s) u = u := timerStage_of_untimed untimed
  have none : (contextOf s).crossings = [] := by simp [contextOf, measured, notices]
  have crossings (u : State) : takeCrossings (contextOf s).crossings u = u := by rw [none]; rfl
  unfold motionStage at *
  cases presentFirst with
  | true =>
    refine ⟨_, .inl rfl, ?_, ?_⟩
    · cases crossingsFirst <;> cases timerFirst <;> simpa [servoRun, timer, crossings] using still
    · have named : ExpiryEvent.sampleLoss ∈ ((((⟨s.onMu Mu.atExpiry, []⟩ : Run).whenever crossingsFirst
          (Run.crossings (contextOf s))).whenever timerFirst (Run.timer (contextOf s))).miss).events := by
        refine loss_named (delivered _ (.inl ?_))
        cases crossingsFirst <;> cases timerFirst <;> simp [timer, crossings]
      simp only [servoRun, Bool.and_true, Bool.not_true, Bool.and_false, Run.whenever_true, Run.whenever_false]
      exact whenever_grows _ (whenever_grows _ (generator_grows named) fun _ h => h) fun _ => timer_grows
  | false =>
    refine ⟨_, .inr rfl, ?_, ?_⟩
    · cases crossingsFirst <;> cases timerFirst <;> simp [servoRun, timer, crossings]
    · simp only [servoRun, Bool.and_false, Bool.not_false, Bool.and_true, Run.whenever_true, Run.whenever_false]
      refine whenever_grows _ (loss_named (delivered _ (.inr ?_))) fun _ => timer_grows
      cases crossingsFirst <;> cases timerFirst <;> simp [timer, crossings]

/-- R109 to R114: with the brake on and the capstan loop off only the vacuum, the door and the bounds are left to find. -/
theorem none_finds_of_brake (brake : s.tsq.brake = true) (off : s.cl.run = false) (fault : s.tsq.state = .fault)
    (vacuum : level .vacuumOk s = true) (door : level .doorClosed s = true) (bounds : c.atBound = false)
    (k : ExpiryCheck) : finds c s k = false := by
  cases k with
  | position => exact bounds
  | vacuum => exact vacuum_not_finds vacuum
  | stall x => simp [finds, stalls, brake]
  | runaway => exact runaway_not_finds (by simp [runawayAfter, off])
  | door => exact door_not_finds door
  | halt => exact halt_not_finds (.inl (by simp [fault]))

/-- The measurements behind the third miss (R18). -/
theorem lossNoted_mu (u : State) :
    (lossNoted u).mu = { u.mu with missCount := satInc Config.countMax u.mu.missCount, lossReported := true } := by
  simp [lossNoted]

theorem AtRest.congr (h : AtRest s) (tsq : t.tsq = s.tsq) (fm : t.fm = s.fm) (run : t.cl.run = s.cl.run) (rl : t.rl = s.rl)
    (wk : t.wk = s.wk) (ru : t.ru = s.ru) : AtRest t := by
  obtain ⟨ready, brake, pump, noHand, noFault, running, looping, noChain, room⟩ := h
  unfold Room at room
  constructor <;> simp only [Room, tsq, fm, run, rl, wk, ru] <;> assumption

/-- The third miss at rest takes SAMPLE LOSS (R18, R111, R115). -/
theorem AtRest.missStage_brakes (rest : AtRest s) (arrival : s.mu.arrival = false) (third : 2 ≤ s.mu.missCount)
    (unreported : s.mu.lossReported = false) (watches : watching s = true) :
    lossDelivered s = true ∧ missStage s = reported
      (makeReport .fault 9 (satInc Config.countMax s.mu.missCount) none (brakeTaken .sampleLoss (lossNoted s)))
      (brakeTaken .sampleLoss (lossNoted s)) := by
  obtain ⟨delivered, miss⟩ := missStage_of_loss arrival third rest.pump unreported
  have watches' : watching (lossNoted s) = true := by simpa [watching, lossNoted] using watches
  have attends : attended .sampleLoss (lossNoted s) = true := by
    rw [attended, watches']
    exact rest.starves.pump
  exact ⟨delivered, miss.trans (rest.starves.takeFault_brakes _ rfl rfl attends)⟩

theorem SameSurroundings.trans (h : SameSurroundings s t) (h' : SameSurroundings t u) : SameSurroundings s u := by
  obtain ⟨⟨ptp, ma⟩, slu, mc, freeCount, inputs, pending⟩ := h
  obtain ⟨⟨ptp', ma'⟩, slu', mc', freeCount', inputs', pending'⟩ := h'
  exact ⟨⟨ptp'.trans ptp, ma'.trans ma⟩, slu'.trans slu, mc'.trans mc, freeCount'.trans freeCount, inputs'.trans inputs,
    pending'.trans pending⟩

/-- A brake is told of the state before it by what it keeps of that state. -/
theorem BrakeTaken.congr {kind : FaultKind} (h : BrakeTaken kind t u) (mu : t.mu = s.mu) (tsq : t.tsq = s.tsq)
    (later : t.fm.later = s.fm.later) (chain : t.sc = s.sc ∧ t.wk = s.wk) (ru : t.ru = s.ru) (oi : t.oi = s.oi)
    (around : SameSurroundings s t) : BrakeTaken kind s u where
  record := ⟨h.record.1, h.record.2.trans later⟩
  wait := h.wait
  outputs := by rw [h.outputs, tsq]
  off := h.off
  braked := h.braked
  generator := h.generator
  measures := h.measures.trans mu
  chain := ⟨h.chain.1.trans chain.1, h.chain.2.trans chain.2⟩
  due := by rw [h.due, ru, tsq]
  intake := h.intake.trans oi
  around := around.trans h.around

/-- The measurements of the expiry of the third miss. -/
def lossMu (s : State) : Mu :=
  { measuredMu s with lossReported := true, missCount := satInc Config.countMax s.mu.missCount }

theorem lossNoted_measured (mu : u.mu = s.mu.atExpiry) (notices : s.mu.notices = []) (arrival : s.mu.arrival = false) :
    (lossNoted u).mu = lossMu s := by
  have update : s.mu.atExpiry = { measuredMu s with notices := [] } := by
    rw [← atExpiry_measured]
    have same : s.mu.atExpiry.arrival = false := arrival
    rw [← same]
  rw [lossNoted_mu, mu, update, measuredMu_of_no_notices notices]
  rfl

/-- The servo stages at rest in which the third miss comes about. -/
theorem servoRun_of_loss (o : ExpiryOrder) (resting : Resting s) (arrival : s.mu.arrival = false)
    (third : 2 ≤ s.mu.missCount) (unreported : s.mu.lossReported = false) :
    ExpiryEvent.sampleLoss ∈ (servoRun o s).events ∧ ∃ v, (servoRun o s).state =
      reported (makeReport .fault 9 (satInc Config.countMax s.mu.missCount) none v) v ∧
      BrakeTaken .sampleLoss { s with mu := lossMu s } v := by
  have idle : GeneratorIdle (s.onMu Mu.atExpiry) :=
    (resting.quiet.generatorIdle resting.idle (by simp [resting.ready])).congr rfl rfl
  have moved : motionStage (s.onMu Mu.atExpiry) = heldAtRest (s.onMu Mu.atExpiry) :=
    motionStage_of_idle idle resting.running
  have rest : AtRest (s.onMu Mu.atExpiry) := resting.atRest.congr rfl rfl rfl rfl rfl rfl
  have rest' : AtRest (heldAtRest (s.onMu Mu.atExpiry)) := resting.atRest.congr rfl rfl rfl rfl rfl rfl
  have early := rest.missStage_brakes arrival third unreported resting.quiet.watching
  have late := rest'.missStage_brakes arrival third unreported resting.quiet.watching
  have taken := rest.starves.brakes (kind := .sampleLoss) rfl
  have taken' := rest'.starves.brakes (kind := .sampleLoss) rfl
  have still : motionStage (missStage (s.onMu Mu.atExpiry)) = missStage (s.onMu Mu.atExpiry) := by
    rw [early.2]
    refine motionStage_of_braked taken.generator taken.off ?_
    change (brakeTaken .sampleLoss (lossNoted (s.onMu Mu.atExpiry))).tsq.state ≠ .moving
    simp [taken.outputs]
  obtain ⟨u, places, servo, named⟩ := servoRun_of_miss o (by simp [resting.ready, TState.timed]) resting.quiet.notices still
    fun u places => by
      obtain rfl | rfl := places
      · exact early.1
      · rw [moved]
        exact late.1
  refine ⟨named, ?_⟩
  rw [servo]
  obtain rfl | rfl := places
  · refine ⟨_, early.2, taken.congr (lossNoted_measured rfl resting.quiet.notices arrival) ?_ ?_ ?_ ?_ ?_ ?_⟩ <;>
      simp [lossNoted, SameSurroundings, SameBus, SameSetup]
  · rw [moved]
    refine ⟨_, late.2, taken'.congr (lossNoted_measured rfl resting.quiet.notices arrival) ?_ ?_ ?_ ?_ ?_ ?_⟩ <;>
      simp [lossNoted, heldAtRest, SameSurroundings, SameBus, SameSetup]

/-- Settles O18: the brake of SAMPLE LOSS before or behind the motion, then tests that find nothing. -/
theorem sampleLossBrakes : Obligations.SampleLossBrakes := by
  unfold Obligations.SampleLossBrakes
  intro s o resting faultless arrival third unreported
  obtain ⟨named, v, servo, ⟨first, later⟩, wait, outputs, off, braked, generator, measures, ⟨chain, walker⟩, due, intake,
    around⟩ := servoRun_of_loss o resting arrival third unreported
  obtain ⟨⟨ptp, ma⟩, slu, mc, freeCount, inputs, pending⟩ := around
  generalize report : makeReport .fault 9 (satInc Config.countMax s.mu.missCount) none v = r at servo
  have level (f : Func) : level f (reported r v) = level f s := level_of_slu slu f
  have tests : checked o s (reported r v) = allWatched (contextOf s) (reported r v) :=
    checked_of_none_finds (none_finds_of_brake braked.1 off (congrArg Tsq.state outputs)
      ((level _).trans faultless.vacuum) ((level _).trans faultless.door.1) (not_atBound_of_within faultless.door.2))
  have ends : senseChange (checked o s (servoRun o s).state) = allWatched (contextOf s) (reported r v) := by
    rw [servo, tests]
    exact senseChange_of_no_request ((congrArg Slu.request slu).trans resting.quiet.request)
  have runs := exec_periodExpiry resting.quiet.watching resting.due ends intake
  have named' : ExpiryEvent.sampleLoss ∈ (expiryRun o s).events := noting_grows intervalReached (checks_grow _ named)
  have state : v.tsq.state = .fault := congrArg Tsq.state outputs
  have reports : Reports v (allWatched (contextOf s) (reported r v))
      [⟨.fault, 9, (satInc Config.countMax s.mu.missCount : Nat), none, .fault⟩] := by
    rw [← report, ← state]
    exact (reported_reports .fault 9 _ none v).congr rfl rfl rfl
  have reports' : Reports s (allWatched (contextOf s) (reported r v))
      [⟨.fault, 9, (satInc Config.countMax s.mu.missCount : Nat), none, .fault⟩] :=
    Reports.of_due (reports.congr due.symm rfl rfl)
  have standing : haltWaitAfter (contextOf s) (reported r v) = none := by
    rw [haltWaitAfter, if_neg (by simp [reported, state])]
    exact wait
  rw [satInc_eq] at reports'
  refine ⟨_, (next_namedExpiry resting.quiet.watching named').trans runs, runs, ?_⟩
  simp only [SameSurroundings, SameBus, SameSetup, Braked, intervalStage_frame]
  refine ⟨first, later.trans resting.noFault.2, standing, outputs, braked, generator, measures.trans ?_, chain, walker, intake,
    ⟨⟨ptp, ma⟩, slu, mc, freeCount, inputs, pending⟩, intervalStage_reports reports', intervalStage_snapshot ⟨?_, ?_⟩ mc⟩
  · rw [lossMu, satInc_eq]
    rfl
  · change v.ru.snapDue = _
    rw [due]
    change _ = (_ || decide (v.tsq.state ≠ _))
    rw [state]
  · change v.ru.snapCounter = _
    rw [due]

end Sys2Proof.Machine
end

section
/-! A debounce tick at which one line changes and the others are quiet (R121 to R130). -/

namespace Sys2Proof.Machine

variable {s t u : State} {raw : BitVec 12} {k j : Fin 12}

/-! ## One line changed -/

@[simp] theorem onLine_get_self (k : Fin 12) (f : Line → Line) (s : State) :
    (onLine k f s).slu.lines.get k = f (s.slu.lines.get k) := by
  change (s.slu.lines.set k.val (f (s.slu.lines.get k)) k.isLt)[k.val] = _
  exact Vector.getElem_set_self _

theorem onLine_get_ne (h : j ≠ k) (f : Line → Line) (s : State) :
    (onLine k f s).slu.lines.get j = s.slu.lines.get j := by
  have apart : k.val ≠ j.val := fun same => h (Fin.ext same.symm)
  change (s.slu.lines.set k.val (f (s.slu.lines.get k)) k.isLt)[j.val] = _
  exact Vector.getElem_set_ne _ _ apart

/-- The lines read alike: by function and level (R122). -/
def ReadsAlike (s t : State) : Prop :=
  ∀ j : Fin 12, (t.slu.lines.get j).func = (s.slu.lines.get j).func ∧ (t.slu.lines.get j).level = (s.slu.lines.get j).level

theorem ReadsAlike.level (h : ReadsAlike s t) (f : Func) : level f t = level f s := by
  have carriers : carrier f t = carrier f s := by
    unfold carrier
    congr 1
    funext j
    rw [(h j).1]
  unfold Machine.level
  rw [carriers]
  cases carrier f s with
  | none => rfl
  | some j => exact (h j).2

theorem mem_lineIds (k : Fin 12) : k ∈ lineIds := by
  revert k
  decide

/-- R120, R122: the line that alone carries a function gives its level. -/
theorem level_of_carrier {f : Func} (carries : ∀ j : Fin 12, (s.slu.lines.get j).func = f ↔ j = k) :
    level f s = (s.slu.lines.get k).level := by
  have found : carrier f s = some k := by
    cases carrier : carrier f s with
    | none =>
      have absent := List.find?_eq_none.mp carrier k (mem_lineIds k)
      exact absurd ((carries k).mpr rfl) (by simpa using absent)
    | some j =>
      have carried := List.find?_some carrier
      rw [(carries j).mp (by simpa using carried)]
  rw [level, found]

/-! ## Quiet lines -/

/-- R121: what a tick does with the timer of a line that it neither changes nor lets notice. -/
def timed (raw : BitVec 12) (k : Fin 12) (l : Line) : Line :=
  { l with timer := if l.func = .none then l.timer else if lineSample k raw l.invert = l.level then 0 else l.timer + 1 }

theorem onLine_of_fixed {f : Line → Line} (h : f (s.slu.lines.get k) = s.slu.lines.get k) : onLine k f s = s := by
  have same : s.slu.lines.set k.val (s.slu.lines.get k) k.isLt = s.slu.lines := Vector.set_getElem_self _
  unfold onLine State.onSlu
  dsimp only
  rw [h, same]

theorem onLine_congr {f g : Line → Line} (h : f (s.slu.lines.get k) = g (s.slu.lines.get k)) :
    onLine k f s = onLine k g s := by
  unfold onLine State.onSlu
  dsimp only
  rw [h]

theorem levelNotice_of_silent
    (h : ((lineOf k s).mode.noticesLevel (lineOf k s).level && !(lineOf k s).pending) = false) : levelNotice k s = s := by
  unfold levelNotice
  dsimp only
  rw [h, if_neg (by decide)]

/-- R125: a line that no level mode calls for does not notice. -/
theorem silent_iff (l : Line) : (l.mode.noticesLevel l.level && !l.pending) = false ↔
    (l.pending = false → ¬ (l.mode = .high ∧ l.level = true) ∧ ¬ (l.mode = .low ∧ l.level = false)) := by
  cases l.mode <;> cases l.level <;> cases l.pending <;> simp [LineMode.noticesLevel]

/-- R121, R125: a quiet line is only timed. -/
theorem tickLine_of_quiet (h : Quiet k raw s) : tickLine raw k s = onLine k (timed raw k) s := by
  obtain ⟨steady, silent⟩ := h
  unfold tickLine
  dsimp only [lineOf]
  by_cases none : (s.slu.lines.get k).func = .none
  · rw [if_pos none]
    refine (onLine_of_fixed ?_).symm
    rw [timed, if_pos none]
  · have stays (f : Line → Nat) : levelNotice k (onLine k (fun l => { l with timer := f l }) s) =
        onLine k (fun l => { l with timer := f l }) s := by
      refine levelNotice_of_silent ?_
      rw [lineOf, onLine_get_self]
      exact (silent_iff _).mpr (silent none)
    rw [if_neg none]
    by_cases same : lineSample k raw (s.slu.lines.get k).invert = (s.slu.lines.get k).level
    · rw [if_pos same, stays]
      refine onLine_congr ?_
      rw [timed, if_neg none, if_pos same]
    · have waits : accepts k raw s = false := by
        have short : ¬ 2 ^ (s.slu.lines.get k).exponent.toNat ≤ (s.slu.lines.get k).timer + 1 :=
          fun long => steady ⟨none, same, long⟩
        simp [accepts, lineOf, short]
      rw [if_neg same, waits, if_neg (by decide), stays]
      refine onLine_congr ?_
      rw [timed, if_neg none, if_neg same]

/-- From s to t at most timers of lines have moved. -/
structure TimersOnly (s t : State) : Prop where
  rest : t = { s with slu := t.slu }
  set : t.slu.changeSet = s.slu.changeSet ∧ t.slu.request = s.slu.request
  reads : ReadsAlike s t

theorem TimersOnly.refl (s : State) : TimersOnly s s := ⟨rfl, ⟨rfl, rfl⟩, fun _ => ⟨rfl, rfl⟩⟩

theorem TimersOnly.trans (h : TimersOnly s t) (h' : TimersOnly t u) : TimersOnly s u where
  rest := by rw [h'.rest, h.rest]
  set := ⟨h'.set.1.trans h.set.1, h'.set.2.trans h.set.2⟩
  reads j := ⟨(h'.reads j).1.trans (h.reads j).1, (h'.reads j).2.trans (h.reads j).2⟩

theorem timed_timersOnly (raw : BitVec 12) (k : Fin 12) (s : State) : TimersOnly s (onLine k (timed raw k) s) := by
  refine ⟨rfl, ⟨rfl, rfl⟩, fun j => ?_⟩
  by_cases same : j = k
  · rw [same, onLine_get_self]
    exact ⟨rfl, rfl⟩
  · rw [onLine_get_ne same]
    exact ⟨rfl, rfl⟩

theorem Quiet.congr (h : Quiet k raw s) (line : t.slu.lines.get k = s.slu.lines.get k) : Quiet k raw t := by
  unfold Quiet Changes sampled at *
  rw [line]
  exact h

/-- R130: quiet lines, taken one after the other, are only timed, each by itself. -/
theorem tickLines_of_quiet {l : List (Fin 12)} (each : l.Nodup) (quiet : ∀ j ∈ l, Quiet j raw s) :
    TimersOnly s (l.foldl (fun s k => tickLine raw k s) s) ∧
      ∀ j, j ∉ l → (l.foldl (fun s k => tickLine raw k s) s).slu.lines.get j = s.slu.lines.get j := by
  induction l generalizing s with
  | nil => exact ⟨.refl s, fun _ _ => rfl⟩
  | cons i l ih =>
    obtain ⟨notLater, rest⟩ := List.nodup_cons.mp each
    have first := tickLine_of_quiet (quiet i List.mem_cons_self)
    have later (j : Fin 12) (other : j ≠ i) : (tickLine raw i s).slu.lines.get j = s.slu.lines.get j := by
      rw [first, onLine_get_ne other]
    obtain ⟨timers, lines⟩ := ih (s := tickLine raw i s) rest fun j mem =>
      Quiet.congr (quiet j (List.mem_cons_of_mem i mem)) (later j fun same => notLater (same ▸ mem))
    refine ⟨(first ▸ timed_timersOnly raw i s).trans timers, fun j apart => ?_⟩
    obtain ⟨other, notMem⟩ := not_or.mp (mt List.mem_cons.mpr apart)
    exact (lines j notMem).trans (later j other)

/-! ## The line that changes -/

/-- R121: the line at the tick that accepts its change. -/
def changed (l : Line) : Line := { l with level := !l.level, timer := 0 }

/-- R126, R128: what the notice of a line leaves in the Sense Line Unit. -/
def noticed (k : Fin 12) (f : Func) (s : State) : State :=
  (onLine k (fun l => { l with pending := true, carry := .notYet }) s).onSlu fun u =>
    { u with changeSet := u.changeSet ||| f.setBit, request := true }

theorem notice_eq (k : Fin 12) (s : State) :
    notice k s = noticed k (s.slu.lines.get k).func (noticeAction (s.slu.lines.get k).func s) := rfl

theorem noticed_line (k : Fin 12) (f : Func) (s : State) :
    (noticed k f s).slu.lines.get k = { s.slu.lines.get k with pending := true, carry := .notYet } :=
  onLine_get_self k (fun l => { l with pending := true, carry := .notYet }) s

theorem noticed_line_ne (h : j ≠ k) (f : Func) (s : State) :
    (noticed k f s).slu.lines.get j = s.slu.lines.get j :=
  onLine_get_ne h (fun l => { l with pending := true, carry := .notYet }) s

/-- R124, R125: the line notices at the tick that accepts its change, by the test of its edge mode or of its level mode. -/
theorem notices_iff (l : Line) : Notices l ↔
    (l.mode.noticesEdge (!l.level) || (l.mode.noticesLevel (!l.level) && !l.pending)) = true := by
  obtain ⟨func, mode, invert, exponent, level, timer, pending, carry⟩ := l
  unfold Notices
  cases mode <;> simp [LineMode.noticesEdge, LineMode.noticesLevel]

/-- R121 to R126: the tick of a line that changes, by what follows the new level and, where it notices, the notice's
action. -/
theorem tickLine_of_change {v : State} (changes : Changes k raw s)
    (follows : handOnLevel (s.slu.lines.get k).func (onLine k changed s) = v)
    (line : v.slu.lines.get k = changed (s.slu.lines.get k))
    (acts : (noticeAction (s.slu.lines.get k).func v).slu = v.slu) :
    tickLine raw k s = if Notices (s.slu.lines.get k) then
      noticed k (s.slu.lines.get k).func (noticeAction (s.slu.lines.get k).func v) else v := by
  obtain ⟨carried, differs, long⟩ := changes
  replace differs : lineSample k raw (s.slu.lines.get k).invert ≠ (s.slu.lines.get k).level := differs
  have accepted : accepts k raw s = true := by simp [accepts, lineOf, carried, differs, long]
  have func : (v.slu.lines.get k).func = (s.slu.lines.get k).func := by rw [line]; rfl
  have mode : (v.slu.lines.get k).mode = (s.slu.lines.get k).mode := by rw [line]; rfl
  have noticing : notice k v = noticed k (s.slu.lines.get k).func (noticeAction (s.slu.lines.get k).func v) := by
    rw [notice_eq, func]
  have after : (notice k v).slu.lines.get k = { changed (s.slu.lines.get k) with pending := true, carry := .notYet } := by
    rw [noticing, noticed_line, acts, line]
  have accept : acceptChange k s =
      if (s.slu.lines.get k).mode.noticesEdge (!(s.slu.lines.get k).level) then notice k v else v := by
    have onto : onLine k (fun l => { l with level := !(s.slu.lines.get k).level, timer := 0 }) s = onLine k changed s :=
      onLine_congr rfl
    unfold acceptChange
    dsimp only [lineOf]
    simp only [onto, follows, mode]
  have level : levelNotice k v =
      if (s.slu.lines.get k).mode.noticesLevel (!(s.slu.lines.get k).level) && !(s.slu.lines.get k).pending then
        notice k v else v := by
    unfold levelNotice
    simp only [lineOf, line]
    rfl
  have once : levelNotice k (notice k v) = notice k v := levelNotice_of_silent (by
    rw [lineOf, after]
    simp)
  unfold tickLine
  dsimp only [lineOf]
  rw [if_neg carried, if_neg differs, accepted, if_pos rfl, accept]
  simp only [notices_iff, Bool.or_eq_true, ← noticing]
  by_cases edge : (s.slu.lines.get k).mode.noticesEdge (!(s.slu.lines.get k).level) = true
  · rw [if_pos edge, if_pos (.inl edge), once]
  · rw [if_neg edge, level]
    simp only [edge, Bool.false_eq_true, false_or]

/-! ## The tick (R130) -/

theorem Changes.congr (h : Changes k raw s) (line : t.slu.lines.get k = s.slu.lines.get k) : Changes k raw t := by
  unfold Changes sampled at *
  rw [line]
  exact h

/-- R130: the change of one line amid quiet ones, wherever the order takes it. -/
theorem tick_of_change (order : List (Fin 12)) (others : ∀ j, j ≠ k → Quiet j raw s)
    (apart : ∀ u, TimersOnly s u → u.slu.lines.get k = s.slu.lines.get k → ∀ j, j ≠ k →
      (tickLine raw k u).slu.lines.get j = u.slu.lines.get j) :
    ∃ u, TimersOnly s u ∧ u.slu.lines.get k = s.slu.lines.get k ∧ TimersOnly (tickLine raw k u) (tick raw order s) ∧
      (tick raw order s).slu.lines.get k = (tickLine raw k u).slu.lines.get k := by
  have each : (tickOrder order).Nodup := nodup_firstPlaces _ _
  have place : k ∈ tickOrder order := by simp [tickOrder, mem_firstPlaces, mem_lineIds]
  obtain ⟨before, after, places⟩ := List.append_of_mem place
  rw [places] at each
  have rest : (before ++ after).Nodup := each.sublist (by simp)
  have notBefore : k ∉ before := fun mem => (List.nodup_append.mp each).2.2 k mem k List.mem_cons_self rfl
  have notAfter : k ∉ after := (List.nodup_cons.mp (each.sublist (List.sublist_append_right _ _))).1
  obtain ⟨timers, lines⟩ := tickLines_of_quiet (s := s.onSlu fun u => { u with raw := raw }) (raw := raw)
    (rest.sublist (List.sublist_append_left _ _)) fun j mem =>
      Quiet.congr (others j fun same => notBefore (same ▸ mem)) rfl
  have ticked : tick raw order s = after.foldl (fun s k => tickLine raw k s) (tickLine raw k
      (before.foldl (fun s k => tickLine raw k s) (s.onSlu fun u => { u with raw := raw }))) := by
    rw [tick, places, List.foldl_append, List.foldl_cons]
  generalize reached : before.foldl (fun s k => tickLine raw k s) (s.onSlu fun u => { u with raw := raw }) = u
    at timers lines ticked
  have fromStart : TimersOnly s u := ⟨timers.rest, timers.set, timers.reads⟩
  have own : u.slu.lines.get k = s.slu.lines.get k := lines k notBefore
  obtain ⟨timers', lines'⟩ := tickLines_of_quiet (s := tickLine raw k u) (raw := raw)
    (rest.sublist (List.sublist_append_right _ _)) fun j mem => by
      have other : j ≠ k := fun same => notAfter (same ▸ mem)
      have early : j ∉ before := fun early => (List.nodup_append.mp rest).2.2 j early j mem rfl
      exact Quiet.congr (others j other) ((apart u fromStart own j other).trans (lines j early))
  rw [ticked]
  exact ⟨u, fromStart, own, timers', lines' k notAfter⟩

/-- What a tick of one changing line leaves: the line followed, and what the followers of the new level and the notice's
action do to the rest. -/
theorem change_followed {f : Func} (change : LineChange k f raw s) (order : List (Fin 12))
    (lines : ∀ u, TimersOnly s u → u.slu.lines.get k = s.slu.lines.get k →
      (handOnLevel f (onLine k changed u)).slu = (onLine k changed u).slu)
    (acts : ∀ v, (noticeAction f v).slu = v.slu) :
    LineFollowed k f.setBit s (tick raw order s) ∧ ∃ u, TimersOnly s u ∧ u.slu.lines.get k = s.slu.lines.get k ∧
      tick raw order s = { (if Notices (s.slu.lines.get k) then noticeAction f (handOnLevel f (onLine k changed u))
        else handOnLevel f (onLine k changed u)) with slu := (tick raw order s).slu } := by
  have func : (s.slu.lines.get k).func = f := (change.carries k).mpr rfl
  have ticked (u : State) (timers : TimersOnly s u) (own : u.slu.lines.get k = s.slu.lines.get k) :
      tickLine raw k u = if Notices (s.slu.lines.get k) then
        noticed k f (noticeAction f (handOnLevel f (onLine k changed u))) else handOnLevel f (onLine k changed u) := by
    have func' : (u.slu.lines.get k).func = f := own ▸ func
    have line : (handOnLevel f (onLine k changed u)).slu.lines.get k = changed (u.slu.lines.get k) := by
      rw [lines u timers own, onLine_get_self]
    have taken := tickLine_of_change (v := handOnLevel f (onLine k changed u)) (Changes.congr change.changes own)
      (by rw [func']) line
      (by rw [func']; exact acts _)
    rwa [func', own] at taken
  obtain ⟨u, timers, own, others, line⟩ := tick_of_change (s := s) (k := k) (raw := raw) order change.others
    fun u timers own j other => by
      rw [ticked u timers own]
      split
      · rw [noticed_line_ne other, acts, lines u timers own, onLine_get_ne other]
      · rw [lines u timers own, onLine_get_ne other]
  have slu := lines u timers own
  have taken := ticked u timers own
  have own' : (handOnLevel f (onLine k changed u)).slu.lines.get k = changed (s.slu.lines.get k) := by
    rw [slu, onLine_get_self, own]
  have set : (handOnLevel f (onLine k changed u)).slu.changeSet = s.slu.changeSet := by
    rw [slu]
    exact timers.set.1
  have request : (handOnLevel f (onLine k changed u)).slu.request = s.slu.request := by
    rw [slu]
    exact timers.set.2
  refine ⟨?_, u, timers, own, ?_⟩
  · unfold LineFollowed
    dsimp only
    rw [line, others.set.1, others.set.2, taken]
    generalize handOnLevel f (onLine k changed u) = v at own' set request
    by_cases notices : Notices (s.slu.lines.get k)
    · have marked : (noticed k f (noticeAction f v)).slu.changeSet = s.slu.changeSet ||| f.setBit := by
        rw [← set, ← acts v]
        rfl
      have asked : (noticed k f (noticeAction f v)).slu.request = true := rfl
      simp only [if_pos notices, decide_eq_true notices, Bool.true_or]
      exact ⟨by rw [noticed_line, acts, own']; rfl, marked, asked⟩
    · simp only [if_neg notices, decide_eq_false notices, Bool.false_or]
      exact ⟨own', set, request⟩
  · rw [others.rest, taken]
    split <;> rfl

/-- Log entry 2: the tick under the name of the change that it accepts, where nothing is due behind it. -/
theorem exec_of_change {f : Func} (change : LineChange k f raw s) (order : List (Fin 12))
    (oi : (tick raw order s).oi = s.oi) :
    exec (.acceptedChange k raw order) s = .next (tick raw order s) ∧
      exec (.debounceTick raw order) s = .next (tick raw order s) := by
  obtain ⟨carried, differs, long⟩ := change.changes
  have sample : lineSample k raw (s.slu.lines.get k).invert ≠ (s.slu.lines.get k).level := differs
  have accepted : accepts k raw s = true := by simp [accepts, lineOf, carried, sample, long]
  have ends := conclude_of_nothingDue (change.due.congr oi)
  refine ⟨?_, congrArg Host.Outcome.next ends⟩
  change Host.Outcome.next (if accepts k raw s then conclude (tick raw order s) else s) = _
  rw [if_pos accepted, ends]

/-! ## The three functions -/

/-- R8: the function of a mark's line. -/
def Mark.func : Mark → Func
  | .bot => .botMark
  | .eot => .eotMark

/-- R8, R126: a mark line's change holds the mark's notice, and no more. -/
theorem mark_followed {mark : Mark} (change : LineChange k mark.func raw s) (order : List (Fin 12)) :
    ∃ t, exec (.acceptedChange k raw order) s = .next t ∧ exec (.debounceTick raw order) s = .next t ∧
      LineFollowed k mark.func.setBit s t ∧
      t.mu.notices =
        (if Notices (s.slu.lines.get k) then s.mu.notices.take 3 ++ [⟨mark, s.mu.p + s.mu.accum⟩]
         else s.mu.notices) ∧
      t = { s with slu := t.slu, mu := { s.mu with notices := t.mu.notices } } := by
  have still (u : State) : handOnLevel mark.func u = u := by cases mark <;> rfl
  have acts (u : State) : noticeAction mark.func u = addNotice mark u := by cases mark <;> rfl
  obtain ⟨followed, u, timers, -, ticked⟩ := change_followed change order (fun u _ _ => by rw [still])
    fun u => by rw [acts]; rfl
  rw [acts, still, timers.rest] at ticked
  have rest : tick raw order s = { s with slu := (tick raw order s).slu, mu := (tick raw order s).mu } := by
    rw [ticked]
    split <;> rfl
  have mu : (tick raw order s).mu = { s.mu with
      notices := if Notices (s.slu.lines.get k) then s.mu.notices.take 3 ++ [⟨mark, s.mu.p + s.mu.accum⟩]
        else s.mu.notices } := by
    refine (congrArg State.mu ticked).trans ?_
    split <;> rfl
  obtain ⟨accepted, debounced⟩ := exec_of_change change order (by rw [rest])
  refine ⟨_, accepted, debounced, followed, by rw [mu], ?_⟩
  conv_lhs => rw [rest, mu]
  rw [mu]

/-- R122, R123: the followers of the changed line's function read its new level. -/
theorem level_of_change {f : Func} (change : LineChange k f raw s) (timers : TimersOnly s u)
    (own : u.slu.lines.get k = s.slu.lines.get k) : level f (onLine k changed u) = !(s.slu.lines.get k).level := by
  have carries (j : Fin 12) : ((onLine k changed u).slu.lines.get j).func = f ↔ j = k := by
    rw [← change.carries j, ← (timers.reads j).1]
    by_cases same : j = k
    · rw [same, onLine_get_self]
      rfl
    · rw [onLine_get_ne same]
  rw [level_of_carrier carries, onLine_get_self, own]
  rfl

/-- R85: RING LOST drops WRITE ENABLE and is reported with the current segment. -/
theorem ringLost_of_chain {h : InHand} {i : Fin 32} {seg : Segment} (hand : s.tsq.inHand = some h)
    (chain : h.code = .runChain) (writes : h.fields.writeIntent = true) (current : s.wk.current = some (i, seg))
    (mask : s.mc.params.mask.markCrossed = true) (room : Room 1 s) :
    ringLost s = reported (makeReport .markCrossed 5 i.val (some h.seq) s) (dropWriteEnable s) := by
  have followed : ringFollowed s = true := by simp [ringFollowed, hand, chain, writes]
  have index : ringLostIndex s = i := by simp [ringLostIndex, current]
  have room' : (dropWriteEnable s).ru.pendingReports.length < 4 := by
    unfold Room at room
    exact Nat.lt_of_succ_le room
  have seq : handSeq s = some h.seq := by simp [handSeq, hand]
  unfold ringLost
  rw [if_pos followed]
  simp only [index, seq, current, Option.isNone_some, Bool.false_eq_true, if_false]
  exact generate_of_room (s := dropWriteEnable s) (kind := .markCrossed) _ _ _ mask room'

/-- R95: the end of an UNLOAD in WIND-OFF, before its report. -/
def unloadLeft (s : State) : State := enter .unloaded true false s

/-- R79, R95: an UNLOAD complete in WIND-OFF. -/
def unloadEnded (h : InHand) (s : State) : State :=
  clearHand (reported (makeReport .orderDone 0 0 (some h.seq) (unloadLeft s)) (unloadLeft s))

theorem unloadLeft_eq (s : State) : unloadLeft s = followModes (outputsTaken .unloaded true false s) :=
  enter_eq (by decide) _ _ _

theorem unloadEnded_slu (h : InHand) (s : State) : (unloadEnded h s).slu = s.slu := by
  change (unloadLeft s).slu = s.slu
  simp [unloadLeft_eq, outputsTaken]

/-- R95: the tape gone in WIND-OFF, where the vacuum is off and no TAPE BREAK is attended (R104). -/
theorem tapeLoss_of_windOff {h : InHand} (windOff : s.tsq.state = .unloadingWindOff) (pump : s.tsq.vacuum = false)
    (hand : s.tsq.inHand = some h) (unload : h.code = .unload) (room : Room 1 s) :
    windOffTapeLoss (takeFault .tapeBreak 0 s) = unloadEnded h s := by
  have unattended : attended .tapeBreak s = false := by simp [attended, pump]
  have hand' : (unloadLeft s).tsq.inHand = some h := by simpa [unloadLeft_eq, outputsTaken] using hand
  have room' : (unloadLeft s).ru.pendingReports.length < 4 := by
    unfold Room at room
    simp only [unloadLeft_eq, outputsTaken, followModes_frame]
    exact Nat.lt_of_succ_le room
  have value : orderDoneValue h .complete 0 (unloadLeft s) = 0 := by simp [orderDoneValue, unload]
  rw [takeFault, unattended, if_neg (by decide), windOffTapeLoss, if_pos windOff]
  change finishOrder .complete 0 (unloadLeft s) = _
  unfold finishOrder
  rw [hand']
  dsimp only
  rw [value, generate_of_room (s := unloadLeft s) (kind := .orderDone) _ _ _ (maskPasses_of_unmasked _ (.inl rfl)) room']
  rfl

/-- Settles O32: `change_followed` for the three functions. -/
theorem acceptedChangesAreFollowed : Obligations.AcceptedChangesAreFollowed := by
  unfold Obligations.AcceptedChangesAreFollowed
  refine ⟨?mark, ?ring, ?tape⟩
  case mark =>
    intro s k mark raw order change
    cases mark with
    | bot => exact mark_followed (mark := .bot) change order
    | eot => exact mark_followed (mark := .eot) change order
  case ring =>
    intro s k raw order h i seg change high hand chain writes current room mask
    have lost (u : State) (timers : TimersOnly s u) (own : u.slu.lines.get k = s.slu.lines.get k) :
        handOnLevel .writeRing (onLine k changed u) = reported
          (makeReport .markCrossed 5 i.val (some h.seq) (onLine k changed u)) (dropWriteEnable (onLine k changed u)) := by
      have absent := (level_of_change change timers own).trans (congrArg Bool.not high)
      change (if level .writeRing (onLine k changed u) then onLine k changed u else ringLost (onLine k changed u)) = _
      rw [absent, if_neg (by decide), timers.rest]
      exact ringLost_of_chain hand chain writes current mask room
    obtain ⟨followed, u, timers, own, ticked⟩ := change_followed change order
      (fun u timers own => by rw [lost u timers own]; rfl) fun _ => rfl
    have same (v : State) : noticeAction .writeRing v = v := rfl
    rw [same, ite_self, lost u timers own, timers.rest] at ticked
    have rest : tick raw order s = { s with
        slu := (tick raw order s).slu, tsq := (tick raw order s).tsq, ru := (tick raw order s).ru } := by
      rw [ticked]
      rfl
    obtain ⟨accepted, debounced⟩ := exec_of_change change order (by rw [rest])
    refine ⟨_, accepted, debounced, followed, by rw [ticked]; rfl, ?_, rest⟩
    have reports := reported_reports .markCrossed 5 i.val (some h.seq) (dropWriteEnable s)
    exact reports.congr rfl (by rw [ticked]; rfl) (by rw [ticked]; rfl)
  case tape =>
    intro s k raw order h change high law windOff pump hand unload room
    have lost (u : State) (timers : TimersOnly s u) (own : u.slu.lines.get k = s.slu.lines.get k) :
        handOnLevel .tapeInPath (onLine k changed u) = unloadEnded h (onLine k changed u) := by
      have absent := (level_of_change change timers own).trans (congrArg Bool.not high)
      change (if level .tapeInPath (onLine k changed u) then onLine k changed u
        else windOffTapeLoss (takeFault .tapeBreak 0 (onLine k changed u))) = _
      rw [absent, if_neg (by decide), timers.rest]
      exact tapeLoss_of_windOff windOff pump hand unload room
    obtain ⟨followed, u, timers, own, ticked⟩ := change_followed change order
      (fun u timers own => by rw [lost u timers own]; exact unloadEnded_slu _ _) fun _ => rfl
    have same (v : State) : noticeAction .tapeInPath v = v := rfl
    rw [same, ite_self, lost u timers own, timers.rest] at ticked
    generalize line : onLine k changed { s with slu := u.slu } = v at ticked
    have kept : v = { s with slu := v.slu } := by
      rw [← line]
      rfl
    have left := unloadLeft_eq v
    have braked : Braked (unloadLeft v) := by
      rw [kept]
      exact enter_brakes (by decide) (fun off => (law.capstanOff off).1) fun x off => (law.reelOff x off).1
    have tsq : (unloadLeft v).tsq = { s.tsq with state := .unloaded, brake := true, vacuum := false } := by
      rw [left, followModes_tsq, kept]
      rfl
    have ru : (unloadLeft v).ru = { s.ru with snapDue := s.ru.snapDue || decide (.unloaded ≠ s.tsq.state) } := by
      rw [left, kept]
      simp only [followModes_frame]
      rfl
    have fm : (unloadLeft v).fm.first = s.fm.first := by
      rw [left, followModes_fm, followCapstan_fm, kept]
      rfl
    obtain ⟨oi, mg, sc, wk, bus, mc⟩ : (unloadLeft v).oi = s.oi ∧ (unloadLeft v).mg = s.mg ∧ (unloadLeft v).sc = s.sc ∧
        (unloadLeft v).wk = s.wk ∧ SameBus s (unloadLeft v) ∧ (unloadLeft v).mc = s.mc := by
      rw [left, kept]
      simp [outputsTaken, SameBus]
    unfold unloadEnded at ticked
    generalize unloadLeft v = w at *
    have ended : (tick raw order s).tsq = s.tsq.ended .unloaded true false := by
      rw [ticked]
      change { w.tsq with inHand := none, timer := 0, timerOn := false, writeEnable := false } = _
      rw [tsq]
      rfl
    have reports : Reports w (tick raw order s) [⟨.orderDone, 0, 0, some h.seq, .unloaded⟩] := by
      have reports := reported_reports .orderDone 0 0 (some h.seq) w
      rw [tsq] at reports
      exact reports.congr rfl (by rw [ticked]; rfl) (by rw [ticked]; rfl)
    obtain ⟨accepted, debounced⟩ := exec_of_change change order (by rw [ticked]; exact oi)
    refine ⟨_, accepted, debounced, followed, ended, braked.congr ?_ ?_ ?_, ⟨?_, ?_⟩,
      Reports.of_due (reports.congr ru.symm rfl rfl), ?_⟩
    · rw [ended, braked.1]
      rfl
    · rw [ticked]
      rfl
    · rw [ticked]
      rfl
    · rw [ended, ticked]
      exact congrArg Ru.snapDue ru
    · rw [ticked]
      change w.ru.snapCounter = _
      rw [ru]
    · rw [ticked]
      exact ⟨mg, sc, wk, fm, oi, bus, mc⟩

end Sys2Proof.Machine
end

section
/-! REWIND and UNLOAD at their take, and the BOT crossings of their legs. -/

namespace Sys2Proof.Machine

variable {s t u : State}

/-! ## The legs begun in READY (R92 to R94) -/

/-- The record of a REWIND or of an UNLOAD. -/
def legRecord (unload : Bool) (seq : Byte) (b : Body) : Record := ⟨seq, if unload then .unload else .rewind, b⟩

/-- A leg begun in READY at rest: the order in hand, the state, and the motion. -/
def legTaken (st : TState) (leg : Leg) (m : Motion) (d : Int) (r : Record) (s : State) : State :=
  (setLeg leg (stateTaken st (takeInHand r (orderFields r.body) false .none s))).onMg fun g => g.begin m d s.mu.p

/-- The take of a REWIND or an UNLOAD in READY whose first leg is this one. -/
theorem leg_of_take {unload : Bool} {seq : Byte} {b : Body} {st : TState} {leg : Leg} {m : Motion} {d : Int}
    (free : HeadFree seq s) (rest : ReadyAtRest s) (run : s.mc.mode = .run)
    (take : carryOut (legRecord unload seq b) (consumed seq s) = legTaken st leg m d (legRecord unload seq b) (consumed seq s)) :
    ∃ t, exec (if unload then .unload seq b else .rewind seq b) s = .next t ∧ Taken seq s t ∧
      t.tsq = { s.tsq with
        state := st, inHand := some (handAtTake seq (if unload then .unload else .rewind) b false leg s)
        timer := 0, timerOn := false } ∧
      Started m d s t ∧
      t.mu = s.mu ∧ t.cl = s.cl ∧ t.rl = s.rl ∧ t.sc = s.sc ∧ t.wk = s.wk ∧ t.fm = s.fm ∧ SameSurroundings s t ∧
      Reports s t [] := by
  have accepted : (legRecord unload seq b).code.acceptedIn (consumed seq s).tsq.state = true := by
    cases unload <;> simp [legRecord, rest.ready, Code.acceptedIn]
  have order : (legRecord unload seq b).code.isSetup = false := by cases unload <;> rfl
  have arrives : exec (if unload then .unload seq b else .rewind seq b) s =
      .next (orderFetchTest (legTaken st leg m d (legRecord unload seq b) (consumed seq s))) := by
    rw [← take, ← takeHead_of_order (s := consumed seq s) order run accepted]
    cases unload <;> exact congrArg Host.Outcome.next (recordArrives_of_headFree free _ b)
  refine ⟨_, arrives, ⟨orderFetchTest_of_consumed rfl, ?_⟩, ?_, started_of_mg ?_, ?_, ?_, ?_, ?_, ?_, ?_, ?_,
    reports_nil_of_ru (due := s.ru.snapDue || decide (st ≠ s.tsq.state)) (n := s.ru.snapCounter) ?_⟩
  all_goals simp only [SnapshotByState, SameSurroundings, SameBus, SameSetup, orderFetchTest_frame]
  · exact ⟨rfl, rfl⟩
  · rfl
  · rfl
  · rfl
  · rfl
  · rfl
  · rfl
  · rfl
  · rfl
  · exact ⟨⟨rfl, rfl⟩, rfl, rfl, rfl, rfl, rfl⟩
  · rfl

theorem enterKeeping_of_rest {st : TState} (r : Record) (loops : st.loops = true) (runs : st.capstanRuns = true)
    (rest : ReadyAtRest s) : enterKeeping st (takeInHand r (orderFields r.body) false .none s) =
      stateTaken st (takeInHand r (orderFields r.body) false .none s) :=
  enterKeeping_of_running loops runs rest.brake rest.pump rest.running rest.looping

/-- R92: the FAST leg. -/
theorem carryOut_fast (unload : Bool) (seq : Byte) (b : Body) (rest : ReadyAtRest s) (runs : fastRuns s = true) :
    carryOut (legRecord unload seq b) s = legTaken (if unload then .unloadingReturn else .rewindingFast) .fast
      ⟨.fast, false, s.mc.params.accel, s.mc.params.rewindSpeed, false⟩ (fastDistance s) (legRecord unload seq b) s := by
  cases unload with
  | false =>
    change takeRewind ⟨seq, .rewind, b⟩ s = _
    unfold takeRewind
    dsimp only
    rw [enterKeeping_of_rest ⟨seq, .rewind, b⟩ (st := .rewindingFast) rfl rfl rest]
    change (if fastRuns s then _ else _) = _
    rw [if_pos runs]
    exact startMotion_of_idle rest.idle
  | true =>
    change takeUnload ⟨seq, .unload, b⟩ s = _
    rw [takeUnload, if_neg (by simp [rest.ready]), takeUnloadReady]
    dsimp only
    rw [enterKeeping_of_rest ⟨seq, .unload, b⟩ rfl rfl rest]
    change (if fastRuns s then _ else _) = _
    rw [if_pos runs]
    exact startMotion_of_idle rest.idle

/-- R92, R93: the SEARCH REVERSE leg where the FAST leg is not run. -/
theorem carryOut_search (unload : Bool) (seq : Byte) (b : Body) (rest : ReadyAtRest s) (runs : fastRuns s = false) :
    carryOut (legRecord unload seq b) s = legTaken (if unload then .unloadingReturn else .rewindingSearch) .searchReverse
      ⟨.search, false, s.mc.params.accel, s.mc.params.searchSpeed, false⟩ s.mc.params.searchLimit
      (legRecord unload seq b) s := by
  have not : ¬ fastRuns s = true := by simp [runs]
  cases unload with
  | false =>
    change takeRewind ⟨seq, .rewind, b⟩ s = _
    unfold takeRewind
    dsimp only
    rw [enterKeeping_of_rest ⟨seq, .rewind, b⟩ (st := .rewindingSearch) rfl rfl rest]
    change (if fastRuns s then _ else _) = _
    rw [if_neg not]
    exact startMotion_of_idle rest.idle
  | true =>
    change takeUnload ⟨seq, .unload, b⟩ s = _
    rw [takeUnload, if_neg (by simp [rest.ready]), takeUnloadReady]
    dsimp only
    rw [enterKeeping_of_rest ⟨seq, .unload, b⟩ rfl rfl rest]
    change (if fastRuns s then _ else _) = _
    rw [if_neg not]
    exact startMotion_of_idle rest.idle

/-! ## UNLOAD in FAULT (R96, R119) -/

/-- R15: of the measurements only the estimators follow. -/
theorem followModes_mu (s : State) : (followModes s).mu = { s.mu with est := (followModes s).mu.est } := by
  have estimator (x : Reel) (s : State) : (followEstimator x s).mu = { s.mu with est := (followEstimator x s).mu.est } := by
    unfold followEstimator
    split <;> rfl
  have modes : (followReel .t (followReel .s (followCapstan s))).mu = s.mu := by simp
  unfold followModes
  rw [estimator, estimator, modes]

/-- R96: UNLOADED with the outputs off and the fault record empty, before the answer. -/
def unloadedFromFault (s : State) : State := (dropReferenced (enter .unloaded true false s)).onFm fun _ => Fm.reset

theorem unload_in_fault {seq : Byte} (b : Body) (free : HeadFree seq s) (law : OutputLaw s) (run : s.mc.mode = .run)
    (fault : s.tsq.state = .fault) (room : Room 1 s) :
    ∃ t, exec (.unload seq b) s = .next t ∧ Taken seq s t ∧
      t.tsq = { s.tsq with state := .unloaded, brake := true, vacuum := false, referenced := false } ∧ Braked t ∧
      t.fm = ⟨none, [], 0, none, 0, false, ⟨0, 0⟩, 0, false⟩ ∧ t.mu.p = s.mu.p ∧ t.mu.eot = s.mu.eot ∧
      t.mg = s.mg ∧ t.sc = s.sc ∧ t.wk = s.wk ∧ SameSurroundings s t ∧
      Reports s t [⟨.orderDone, 0, 0, some seq, .unloaded⟩] := by
  have accepted : Code.unload.acceptedIn (consumed seq s).tsq.state = true := by simp [fault, Code.acceptedIn]
  have arrives : exec (.unload seq b) s =
      .next (orderFetchTest (doneAtTake .complete 0 seq (unloadedFromFault (consumed seq s)))) := by
    have taken : takeHead ⟨seq, .unload, b⟩ (consumed seq s) = takeUnload ⟨seq, .unload, b⟩ (consumed seq s) :=
      takeHead_of_order rfl run accepted
    have inFault : takeUnload ⟨seq, .unload, b⟩ (consumed seq s) =
        doneAtTake .complete 0 seq (unloadedFromFault (consumed seq s)) := by
      rw [takeUnload, if_pos (by simpa using fault)]
      rfl
    rw [← inFault, ← taken, ← recordArrives_of_headFree free]
    rfl
  have entered := enter_eq (st := .unloaded) (by decide) true false (consumed seq s)
  have braked : Braked (enter .unloaded true false (consumed seq s)) :=
    enter_brakes (by decide) (fun off => (law.capstanOff off).1) fun x off => (law.reelOff x off).1
  have ru : (enter .unloaded true false (consumed seq s)).ru =
      { s.ru with snapDue := s.ru.snapDue || decide (.unloaded ≠ s.tsq.state) } := by
    rw [entered]
    simp only [followModes_frame]
    rfl
  have mu := followModes_mu (outputsTaken .unloaded true false (consumed seq s))
  rw [← entered] at mu
  have p : (enter .unloaded true false (consumed seq s)).mu.p = s.mu.p := by rw [mu]; rfl
  have eot : (enter .unloaded true false (consumed seq s)).mu.eot = s.mu.eot := by rw [mu]; rfl
  have tsq : (enter .unloaded true false (consumed seq s)).tsq =
      { s.tsq with state := .unloaded, brake := true, vacuum := false } := by simp [enter_tsq]
  obtain ⟨oi, mg, sc, wk, ⟨⟨ptp, ma⟩, slu, surroundings⟩⟩ : (enter .unloaded true false (consumed seq s)).oi = (consumed seq s).oi ∧
      (enter .unloaded true false (consumed seq s)).mg = s.mg ∧ (enter .unloaded true false (consumed seq s)).sc = s.sc ∧
      (enter .unloaded true false (consumed seq s)).wk = s.wk ∧
      SameSurroundings s (enter .unloaded true false (consumed seq s)) := by simp [SameSurroundings, SameBus, SameSetup]
  unfold unloadedFromFault at arrives
  generalize enter .unloaded true false (consumed seq s) = e at *
  obtain ⟨reports, due, counter, lines⟩ := doneAtTake_reports (o := .complete) (value := 0) (seq := seq)
    (s := consumed seq s) (t := (dropReferenced e).onFm fun _ => Fm.reset) room ru
  have after : ((dropReferenced e).onFm fun _ => Fm.reset).tsq =
      { s.tsq with state := .unloaded, brake := true, vacuum := false, referenced := false } := by
    simp [dropReferenced, tsq]
  rw [after] at reports
  refine ⟨_, arrives, ⟨orderFetchTest_of_consumed (by simpa [dropReferenced] using oi), ?_, ?_⟩, ?_,
    braked.congr ?_ ?_ ?_, ?_, ?_, ?_, ?_, ?_, ?_, ?_, reports.congr ?_ ?_ ?_⟩
  all_goals simp only [SameSurroundings, SameBus, SameSetup, orderFetchTest_frame, doneAtTake_frame, consumed_frame]
  · rw [due, after]
  · exact counter
  · exact after
  · rw [after, braked.1]
  · rfl
  · rfl
  · rfl
  · exact p
  · exact eot
  · exact mg
  · exact sc
  · exact wk
  · exact ⟨⟨ptp, ma⟩, lines.trans slu, surroundings⟩

end Sys2Proof.Machine
end

section
/-! An expiry in RUN that commits a speed within its stretch: the braking distance, the choice, and the generator's
step (R20, R22, R23). -/

namespace Sys2Proof.Machine

variable {s t u : State}

/-! ## The braking distance (R22) -/

theorem brakeSteps_of_enough {a w : Nat} (positive : 1 ≤ a) {n k c : Nat} (h : c ≤ n) (h' : c ≤ k) :
    brakeSteps a w n c = brakeSteps a w k c := by
  induction n generalizing k c with
  | zero =>
    obtain rfl : c = 0 := Nat.le_zero.mp h
    cases k with
    | zero => rfl
    | succ k => simp [brakeSteps]
  | succ n ih =>
    cases k with
    | zero =>
      obtain rfl : c = 0 := Nat.le_zero.mp h'
      simp [brakeSteps]
    | succ k =>
      unfold brakeSteps
      rw [ih (k := k) (c := c - a) (by omega) (by omega)]

/-- R22: B_w(c), by one step of the braking. -/
theorem brakingDistance_eq {a : Nat} (w : Nat) (positive : 1 ≤ a) (c : Nat) :
    brakingDistance a w c = if c - a ≤ w then 0 else (c - a) + brakingDistance a w (c - a) := by
  unfold brakingDistance
  cases c with
  | zero => simp [brakeSteps]
  | succ c =>
    conv_lhs => unfold brakeSteps
    rw [brakeSteps_of_enough positive (n := c) (k := c + 1 - a) (by omega) (by omega)]

theorem brakingDistance_mono {a : Nat} (w : Nat) (positive : 1 ≤ a) {c c' : Nat} (h : c ≤ c') :
    brakingDistance a w c ≤ brakingDistance a w c' := by
  induction c' using Nat.strong_induction_on generalizing c with
  | _ c' ih =>
    rw [brakingDistance_eq w positive c, brakingDistance_eq w positive c']
    by_cases short : c - a ≤ w
    · rw [if_pos short]
      exact Nat.zero_le _
    · rw [if_neg short, if_neg (by omega)]
      have step := ih (c' - a) (by omega) (c := c - a) (by omega)
      omega

/-! ## The choice (R22) -/

theorem fitSpeed_of_fits {v a top w : Nat} {r : Int} {c : Nat} (h : Fits v a top w r c) : fitSpeed v a top w r = some c := by
  obtain ⟨⟨low, high, ceiling, fits⟩, beyond⟩ := h
  unfold fitSpeed
  dsimp only
  rw [largest_eq_some_iff]
  refine ⟨by omega, by omega, decide_eq_true (by exact_mod_cast fits), fun x above below => decide_eq_false ?_⟩
  have tooFar := beyond x (by omega) above (by omega)
  push_cast at tooFar
  omega

/-- R22: with the braking distance of the speed in hand left, the speed is lowered by one step, whatever the ceiling. -/
theorem fitSpeed_of_braking {v a : Nat} (top : Nat) (positive : 1 ≤ a) (faster : a < v) :
    fitSpeed v a top 0 (brakingDistance a 0 v) = some (v - a) := by
  have distance : brakingDistance a 0 v = (v - a) + brakingDistance a 0 (v - a) := by
    rw [brakingDistance_eq 0 positive v, if_neg (by omega)]
  unfold fitSpeed
  dsimp only
  rw [largest_eq_some_iff]
  refine ⟨Nat.le_refl _, by omega, decide_eq_true (by omega), fun x above _ => decide_eq_false ?_⟩
  have longer := brakingDistance_mono 0 positive (Nat.le_of_lt above)
  omega

/-! ## The generator's step in RUN -/

/-- R22, R23: with no clamp and no walker, a speed that fits is committed within the stretch. -/
theorem runStep_of_fit {m : Motion} {c : Nat} (motion : s.mg.motion = some m) (stretch : s.mg.w = 0)
    (eot : s.mu.eot = none) (noChain : s.wk.active = false)
    (fit : fitSpeed s.mg.v s.mg.accel (topSpeed m.ceiling s) 0 s.mg.r = some c) (moving : 1 ≤ c) :
    runStep s = (handOnSpeed (dirSign m.forward * c) (s.onMg fun g => g.commit c), none) := by
  have clamp : applyClamp s = s := by simp [applyClamp, clampPoint, eot]
  have ceiling : ceilingNow s = topSpeed m.ceiling s := by
    simp only [ceilingNow, motion]
    rfl
  have lowered : (s.onMg fun g => g.lowerEndSpeed (ceilingNow s)) = s := by
    have same : s.mg.lowerEndSpeed (ceilingNow s) = s.mg := by
      simp only [Mg.lowerEndSpeed, stretch, Nat.zero_min]
      rw [← stretch]
    unfold State.onMg
    dsimp only
    rw [same]
  have choice : chooseSpeed s = (c, s) := by
    unfold chooseSpeed
    dsimp only
    rw [lowered, ceiling, stretch, fit]
  have commit : runOn c s = s.onMg fun g => g.commit c := by
    unfold runOn walkerCommit
    rw [if_neg (by simp [noChain])]
  have within : ¬ (0 < s.mg.w ∧ s.mg.r ≤ c) := by simp [stretch]
  have moves : ∀ v : State, restAfter c v = (v, none) := fun v => if_neg fun rest => by omega
  unfold runStep
  rw [clamp]
  simp only [choice, if_neg within, commit, moves, motion]
  rfl

/-- R20, R37: the expiry of a motion in RUN, outside MOVING, that commits this speed. -/
theorem generatorStage_of_run {g : Mg} {m : Motion} {c : Nat} (requests : applyRequests s = ({ s with mg := g }, none))
    (run : g.phase = .run) (motion : g.motion = some m) (stretch : g.w = 0) (eot : s.mu.eot = none)
    (noChain : s.wk.active = false) (still : s.tsq.state ≠ .moving)
    (fit : fitSpeed g.v g.accel (topSpeed m.ceiling { s with mg := g }) 0 g.r = some c) (moving : 1 ≤ c) :
    generatorStage s = { s with mg := g.committed (dirSign m.forward) c } := by
  have reduced : reduceSpeed { s with mg := g } = { s with mg := { g with satRun := 0 } } :=
    reduceSpeed_of_not_moving (s := { s with mg := g }) still
  have step := runStep_of_fit (s := { s with mg := { g with satRun := 0 } }) motion stretch eot noChain fit moving
  have whole : generatorStep s = runStep { s with mg := { g with satRun := 0 } } := by
    rw [generatorStep, requests]
    dsimp only
    rw [reduced, phaseStep]
    simp only [run]
  rw [generatorStage, whole, step]
  simp [motionEnds, handOnSpeed, State.onMg, Mg.commit, Mg.committed, motion]

end Sys2Proof.Machine
end

section
/-! The BOT crossings of a rewind (R86, R11, R30, R31), and what REWIND and UNLOAD come to. -/

namespace Sys2Proof.Machine

variable {s t u : State}

/-! ## The hand-on of a BOT crossing (R10, R86) -/

/-- R86: the crossing-seen flag of the order in hand set. -/
def crossingSeen (h : InHand) : InHand := { h with crossingSeen := true }

/-- R30, R86: a reverse BOT crossing of SEARCH REVERSE. -/
def markStopTaken (h : InHand) (s : State) : State :=
  { s with tsq := { s.tsq with inHand := some (crossingSeen h) }, mg := { s.mg with pendMarkStop := true } }

/-- R11, R31, R86: a forward BOT crossing of the forward search, with P rebased to x. -/
def rebaseTaken (h : InHand) (x : Int) (s : State) : State :=
  { s with
    mu := { s.mu with p := x, eot := none }
    tsq := { s.tsq with inHand := some (crossingSeen h), referenced := true }
    mg := { s.mg with pendReaim := some 0 } }

/-- R10: the report of a BOT crossing, from the state that the sequencer leaves. -/
def crossingSaid (code : Nat) (pos : Int) (h : InHand) (s : State) : State :=
  reported (makeReport .markCrossed code pos (some h.seq) s) s

theorem takeCrossings_bot {h : InHand} {forward : Bool} {pos : Int} {v : State} {code : Nat}
    (follows : botCrossing forward pos s = v) (number : (⟨.bot, forward, pos⟩ : Crossing).number = code)
    (hand : v.tsq.inHand = some (crossingSeen h)) (mask : v.mc.params.mask.markCrossed = true) (room : Room 1 v) :
    takeCrossings [⟨.bot, forward, pos⟩] s = crossingSaid code pos h v := by
  have recorded : (s.onMu fun u => { u with eot := eotAfter u.eot [⟨.bot, forward, pos⟩] }) = s := rfl
  have room' : v.ru.pendingReports.length < 4 := by
    unfold Room at room
    omega
  have seq : handSeq v = some h.seq := by
    rw [handSeq, hand]
    rfl
  change handOnCrossing ⟨.bot, forward, pos⟩ (s.onMu fun u => { u with eot := eotAfter u.eot [⟨.bot, forward, pos⟩] }) = _
  rw [recorded, handOnCrossing]
  dsimp only
  rw [if_pos rfl, follows, seq, number]
  exact generate_of_room (kind := .markCrossed) _ _ _ mask room'

/-- What both crossings ask of the order in hand. -/
structure Searching (h : InHand) (leg : Leg) (s : State) : Prop where
  hand : s.tsq.inHand = some h
  leg : h.leg = leg
  running : h.stopping = false
  unseen : h.crossingSeen = false
  unsettled : s.tsq.state ≠ .settling

theorem Searching.congr {h : InHand} {leg : Leg} (search : Searching h leg s) (tsq : t.tsq = s.tsq) : Searching h leg t := by
  obtain ⟨hand, onLeg, running, unseen, unsettled⟩ := search
  exact ⟨by rw [tsq, hand], onLeg, running, unseen, by rw [tsq]; exact unsettled⟩

theorem botCrossing_of_searchReverse {h : InHand} (search : Searching h .searchReverse s) (pos : Int) :
    botCrossing false pos s = markStopTaken h s := by
  obtain ⟨hand, leg, running, unseen, unsettled⟩ := search
  unfold botCrossing
  rw [hand]
  simp [running, unsettled, leg, unseen, setCrossingSeen, hand, markStopTaken, crossingSeen, State.onTsq, State.onMg]

/-- R11: the rebase within the bounds of P. -/
theorem rebase_of_within {pos x : Int} (value : s.mu.p - pos - s.mc.params.loadOffset = x) (below : x < 33554431)
    (above : -33554432 < x) :
    rebase pos s = { s with mu := { s.mu with p := x, eot := none }, tsq := { s.tsq with referenced := true } } := by
  have clamped : clampPos x = x := clampI_of_mem (Int.le_of_lt above) (Int.le_of_lt below)
  have inside : newlyAtBound s.mu.p x = false := by
    refine decide_eq_false ?_
    rintro ⟨low | high, -⟩
    · exact absurd low (Int.ne_of_gt above)
    · exact absurd high (Int.ne_of_lt below)
  unfold rebase
  dsimp only
  rw [value, clamped, inside, if_neg (by decide)]
  rfl

theorem botCrossing_of_searchForward {h : InHand} {pos x : Int} (search : Searching h .searchForward s)
    (value : s.mu.p - pos - s.mc.params.loadOffset = x) (below : x < 33554431) (above : -33554432 < x) :
    botCrossing true pos s = rebaseTaken h x s := by
  obtain ⟨hand, leg, running, unseen, unsettled⟩ := search
  have seen : setCrossingSeen s = { s with tsq := { s.tsq with inHand := some (crossingSeen h) } } := by
    simp [setCrossingSeen, State.onTsq, hand, crossingSeen]
  have rebased := rebase_of_within (s := setCrossingSeen s) (pos := pos) (x := x) (by simpa using value) below above
  rw [seen] at rebased
  unfold botCrossing
  rw [hand]
  simp only [running, unsettled, leg, unseen, Bool.false_eq_true, or_self, if_false, Bool.not_true, seen, rebased]
  rfl

/-! ## The requests of the crossings, applied at the same expiry (R30, R31) -/

/-- R30: the generator after the mark stop of a motion in RUN whose acceleration is the motion's. -/
def markStopped (g : Mg) : Mg :=
  { g with l := g.d + brakingDistance g.accel 0 g.v, r := brakingDistance g.accel 0 g.v, w := 0, pendMarkStop := false }

theorem applyRequests_of_markStop {m : Motion} (stops : s.mg.pendStops = []) (reaim : s.mg.pendReaim = none)
    (halt : s.mg.pendHalt = false) (pending : s.mg.pendMarkStop = true) (run : s.mg.phase = .run)
    (motion : s.mg.motion = some m) (accel : s.mg.accel = m.accel) :
    applyRequests s = ({ s with mg := markStopped s.mg }, none) := by
  have marked : applyMarkStop s = { s with mg := markStopped s.mg } := by
    simp [applyMarkStop, pending, run, motion, State.onMg, markStopped, accel]
  have emptied : (({ s with mg := markStopped s.mg } : State).onMg fun g => { g with pendStops := [] }) =
      { s with mg := markStopped s.mg } := by
    unfold State.onMg
    simp only [markStopped]
    rw [← stops]
  unfold applyRequests
  rw [if_neg (by simp [halt]), stops]
  simp only [marked, emptied, applyStops, applyReaim]
  rw [show (markStopped s.mg).pendReaim = none from reaim]

/-- R31: the generator after the re-aim at the load point, with P at x, of a forward motion in RUN. -/
def reaimed (m : Motion) (x : Int) (g : Mg) : Mg :=
  { g with
    q := x, r := max (-x) (brakingDistance g.accel 0 g.v), l := g.d + max (-x) (brakingDistance g.accel 0 g.v), w := 0
    aim := some 0, overrun := none, motion := some { m with settles := true }, pendReaim := none }

theorem applyRequests_of_reaim {m : Motion} (stops : s.mg.pendStops = []) (markStop : s.mg.pendMarkStop = false)
    (halt : s.mg.pendHalt = false) (pending : s.mg.pendReaim = some 0) (run : s.mg.phase = .run)
    (motion : s.mg.motion = some m) (forward : m.forward = true) (unstopped : s.mg.stopped = false) :
    applyRequests s = ({ s with mg := reaimed m s.mu.p s.mg }, none) := by
  have emptied : (s.onMg fun g => { g with pendStops := [] }) = s := by
    unfold State.onMg
    rw [← stops]
  unfold applyRequests
  rw [if_neg (by simp [halt]), stops]
  simp only [applyMarkStop, markStop, Bool.false_eq_true, if_false, applyStops, emptied]
  simp [applyReaim, pending, run, unstopped, motion, forward, dirSign, State.onMg, reaimed]

/-! ## Expiries that resolve a BOT crossing -/

theorem computeCapstan_eq (s : State) : computeCapstan s = { s with cl := (computeCapstan s).cl } := by
  unfold computeCapstan
  split <;> rfl

theorem computeCapstan_withArrival (a : Bool) (s : State) :
    computeCapstan (withArrival a s) = withArrival a (computeCapstan s) := by
  unfold computeCapstan
  have same : (withArrival a s).cl.run = s.cl.run := rfl
  rw [same]
  split <;> rfl

/-- The state behind the motion stage of an expiry in RUN, with the capstan loop as it is then. -/
def moved (g : Mg) (s : State) : State := { s with mg := g, cl := (computeCapstan { s with mg := g }).cl }

theorem takes_motionStage_of_run {g : Mg} {m : Motion} {c : Nat}
    (requests : ∀ a, applyRequests (withArrival a s) = ({ withArrival a s with mg := g }, none)) (run : g.phase = .run)
    (motion : g.motion = some m) (stretch : g.w = 0) (eot : s.mu.eot = none) (noChain : s.wk.active = false)
    (still : s.tsq.state ≠ .moving)
    (fit : fitSpeed g.v g.accel (topSpeed m.ceiling { s with mg := g }) 0 g.r = some c) (moving : 1 ≤ c) :
    Takes motionStage s (moved (g.committed (dirSign m.forward) c) s) := by
  intro a
  have stage := generatorStage_of_run (s := withArrival a s) (requests a) run motion stretch eot noChain still fit moving
  rw [motionStage, stage]
  refine (computeCapstan_withArrival a { s with mg := g.committed (dirSign m.forward) c }).trans ?_
  rw [computeCapstan_eq]
  rfl

/-- What an expiry that resolves a BOT crossing leaves. -/
def CrossedBot (o : ExpiryOrder) (code : Nat) (pos : Int) (h : InHand) (mu : Mu) (mg : Mg) (tsq : Tsq) (s : State) : Prop :=
  ∃ t, exec (.periodExpiry o) s = .next t ∧ t.mg = mg ∧ t.tsq = tsq ∧ t.mu = mu ∧ t.wk = s.wk ∧ t.sc = s.sc ∧
    t.rl = s.rl ∧ t.fm.first = s.fm.first ∧ t.oi = s.oi ∧ SameSurroundings s t ∧
    Reports s t [⟨.markCrossed, code, pos, some h.seq, s.tsq.state⟩] ∧ SnapshotByExpiry s t

/-- What an expiry leaves whose servo stages have moved the tape and reported a BOT crossing, where no fault, no request and
no sense change comes about. -/
theorem crossing_outcome (o : ExpiryOrder) {mu : Mu} {mg : Mg} {cl : Cl} {tsq : Tsq} {code : Nat} {pos : Int} {h : InHand}
    (calm : OnlyMotion { s with mu := { s.mu with notices := [] } }) (notHalting : s.tsq.state ≠ .halting)
    (servo : (servoRun o s).state = crossingSaid code pos h { s with mu := mu, mg := mg, cl := cl, tsq := tsq })
    (speed : mu.m = newM s) (silence : mu.silence = (measuredMu s).silence) (state : tsq.state = s.tsq.state) :
    CrossedBot o code pos h mu mg tsq s := by
  obtain ⟨quiet, due, unfaulted, -⟩ := calm
  have see : TestsSee s (crossingSaid code pos h { s with mu := mu, mg := mg, cl := cl, tsq := tsq }) :=
    ⟨speed, silence, rfl, rfl, rfl, rfl⟩
  have halt : tsq.state ≠ .halting := by rw [state]; exact notHalting
  obtain ⟨stalls, follows, door, vacuum⟩ := unfaulted
  have faultless : Unfaulted s := ⟨⟨stalls.1, stalls.2⟩, follows, door, vacuum⟩
  refine ⟨_, exec_periodExpiry_of_calm quiet.watching (due.congr rfl) faultless quiet.request servo see (.inl halt) rfl, ?_⟩
  have reports := reported_reports .markCrossed code pos (some h.seq) { s with mu := mu, mg := mg, cl := cl, tsq := tsq }
  have reports' := reports.congr (s' := s) (t' := allWatched (contextOf s) (crossingSaid code pos h
    { s with mu := mu, mg := mg, cl := cl, tsq := tsq })) rfl rfl rfl
  rw [show ({ s with mu := mu, mg := mg, cl := cl, tsq := tsq } : State).tsq.state = s.tsq.state from state] at reports'
  simp only [SameSurroundings, SameBus, SameSetup, intervalStage_frame]
  refine ⟨rfl, rfl, rfl, rfl, rfl, rfl, rfl, rfl, ⟨⟨rfl, rfl⟩, rfl, rfl, rfl, rfl, rfl⟩, intervalStage_reports reports',
    intervalStage_snapshot ⟨?_, rfl⟩ rfl⟩
  simp [allWatched, crossingSaid, reported, state]

end Sys2Proof.Machine
end

section
/-! The three expiries of a rewind that resolve a BOT crossing, and what REWIND and UNLOAD come to. -/

namespace Sys2Proof.Machine

variable {s : State}

/-! ## The hand-on and the motion in one expiry (log entry 8) -/

theorem takes_crossing {h : InHand} {forward : Bool} {pos : Int} {u v : State} {code : Nat}
    (follows : ∀ a, botCrossing forward pos (withArrival a u) = withArrival a v)
    (number : (⟨.bot, forward, pos⟩ : Crossing).number = code) (hand : v.tsq.inHand = some (crossingSeen h))
    (mask : v.mc.params.mask.markCrossed = true) (room : Room 1 v) :
    Takes (takeCrossings [⟨.bot, forward, pos⟩]) u (crossingSaid code pos h v) :=
  fun a => takeCrossings_bot (follows a) number hand mask room

/-- Before an expiry of a leg that searches: only the motion is at work, but for a notice of the BOT mark. -/
structure BotNotice (h : InHand) (leg : Leg) (forward : Bool) (pos : Int) (s : State) : Prop where
  calm : OnlyMotion { s with mu := { s.mu with notices := [] } }
  notices : s.mu.notices = [⟨.bot, pos⟩]
  direction : newDirection s = forward
  untimed : s.tsq.state.timed = false
  still : s.tsq.state ≠ .moving
  notHalting : s.tsq.state ≠ .halting
  search : Searching h leg s
  run : s.mg.phase = .run
  noChain : s.wk.active = false
  mask : s.mc.params.mask.markCrossed = true
  room : Room 1 s

theorem botNotice_of_rewinding {h : InHand} {leg : Leg} {forward : Bool} {pos : Int}
    (state : s.tsq.state = .rewindingSearch ∨ s.tsq.state = .rewindingReturn)
    (calm : OnlyMotion { s with mu := { s.mu with notices := [] } }) (notices : s.mu.notices = [⟨.bot, pos⟩])
    (direction : newDirection s = forward) (hand : s.tsq.inHand = some h) (onLeg : h.leg = leg)
    (running : h.stopping = false) (unseen : h.crossingSeen = false) (run : s.mg.phase = .run)
    (noChain : s.wk.active = false) (mask : s.mc.params.mask.markCrossed = true) (room : Room 1 s) :
    BotNotice h leg forward pos s := by
  rcases state with state | state
  all_goals exact ⟨calm, notices, direction, by simp [state, TState.timed], by simp [state], by simp [state],
    ⟨hand, onLeg, running, unseen, by simp [state]⟩, run, noChain, mask, room⟩

theorem BotNotice.arrival {h : InHand} {leg : Leg} {forward : Bool} {pos : Int} (b : BotNotice h leg forward pos s) :
    s.mu.arrival = true := b.calm.pair

theorem BotNotice.crossings {h : InHand} {leg : Leg} {forward : Bool} {pos : Int} (b : BotNotice h leg forward pos s) :
    (measured s.mu).crossings = [⟨.bot, forward, pos⟩] := by
  rw [crossings_of_one b.notices, b.direction]

/-- The hand-on of the crossing first. -/
theorem servoRun_of_crossing_first {o : ExpiryOrder} {h : InHand} {leg : Leg} {forward : Bool} {pos : Int} {code : Nat}
    {v : State} {g : Mg} {m : Motion} {c : Nat} (b : BotNotice h leg forward pos s) (first : o.crossingsFirst = true)
    (follows : ∀ a, botCrossing forward pos (withArrival a (s.onMu Mu.atExpiry)) = withArrival a v)
    (number : (⟨.bot, forward, pos⟩ : Crossing).number = code) (hand : v.tsq.inHand = some (crossingSeen h))
    (same : v.mc = s.mc ∧ v.ru = s.ru ∧ v.wk = s.wk ∧ v.tsq.state = s.tsq.state) (eot : v.mu.eot = none)
    (requests : ∀ a, applyRequests (withArrival a (crossingSaid code pos h v)) =
      ({ withArrival a (crossingSaid code pos h v) with mg := g }, none))
    (run : g.phase = .run) (motion : g.motion = some m) (stretch : g.w = 0)
    (fit : fitSpeed g.v g.accel (topSpeed m.ceiling { s with mg := g }) 0 g.r = some c) (moving : 1 ≤ c) :
    (servoRun o s).state =
      withArrival false (moved (g.committed (dirSign m.forward) c) (crossingSaid code pos h v)) := by
  obtain ⟨mc, ru, wk, state⟩ := same
  have mask : v.mc.params.mask.markCrossed = true := by rw [mc]; exact b.mask
  have room : Room 1 v := by
    unfold Room
    rw [ru]
    exact b.room
  have top : topSpeed m.ceiling { crossingSaid code pos h v with mg := g } = topSpeed m.ceiling { s with mg := g } := by
    unfold topSpeed
    rw [← mc]
    rfl
  refine servoRun_of_arrival o b.arrival b.untimed (fun _ => ⟨crossingSaid code pos h v, ?_, ?_⟩)
    (fun later => absurd (first.symm.trans later) (by decide))
  · rw [b.crossings]
    exact takes_crossing follows number hand mask room
  · refine takes_motionStage_of_run requests run motion stretch eot ?_ ?_ (by rw [top]; exact fit) moving
    · exact (congrArg Wk.active wk).trans b.noChain
    · exact fun moves => b.still (state.symm.trans moves)

/-- The motion first, with no request held. -/
theorem servoRun_of_motion_first {o : ExpiryOrder} {h : InHand} {leg : Leg} {forward : Bool} {pos : Int} {code : Nat}
    {v : State} {m : Motion} {c : Nat} (b : BotNotice h leg forward pos s) (later : o.crossingsFirst = false)
    (motion : s.mg.motion = some m) (stretch : s.mg.w = 0) (eot : s.mu.eot = none)
    (fit : Fits s.mg.v s.mg.accel (topSpeed m.ceiling s) 0 s.mg.r c) (moving : 1 ≤ c)
    (follows : ∀ a, botCrossing forward pos
      (withArrival a (moved (s.mg.committed (dirSign m.forward) c) (s.onMu Mu.atExpiry))) = withArrival a v)
    (number : (⟨.bot, forward, pos⟩ : Crossing).number = code) (hand : v.tsq.inHand = some (crossingSeen h))
    (mask : v.mc = s.mc) (room : v.ru = s.ru) :
    (servoRun o s).state = withArrival false (crossingSaid code pos h v) := by
  obtain ⟨-, -, stops, markStop, reaim, halt, -⟩ := b.calm.quiet
  have masked : v.mc.params.mask.markCrossed = true := by rw [mask]; exact b.mask
  have roomy : Room 1 v := by
    unfold Room
    rw [room]
    exact b.room
  refine servoRun_of_arrival o b.arrival b.untimed (fun first => absurd (later.symm.trans first) (by decide))
    (fun _ => ⟨_, takes_motionStage_of_run ?_ b.run motion stretch eot b.noChain b.still ?_ moving, ?_⟩)
  · exact fun a => applyRequests_of_none stops markStop reaim halt
  · exact fitSpeed_of_fits fit
  · rw [b.crossings]
    exact takes_crossing follows number hand masked roomy

/-! ## The reverse BOT crossing of SEARCH REVERSE (R30, R86) -/

theorem atExpiry_silence (s : State) : s.mu.atExpiry.silence = (measuredMu s).silence := by
  have same := congrArg Mu.silence (atExpiry_measured s)
  exact same

theorem markStopped_of_whole {g : Mg} {m : Motion} (accel : g.accel = m.accel) (stretch : g.w = 0)
    (markStop : g.pendMarkStop = false) : markStopped { g with pendMarkStop := true } =
      { g with l := g.d + brakingDistance m.accel 0 g.v, r := brakingDistance m.accel 0 g.v } := by
  unfold markStopped
  rw [← accel]
  dsimp only
  rw [← stretch]
  rw [← markStop]

theorem markStop_at_this_expiry {o : ExpiryOrder} {h : InHand} {pos : Int} {m : Motion}
    (b : BotNotice h .searchReverse false pos s) (first : o.crossingsFirst = true) (motion : s.mg.motion = some m)
    (accel : s.mg.accel = m.accel) (stretch : s.mg.w = 0) (eot : s.mu.eot = none) (positive : 1 ≤ m.accel)
    (faster : m.accel < s.mg.v) :
    CrossedBot o 2 pos h { measuredMu s with notices := [] }
      (({ s.mg with
        l := s.mg.d + brakingDistance m.accel 0 s.mg.v, r := brakingDistance m.accel 0 s.mg.v } : Mg).committed
          (dirSign m.forward) (s.mg.v - m.accel))
      { s.tsq with inHand := some (crossingSeen h) } s := by
  obtain ⟨-, -, stops, markStop, reaim, halt, -⟩ := b.calm.quiet
  have braking : fitSpeed s.mg.v s.mg.accel
      (topSpeed m.ceiling { s with mg := markStopped { s.mg with pendMarkStop := true } }) 0
      (brakingDistance s.mg.accel 0 s.mg.v) = some (s.mg.v - m.accel) := by
    rw [accel]
    exact fitSpeed_of_braking _ positive faster
  have servo := servoRun_of_crossing_first (code := 2) (v := markStopTaken h (s.onMu Mu.atExpiry))
    (g := markStopped { s.mg with pendMarkStop := true }) b first
    (fun a => botCrossing_of_searchReverse (s := withArrival a (s.onMu Mu.atExpiry)) (b.search.congr rfl) pos)
    rfl rfl ⟨rfl, rfl, rfl, rfl⟩ eot
    (fun a => applyRequests_of_markStop stops reaim halt rfl b.run motion accel) b.run motion rfl braking (by omega)
  rw [markStopped_of_whole accel stretch markStop] at servo
  rw [← atExpiry_measured]
  exact crossing_outcome o b.calm b.notHalting servo rfl (atExpiry_silence s) rfl

theorem markStop_at_next_expiry {o : ExpiryOrder} {h : InHand} {pos : Int} {m : Motion} {c : Nat}
    (b : BotNotice h .searchReverse false pos s) (later : o.crossingsFirst = false) (motion : s.mg.motion = some m)
    (stretch : s.mg.w = 0) (eot : s.mu.eot = none) (fit : Fits s.mg.v s.mg.accel (topSpeed m.ceiling s) 0 s.mg.r c)
    (moving : 1 ≤ c) :
    CrossedBot o 2 pos h { measuredMu s with notices := [] }
      (({ s.mg with pendMarkStop := true } : Mg).committed (dirSign m.forward) c)
      { s.tsq with inHand := some (crossingSeen h) } s := by
  have servo := servoRun_of_motion_first (code := 2)
    (v := markStopTaken h (moved (s.mg.committed (dirSign m.forward) c) (s.onMu Mu.atExpiry))) b later motion stretch eot
    fit moving
    (fun a => botCrossing_of_searchReverse
      (s := withArrival a (moved (s.mg.committed (dirSign m.forward) c) (s.onMu Mu.atExpiry)))
      (b.search.congr rfl) pos)
    rfl rfl rfl rfl
  rw [← atExpiry_measured]
  exact crossing_outcome o b.calm b.notHalting servo rfl (atExpiry_silence s) rfl

/-! ## The forward BOT crossing of the forward search (R11, R31, R86) -/

theorem dirSign_forward {forward : Bool} (h : forward = true) : dirSign forward = 1 := by
  rw [h]
  rfl

/-- R11: the measurements after the rebase to x at an expiry. -/
theorem atExpiry_rebased (x : Int) (s : State) :
    { s.mu.atExpiry with arrival := false, p := x, eot := none } =
      { measuredMu s with notices := [], p := x, eot := none } :=
  congrArg (fun u : Mu => { u with p := x, eot := none }) (atExpiry_measured s)

theorem reaim_at_this_expiry {o : ExpiryOrder} {h : InHand} {pos x : Int} {m : Motion} {c : Nat}
    (b : BotNotice h .searchForward true pos s) (first : o.crossingsFirst = true) (motion : s.mg.motion = some m)
    (forward : m.forward = true) (unstopped : s.mg.stopped = false)
    (value : newP s - pos - s.mc.params.loadOffset = x) (below : x < 33554431) (above : -33554432 < x)
    (fit : Fits s.mg.v s.mg.accel (topSpeed m.ceiling s) 0 (max (-x) (brakingDistance s.mg.accel 0 s.mg.v)) c)
    (moving : 1 ≤ c) :
    CrossedBot o 1 pos h { measuredMu s with notices := [], p := x, eot := none }
      ({ s.mg with
        q := x, r := max (-x) (brakingDistance s.mg.accel 0 s.mg.v)
        l := s.mg.d + max (-x) (brakingDistance s.mg.accel 0 s.mg.v), w := 0, aim := some 0, overrun := none
        motion := some { m with settles := true } }.committed 1 c)
      { s.tsq with inHand := some (crossingSeen h), referenced := true } s := by
  obtain ⟨-, -, stops, markStop, reaim, halt, -⟩ := b.calm.quiet
  have servo := servoRun_of_crossing_first (code := 1) (v := rebaseTaken h x (s.onMu Mu.atExpiry))
    (g := reaimed m x { s.mg with pendReaim := some 0 }) b first
    (fun a => botCrossing_of_searchForward (s := withArrival a (s.onMu Mu.atExpiry)) (b.search.congr rfl) value below above)
    rfl rfl ⟨rfl, rfl, rfl, rfl⟩ rfl
    (fun a => applyRequests_of_reaim stops markStop halt rfl b.run motion forward unstopped) b.run rfl rfl
    (fitSpeed_of_fits fit) moving
  have aimed : reaimed m x { s.mg with pendReaim := some 0 } = { s.mg with
      q := x, r := max (-x) (brakingDistance s.mg.accel 0 s.mg.v)
      l := s.mg.d + max (-x) (brakingDistance s.mg.accel 0 s.mg.v), w := 0, aim := some 0, overrun := none
      motion := some { m with settles := true } } := by
    unfold reaimed
    rw [← reaim]
  rw [aimed, dirSign_forward forward] at servo
  rw [← atExpiry_rebased]
  exact crossing_outcome o b.calm b.notHalting servo rfl (atExpiry_silence s) rfl

theorem reaim_at_next_expiry {o : ExpiryOrder} {h : InHand} {pos x : Int} {m : Motion} {c : Nat}
    (b : BotNotice h .searchForward true pos s) (later : o.crossingsFirst = false) (motion : s.mg.motion = some m)
    (forward : m.forward = true) (stretch : s.mg.w = 0) (eot : s.mu.eot = none)
    (value : newP s - pos - s.mc.params.loadOffset = x) (below : x < 33554431) (above : -33554432 < x)
    (fit : Fits s.mg.v s.mg.accel (topSpeed m.ceiling s) 0 s.mg.r c) (moving : 1 ≤ c) :
    CrossedBot o 1 pos h { measuredMu s with notices := [], p := x, eot := none }
      (({ s.mg with pendReaim := some 0 } : Mg).committed 1 c)
      { s.tsq with inHand := some (crossingSeen h), referenced := true } s := by
  have servo := servoRun_of_motion_first (code := 1)
    (v := rebaseTaken h x (moved (s.mg.committed (dirSign m.forward) c) (s.onMu Mu.atExpiry))) b later motion stretch eot
    fit moving
    (fun a => botCrossing_of_searchForward
      (s := withArrival a (moved (s.mg.committed (dirSign m.forward) c) (s.onMu Mu.atExpiry)))
      (b.search.congr rfl) value below above)
    rfl rfl rfl rfl
  rw [dirSign_forward forward] at servo
  rw [← atExpiry_rebased]
  exact crossing_outcome o b.calm b.notHalting servo rfl (atExpiry_silence s) rfl

/-! ## What REWIND and UNLOAD come to -/

/-- R92: the FAST leg is run from beyond the BOT margin of a referenced tape. -/
theorem fastRuns_iff : fastRuns s = true ↔ s.tsq.referenced = true ∧ 0 < s.mu.p + s.mc.params.botMargin := by
  rw [fastRuns, Bool.and_eq_true, decide_eq_true_eq]
  rfl

theorem ReadyAtRest.consumed (rest : ReadyAtRest s) (seq : Byte) : ReadyAtRest (consumed seq s) :=
  ⟨rest.ready, rest.brake, rest.pump, rest.idle, rest.running, rest.looping⟩

/-- Settles O42: the two legs at their take, UNLOAD in FAULT, and the BOT crossings by the two places that an expiry's
order gives their hand-on. -/
theorem rewindAndUnloadAreTaken : Obligations.RewindAndUnloadAreTaken := by
  unfold Obligations.RewindAndUnloadAreTaken
  refine ⟨?fast, ?search, fun s seq b free law run fault room => unload_in_fault b free law run fault room, ?markStop,
    ?reaim, ?held⟩
  case fast =>
    intro s unload seq b free rest run referenced beyond
    have rest' : ReadyAtRest (consumed seq s) := rest.consumed seq
    have runs : fastRuns (consumed seq s) = true := fastRuns_iff.mpr ⟨referenced, beyond⟩
    exact leg_of_take free rest run (carryOut_fast unload seq b rest' runs)
  case search =>
    intro s unload seq b free rest run short
    have rest' : ReadyAtRest (consumed seq s) := rest.consumed seq
    have runs : fastRuns (consumed seq s) = false := by
      rw [← Bool.not_eq_true, fastRuns_iff]
      rintro ⟨referenced, beyond⟩
      rcases short with unreferenced | within
      · exact absurd (referenced.symm.trans unreferenced) (by decide)
      · exact absurd beyond (Int.not_lt.mpr within)
    exact leg_of_take free rest run (carryOut_search unload seq b rest' runs)
  case markStop =>
    intro s o m h pos c calm notices direction state run motion accel stretch eot noChain hand leg running unseen mask room
      speed
    have b := botNotice_of_rewinding (.inl state) calm notices direction hand leg running unseen run noChain mask room
    rw [← state]
    cases first : o.crossingsFirst with
    | true =>
      rw [first] at speed
      obtain ⟨positive, faster, rfl⟩ := speed
      exact markStop_at_this_expiry b first motion accel stretch eot positive faster
    | false =>
      rw [first] at speed
      obtain ⟨fit, moving⟩ := speed
      exact markStop_at_next_expiry b first motion stretch eot fit moving
  case reaim =>
    intro s o m h pos c calm notices direction first state run motion forward unstopped noChain hand leg running unseen
      mask room speed moving
    have b := botNotice_of_rewinding (.inr state) calm notices direction hand leg running unseen run noChain mask room
    obtain ⟨below, above, fit⟩ := speed
    obtain ⟨t, next, mg, tsq, mu, kept⟩ :=
      reaim_at_this_expiry b first motion forward unstopped rfl below above fit moving
    rw [← state]
    exact ⟨t, next, ⟨mu, mg⟩, tsq, kept⟩
  case held =>
    intro s o m h pos c calm notices direction later state run motion forward stretch eot noChain hand leg running unseen
      mask room bounds fit moving
    have b := botNotice_of_rewinding (.inr state) calm notices direction hand leg running unseen run noChain mask room
    obtain ⟨below, above⟩ := bounds
    obtain ⟨t, next, mg, tsq, mu, kept⟩ :=
      reaim_at_next_expiry b later motion forward stretch eot rfl below above fit moving
    rw [← state]
    exact ⟨t, next, mu, mg, tsq, kept⟩

end Sys2Proof.Machine
end

section
/-! How a step moves the generator's part of the state (`MotionPath`): the laws of R23 and R24 read the parameters, the
generator and the count of visits, and every command changes these only by requests to the generator, by a brake, by the
start of a motion and by the generator's own step. -/

namespace Sys2Proof.Machine

/-! ## The relation -/

/-- From g to g' the generator has only been handed requests (R29 to R31, R33) or a chain end (R67). -/
structure RequestsOnly (g g' : Mg) : Prop where
  same : { g' with pendStops := [], pendMarkStop := false, pendReaim := none, pendHalt := false, chainEnd := none } =
    { g with pendStops := [], pendMarkStop := false, pendReaim := none, pendHalt := false, chainEnd := none }
  chainEnd : g'.chainEnd = none → g.chainEnd = none

/-- Beside the generator's own work: the parameters stay in range, the generator is handed requests only, and the
visits stand or the chain has ended. -/
structure BesideMotion (s t : State) : Prop where
  params : ParameterLaw s.mc.params → ParameterLaw t.mc.params
  requests : RequestsOnly s.mg t.mg
  visits : t.wk.visits = s.wk.visits ∨ t.wk.visits = 0

/-- What happens to the generator from s to t. -/
inductive MotionPath (s : State) : State → Prop where
  | refl : MotionPath s s
  | beside {t t' : State} (h : MotionPath s t) (step : BesideMotion t t') : MotionPath s t'
  | braked {t : State} (h : MotionPath s t) : MotionPath s (t.onMg fun _ => Mg.reset)
  | started {t : State} (m : Motion) (distance : Int) (h : MotionPath s t) (forth : 0 ≤ distance) :
    MotionPath s (startMotion m distance t)
  | chained {t : State} (k : Fin 32) (seq : Byte) (reports : Bool) (h : MotionPath s t) :
    MotionPath s (startChainMotion k seq reports t)
  | stepped {t : State} (h : MotionPath s t) : MotionPath s (generatorStep t).1

theorem RequestsOnly.refl (g : Mg) : RequestsOnly g g := ⟨rfl, id⟩

variable {s t t' : State}

namespace MotionPath

/-- An operation that touches neither the parameters nor the generator, and leaves the visits or ends the chain. -/
theorem besideVisits (h : MotionPath s t) (mg : t'.mg = t.mg) (mc : t'.mc = t.mc)
    (visits : t'.wk.visits = t.wk.visits ∨ t'.wk.visits = 0) : MotionPath s t' :=
  h.beside ⟨fun p => mc ▸ p, mg ▸ .refl _, visits⟩

/-- An operation that touches neither the parameters nor the generator nor the walker. -/
theorem elsewhere (h : MotionPath s t) (mg : t'.mg = t.mg) (wk : t'.wk = t.wk) (mc : t'.mc = t.mc) : MotionPath s t' :=
  h.besideVisits mg mc (.inl (by rw [wk]))

/-- The generator is handed a request. -/
theorem request {f : Mg → Mg} (h : MotionPath s t) (requests : RequestsOnly t.mg (f t.mg)) : MotionPath s (t.onMg f) :=
  h.beside ⟨id, requests, .inl rfl⟩

theorem onFm {f : Fm → Fm} (h : MotionPath s t) : MotionPath s (t.onFm f) := h.elsewhere rfl rfl rfl

theorem onTsq {f : Tsq → Tsq} (h : MotionPath s t) : MotionPath s (t.onTsq f) := h.elsewhere rfl rfl rfl

theorem onMu {f : Mu → Mu} (h : MotionPath s t) : MotionPath s (t.onMu f) := h.elsewhere rfl rfl rfl

theorem onOi {f : Oi → Oi} (h : MotionPath s t) : MotionPath s (t.onOi f) := h.elsewhere rfl rfl rfl

theorem onRl {x : Reel} {f : ReelLoop → ReelLoop} (h : MotionPath s t) : MotionPath s (t.onRl x f) :=
  h.elsewhere rfl rfl rfl

theorem onSlu {f : Slu → Slu} (h : MotionPath s t) : MotionPath s (t.onSlu f) := h.elsewhere rfl rfl rfl

theorem ite {c : Prop} [Decidable c] (h : MotionPath s t) (h' : MotionPath s t') :
    MotionPath s (if c then t else t') := by
  split
  · exact h
  · exact h'

end MotionPath

/-! ## The shared operations -/

theorem generate_path {kind : ReportKind} {code : Nat} {value : Int} {seq : Option Byte} (h : MotionPath s t) :
    MotionPath s (generate kind code value seq t) := h.elsewhere (by simp) (by simp) (by simp)

theorem refuse_path {reason : Reason} {value : Int} {seq : Byte} (h : MotionPath s t) :
    MotionPath s (refuse reason value seq t) := generate_path h

theorem doneAtTake_path {o : OrderOutcome} {value : Int} {seq : Byte} (h : MotionPath s t) :
    MotionPath s (doneAtTake o value seq t) := generate_path h

theorem enter_path {st : TState} {brake vacuum : Bool} (h : MotionPath s t) : MotionPath s (enter st brake vacuum t) :=
  h.elsewhere (by simp) (by simp) (by simp)

theorem enterKeeping_path {st : TState} (h : MotionPath s t) : MotionPath s (enterKeeping st t) := enter_path h

theorem dropWriteEnable_path (h : MotionPath s t) : MotionPath s (dropWriteEnable t) := h.onTsq

theorem finishOrder_path {o : OrderOutcome} {pe : Int} (h : MotionPath s t) : MotionPath s (finishOrder o pe t) :=
  h.elsewhere (by simp) (by simp) (by simp)

theorem endReady_path {o : OrderOutcome} {pe : Int} (h : MotionPath s t) : MotionPath s (endReady o pe t) :=
  finishOrder_path (enterKeeping_path h)

theorem endUnloaded_path {o : OrderOutcome} (h : MotionPath s t) : MotionPath s (endUnloaded o t) :=
  finishOrder_path (enter_path h)

/-! ## The end of a chain (R63) -/

/-- R63: at the end of a chain the walker is reset. -/
theorem endChain_wk (s : State) : (endChain s).wk = if s.wk.active then Wk.reset else s.wk := by
  unfold endChain
  split <;> simp

theorem endChain_path (h : MotionPath s t) : MotionPath s (endChain t) := by
  refine h.besideVisits (by simp) (by simp) ?_
  rw [endChain_wk]
  split
  · exact .inr rfl
  · exact .inl rfl

/-! ## The Fault Monitor -/

theorem haltResponse_path (h : MotionPath s t) : MotionPath s (haltResponse t) := by
  unfold haltResponse
  exact (dropWriteEnable_path (endChain_path (enterKeeping_path h))).onFm.request ⟨rfl, id⟩

theorem brakeResponse_path {k : FaultKind} (h : MotionPath s t) : MotionPath s (brakeResponse k t) :=
  dropWriteEnable_path (endChain_path (enter_path h.braked).onFm)

theorem vacuumEffect_path {k : FaultKind} (h : MotionPath s t) : MotionPath s (vacuumEffect k t) :=
  (enter_path h).ite h

theorem laterFault_path {k : FaultKind} {value : Int} (h : MotionPath s t) : MotionPath s (laterFault k value t) := by
  have recorded : MotionPath s (recordLater k t) := h.onFm
  unfold laterFault
  split
  · exact ((vacuumEffect_path h).ite (brakeResponse_path h)).ite h
  · exact finishOrder_path (generate_path
      (((brakeResponse_path recorded).ite (vacuumEffect_path recorded)).ite recorded))

theorem attendLimitsLater_path {x : Reel} (h : MotionPath s t) : MotionPath s (attendLimitsLater x t) := by
  have look (upper : Bool) (t : State) (h : MotionPath s t) :
      MotionPath s (if attended (.columnLimit x upper) t && level (.limit x upper) t then
        laterFault (.columnLimit x upper) (limitValue x t) t else t) := (laterFault_path h).ite h
  exact look false _ (look true _ h)

theorem takeFault_path {k : FaultKind} {value : Int} (h : MotionPath s t) : MotionPath s (takeFault k value t) := by
  have first : MotionPath s (t.onFm fun f => { f with first := some k }) := h.onFm
  have watch (x : Reel) (b : Bool) (t : State) (h : MotionPath s t) :
      MotionPath s (if b then attendLimitsLater x t else t) := (attendLimitsLater_path h).ite h
  unfold takeFault
  split
  · split
    · exact laterFault_path h
    · exact watch .t _ _ (watch .s _ _ (finishOrder_path (generate_path
        ((brakeResponse_path first).ite (haltResponse_path first)))))
  · exact h

theorem limitCondition_path {x : Reel} {upper : Bool} (h : MotionPath s t) : MotionPath s (limitCondition x upper t) :=
  (takeFault_path h).ite h

theorem attendLimits_path {x : Reel} (h : MotionPath s t) : MotionPath s (attendLimits x t) :=
  limitCondition_path (limitCondition_path h)

theorem evaluateDoor_path (h : MotionPath s t) : MotionPath s (evaluateDoor t) := (takeFault_path h.onFm).ite h.onFm

/-! ## The sequencer -/

theorem rebase_path {pos : Int} (h : MotionPath s t) : MotionPath s (rebase pos t) :=
  (takeFault_path (h.onMu.onTsq)).ite h.onMu.onTsq

theorem startSearch_path {forward : Bool} (h : MotionPath s t) : MotionPath s (startSearch forward t) :=
  .started _ _ h.onTsq (Int.natCast_nonneg _)

/-- R92: a FAST leg that is run has a distance ahead. -/
theorem startFast_path (h : MotionPath s t) (runs : fastRuns t = true) : MotionPath s (startFast t) := by
  have ahead : 0 < fastDistance t := by
    unfold fastRuns at runs
    simp at runs
    exact runs.2
  exact .started _ _ h.onTsq ahead.le

theorem botCrossing_path {forward : Bool} {pos : Int} (h : MotionPath s t) : MotionPath s (botCrossing forward pos t) := by
  have seen : MotionPath s (setCrossingSeen t) := h.onTsq
  unfold botCrossing
  split
  · exact h
  · split
    · exact h
    · split
      · exact h.ite seen
      · exact h.ite (seen.request ⟨rfl, id⟩)
      · exact h.ite ((rebase_path seen).request ⟨rfl, id⟩)
      all_goals exact h

theorem takeCrossings_path (cs : List Crossing) (h : MotionPath s t) : MotionPath s (takeCrossings cs t) := by
  have each (l : List Crossing) (t : State) (h : MotionPath s t) :
      MotionPath s (l.foldl (fun s c => handOnCrossing c s) t) := by
    induction l generalizing t with
    | nil => exact h
    | cons c l ih => exact ih _ (generate_path ((botCrossing_path h).ite h))
  exact each cs _ h.onMu

theorem fillTest_path (h : MotionPath s t) : MotionPath s (fillTest t) :=
  (startSearch_path (enterKeeping_path h.onMu.onTsq)).ite h

theorem present_path {p : PerReel (BitVec 10)} (h : MotionPath s t) : MotionPath s (present p t) := by
  have presented : MotionPath s (presentPair p t) := h.elsewhere (by simp) (by simp) (by simp)
  have watch (x : Reel) (b : Bool) (t : State) (h : MotionPath s t) : MotionPath s (if b then attendLimits x t else t) :=
    (attendLimits_path h).ite h
  exact fillTest_path (watch .t _ _ (watch .s _ _ presented))

theorem enterWindOff_path (h : MotionPath s t) : MotionPath s (enterWindOff t) :=
  h.elsewhere (by simp) (by simp) (by simp)

theorem phaseTimer_path (h : MotionPath s t) : MotionPath s (phaseTimer t) :=
  ((endUnloaded_path h).ite ((endUnloaded_path h).ite h.onTsq)).ite h

theorem afterFast_path {x : InHand} (h : MotionPath s t) : MotionPath s (afterFast x t) :=
  ((enterWindOff_path h).ite (startSearch_path h)).ite
    ((startSearch_path (enterKeeping_path h)).ite (startSearch_path (enterKeeping_path h)))

theorem afterSearchReverse_path {x : InHand} (h : MotionPath s t) : MotionPath s (afterSearchReverse x t) :=
  (endReady_path h).ite ((enterWindOff_path h).ite
    ((startSearch_path (enterKeeping_path h)).ite (startSearch_path h)))

theorem legEnd_path {e : MotionEnd} {m : ChainMarks} {x : InHand} (h : MotionPath s t) :
    MotionPath s (legEnd e m x t) := by
  unfold legEnd
  split
  · exact afterFast_path h
  · exact afterSearchReverse_path h
  all_goals exact endReady_path h

theorem motionEnd_path {e : MotionEnd} (h : MotionPath s t) : MotionPath s (motionEnd e t) := by
  unfold motionEnd
  split
  · exact h.onFm.ite h
  · exact (dropWriteEnable_path (enterKeeping_path h)).ite h
  · dsimp only
    split
    · exact endChain_path h
    · exact (endReady_path (endChain_path h)).ite (legEnd_path (endChain_path h))

theorem generatorStage_path (h : MotionPath s t) : MotionPath s (generatorStage t) := by
  have ends (e : Option MotionEnd) (t : State) (h : MotionPath s t) : MotionPath s (motionEnds e t) := by
    cases e with
    | none => exact h
    | some e => exact motionEnd_path h
  exact ends _ _ h.stepped

theorem requestStop_path {kind : StopKind} (h : MotionPath s t) : MotionPath s (requestStop kind t) := by
  unfold requestStop
  exact (dropWriteEnable_path h.onTsq).request ⟨rfl, id⟩

theorem stopAction_path {kind : StopKind} (h : MotionPath s t) : MotionPath s (stopAction kind t) := by
  unfold stopAction
  split
  any_goals exact endUnloaded_path h
  any_goals exact requestStop_path h
  all_goals exact h

theorem takeStopWord_path {w : Word} (h : MotionPath s t) : MotionPath s (takeStopWord w t) := by
  have flushed (t : State) (h : MotionPath s t) : MotionPath s (flush (stopKind w) (stopResume w) t) := by
    have emptied : MotionPath s (flushIntake (stopResume w) t) := h.onOi
    unfold flush
    exact generate_path emptied
  exact (flushed _ (stopAction_path h)).ite (stopAction_path h)

/-! ## The sense lines -/

theorem handOnLevel_path {f : Func} (h : MotionPath s t) : MotionPath s (handOnLevel f t) := by
  cases f with
  | vacuumOk => exact h.ite (takeFault_path h)
  | tapeInPath => exact h.ite ((endUnloaded_path (takeFault_path h)).ite (takeFault_path h))
  | doorClosed => exact evaluateDoor_path h
  | writeRing => exact h.ite (h.elsewhere (by simp) (by simp) (by simp))
  | none | limit | botMark | eotMark => exact h

theorem freeFunction_path {k : Fin 12} {f : Func} (h : MotionPath s t) : MotionPath s (freeFunction k f t) :=
  h.ite (h.onSlu.ite (handOnLevel_path h.onSlu))

theorem applySenseLine_path {k : Fin 12} {f : Func} {m : LineMode} {i : Bool} {e : BitVec 3} (h : MotionPath s t) :
    MotionPath s (applySenseLine k f m i e t) := by
  have seen : MotionPath s (seeInputs t) := h.elsewhere rfl rfl rfl
  exact (freeFunction_path seen).onSlu.ite (handOnLevel_path (freeFunction_path seen).onSlu)

theorem notice_path {k : Fin 12} (h : MotionPath s t) : MotionPath s (notice k t) := by
  have acted (f : Func) : MotionPath s (noticeAction f t) := by
    cases f with
    | limit x upper => exact limitCondition_path h
    | botMark | eotMark => exact h.elsewhere rfl rfl rfl
    | none | vacuumOk | doorClosed | tapeInPath | writeRing => exact h
  unfold notice
  exact (acted _).onSlu.onSlu

theorem acceptChange_path {k : Fin 12} (h : MotionPath s t) : MotionPath s (acceptChange k t) := by
  have handed (f : Func) (g : Line → Line) : MotionPath s (handOnLevel f (onLine k g t)) := handOnLevel_path h.onSlu
  unfold acceptChange
  dsimp only
  split
  · exact notice_path (handed _ _)
  · exact handed _ _

theorem tickLine_path {raw : BitVec 12} {k : Fin 12} (h : MotionPath s t) : MotionPath s (tickLine raw k t) := by
  have levelled (t : State) (h : MotionPath s t) : MotionPath s (levelNotice k t) := (notice_path h).ite h
  unfold tickLine
  dsimp only
  split
  · exact h
  · apply levelled
    split
    · exact h.onSlu
    · split
      · exact acceptChange_path h
      · exact h.onSlu

theorem tick_path (raw : BitVec 12) (order : List (Fin 12)) (h : MotionPath s t) : MotionPath s (tick raw order t) := by
  have lines (l : List (Fin 12)) (t : State) (h : MotionPath s t) :
      MotionPath s (l.foldl (fun s k => tickLine raw k s) t) := by
    induction l generalizing t with
    | nil => exact h
    | cons k l ih => exact ih _ (tickLine_path h)
  exact lines _ _ h.onSlu

/-! ## The expiry -/

theorem missStage_path (h : MotionPath s t) : MotionPath s (missStage t) := by
  have held (t : State) (h : MotionPath s t) : MotionPath s (presentHeld t) := by
    unfold presentHeld
    split
    · exact present_path h
    · exact h
  have starved (f : Mu → Mu) : MotionPath s (starveReel .t (starveReel .s (t.onMu f))) :=
    h.elsewhere (by simp) (by simp) (by simp)
  exact ((held _ h.onMu).ite ((takeFault_path (starved _).onMu).ite (starved _))).ite h.onMu

theorem timerStage_path {c : Context} (h : MotionPath s t) : MotionPath s (timerStage c t) := (phaseTimer_path h).ite h

theorem haltCheck_path {c : Context} (h : MotionPath s t) : MotionPath s (haltCheck c t) := by
  have ended (b : Bool) : MotionPath s (endHalt b t) := by
    unfold endHalt
    exact (enter_path h).onFm
  unfold haltCheck
  split
  · split
    · exact h
    · exact (ended _).ite ((ended _).ite h.onFm)
  · exact h

theorem checkStage_path {c : Context} {k : ExpiryCheck} (h : MotionPath s t) : MotionPath s (checkStage c k t) := by
  cases k with
  | position => exact (takeFault_path h).ite h
  | vacuum | stall | runaway => exact (takeFault_path h.onFm).ite h.onFm
  | door => exact evaluateDoor_path h
  | halt => exact haltCheck_path h

theorem checked_path {o : ExpiryOrder} {u : State} (h : MotionPath s t) : MotionPath s (checked o u t) := by
  unfold checked
  generalize checkOrder o = l
  induction l generalizing t with
  | nil => exact h
  | cons k l ih => exact ih (checkStage_path h)

theorem whenever_path {r : Run} {f : Run → Run} (b : Bool) (h : MotionPath s r.state)
    (hf : MotionPath s r.state → MotionPath s (f r).state) : MotionPath s (r.whenever b f).state := by
  cases b
  · exact h
  · exact hf h

theorem servoRun_path (o : ExpiryOrder) (s : State) : MotionPath s (servoRun o s).state := by
  have crossings {r : Run} (b : Bool) (h : MotionPath s r.state) :
      MotionPath s (r.whenever b (Run.crossings (contextOf s))).state :=
    whenever_path b h (takeCrossings_path _)
  have timer {r : Run} (b : Bool) (h : MotionPath s r.state) :
      MotionPath s (r.whenever b (Run.timer (contextOf s))).state :=
    whenever_path b h fun h => by rw [Run.timer_state]; exact timerStage_path h
  have miss {r : Run} (b : Bool) (h : MotionPath s r.state) : MotionPath s (r.whenever b Run.miss).state :=
    whenever_path b h fun h => by rw [Run.miss_state]; exact missStage_path h
  have generator {r : Run} (h : MotionPath s r.state) : MotionPath s (r.generator.andThen computeCapstan).state := by
    rw [Run.andThen_state, Run.generator_state]
    exact (generatorStage_path h).elsewhere (by simp) (by simp) (by simp)
  exact timer _ (miss _ (timer _ (crossings _ (generator (miss _ (timer _ (crossings _ MotionPath.refl.onMu)))))))

end Sys2Proof.Machine
end

section
/-! `MotionPath` through the records at the queue head, the port and every command; the parameters stay in range. -/

namespace Sys2Proof.Machine

variable {s t t' : State}

/-! ## The parameters (R183, R185, section 11.5) -/

theorem ParameterLaw.defaults (straps : Straps) : ParameterLaw (Params.defaults straps) where
  reelGains x := by cases x <;> simp [Params.defaults]
  capstanGains := by simp [Params.defaults]
  setpoints x := by cases x <;> simp [Params.defaults]
  halfWidth := by simp [Params.defaults]
  bands x := by cases x <;> simp [Params.defaults]
  drives := by simp [Params.defaults]
  speeds := by simp [Params.defaults]
  accelerations := by simp [Params.defaults]
  distances := by simp [Params.defaults]
  settling := by simp [Params.defaults]
  times := by simp [Params.defaults]
  faults := by simp [Params.defaults]
  circumference := by simp [Params.defaults]
  interval := by simp [Params.defaults]

section
variable {p : Params} (law : ParameterLaw p) (b : Body)
include law

theorem ParameterLaw.withReelGains : ParameterLaw (withReelGains p b) := by
  have feed (n : Nat) : clampN 0 8191 n ≤ 8191 := (clampN_bounds (by decide) n).2
  have byte (n : Nat) : clampN 0 255 n ≤ 255 := (clampN_bounds (by decide) n).2
  refine { law with reelGains := fun x => ?_ }
  unfold Machine.withReelGains
  dsimp only
  rw [PerReel.get_set]
  generalize (if bit b.w0 16 = true then Reel.t else Reel.s) = y
  split
  · exact ⟨feed _, byte _, byte _, byte _⟩
  · exact law.reelGains x

theorem ParameterLaw.withCapstanGains : ParameterLaw (withCapstanGains p b) := by
  have byte (n : Nat) : clampN 0 255 n ≤ 255 := (clampN_bounds (by decide) n).2
  exact { law with capstanGains := ⟨byte _, byte _, byte _⟩ }

/-- R185: SET COLUMNS is applied only where both bands fit. -/
theorem ParameterLaw.withColumns (fits : bandsFit (withColumns p b) = true) : ParameterLaw (withColumns p b) := by
  simp only [bandsFit, Bool.and_eq_true, decide_eq_true_eq, and_assoc] at fits
  obtain ⟨sLow, sHigh, tLow, tHigh⟩ := fits
  have drive (n : Nat) : clampN 0 1023 n ≤ 1023 := (clampN_bounds (by decide) n).2
  exact { law with
    setpoints := fun x => by cases x <;> exact clampN_bounds (by decide) _
    halfWidth := clampN_bounds (by decide) _
    bands := fun x => by
      cases x
      · exact ⟨sLow, sHigh⟩
      · exact ⟨tLow, tHigh⟩
    drives := ⟨drive _, drive _⟩ }

theorem ParameterLaw.withSpeeds : ParameterLaw (withSpeeds p b) := by
  have speed (n : Nat) := clampN_bounds (lo := 1) (hi := 127) (by decide) n
  have accel (n : Nat) := clampN_bounds (lo := 1) (hi := 15) (by decide) n
  have emergency (n : Nat) := clampN_bounds (lo := 1) (hi := 31) (by decide) n
  have creep (n : Nat) := clampN_bounds (lo := 1) (hi := 8) (by decide) n
  exact { law with
    speeds := ⟨(speed _).1, (speed _).2, (speed _).1, (speed _).2, (speed _).1, (speed _).2, (speed _).1, (speed _).2⟩
    accelerations := ⟨(accel _).1, (accel _).2, (emergency _).1, (emergency _).2, (creep _).1, (creep _).2⟩ }

theorem ParameterLaw.withLimits : ParameterLaw (withLimits p b) := by
  have word (n : Nat) := clampN_bounds (lo := 0) (hi := 65535) (by decide) n
  have search (n : Nat) := clampN_bounds (lo := 1000) (hi := 16000000) (by decide) n
  have window (n : Nat) := clampN_bounds (lo := 0) (hi := 63) (by decide) n
  have nibble (n : Nat) := clampN_bounds (lo := 1) (hi := 15) (by decide) n
  have settle (n : Nat) := clampN_bounds (lo := 8) (hi := 2000) (by decide) n
  have unload (n : Nat) := clampN_bounds (lo := 1) (hi := 30) (by decide) n
  have vacuum (n : Nat) := clampN_bounds (lo := 50) (hi := 2000) (by decide) n
  have memory (n : Nat) := clampN_bounds (lo := 8) (hi := 255) (by decide) n
  have stall (n : Nat) := clampN_bounds (lo := 8) (hi := 65535) (by decide) n
  have threshold (n : Nat) := clampN_bounds (lo := 1) (hi := 2047) (by decide) n
  have runaway (n : Nat) := clampN_bounds (lo := 1) (hi := 255) (by decide) n
  exact { law with
    distances := ⟨(search _).1, (search _).2, (word _).2, (word _).2, (word _).2⟩
    settling := ⟨(window _).2, (nibble _).1, (nibble _).2, (settle _).1, (settle _).2⟩
    times := ⟨(nibble _).1, (nibble _).2, (unload _).1, (unload _).2, (vacuum _).1, (vacuum _).2, (memory _).1,
      (memory _).2⟩
    faults := ⟨(threshold _).1, (threshold _).2, (stall _).1, (stall _).2, (runaway _).1, (runaway _).2⟩ }

theorem ParameterLaw.withDefaultCirc : ParameterLaw (withDefaultCirc p b) :=
  { law with circumference := clampN_bounds (by decide) _ }

theorem ParameterLaw.withReporting : ParameterLaw (withReporting p b) :=
  { law with interval := Nat.le_of_lt_succ (bits_lt b.w0 23 16) }

end

/-- R183: a record sets parameters that are in range. -/
theorem setParams_path {p : Params} (h : MotionPath s t) (law : ParameterLaw t.mc.params → ParameterLaw p) :
    MotionPath s (setParams p t) := h.beside ⟨law, .refl _, .inl rfl⟩

theorem setupApplied_path {c : Code} {b : Bool} {seq : Byte} (h : MotionPath s t) :
    MotionPath s (setupApplied c b seq t) := generate_path h

theorem applyReporting_path {b : Body} (h : MotionPath s t) : MotionPath s (applyReporting b t) := by
  have set : MotionPath s (setParams (withReporting t.mc.params b) t) := setParams_path h (·.withReporting b)
  exact set.elsewhere (by simp [applyReporting]) (by simp [applyReporting]) (by simp [applyReporting])

theorem takeSenseLine_path {r : Record} (h : MotionPath s t) : MotionPath s (takeSenseLine r t) := by
  unfold takeSenseLine
  dsimp only
  split
  · exact refuse_path h
  · exact refuse_path h
  · exact setupApplied_path (applySenseLine_path h)

theorem takeColumns_path {r : Record} (h : MotionPath s t) : MotionPath s (takeColumns r t) := by
  unfold takeColumns
  dsimp only
  split
  · rename_i fits
    exact setupApplied_path (setParams_path h (·.withColumns r.body fits))
  · exact refuse_path h

theorem applySetup_path {r : Record} (h : MotionPath s t) : MotionPath s (applySetup r t) := by
  unfold applySetup
  dsimp only
  cases r.code with
  | setReelGains => exact setupApplied_path (setParams_path h (·.withReelGains r.body))
  | setCapstanGains => exact setupApplied_path (setParams_path h (·.withCapstanGains r.body))
  | setColumns => exact takeColumns_path h
  | setSpeeds => exact setupApplied_path (setParams_path h (·.withSpeeds r.body))
  | setLimits => exact setupApplied_path (setParams_path h (·.withLimits r.body))
  | setSenseLine => exact takeSenseLine_path h
  | setReporting => exact setupApplied_path (applyReporting_path h)
  | setDefaultCircumference => exact setupApplied_path (setParams_path h (·.withDefaultCirc r.body))
  | enterRun => exact setupApplied_path (h.beside ⟨id, .refl _, .inl rfl⟩)
  | _ => exact h

/-! ## The orders -/

theorem enter_position (st : TState) (brake vacuum : Bool) (s : State) : (enter st brake vacuum s).mu.p = s.mu.p := by
  have estimator (x : Reel) (s : State) : (followEstimator x s).mu.p = s.mu.p := by
    unfold followEstimator
    split <;> rfl
  unfold enter followModes
  simp only [estimator, followReel_frame, followCapstan_frame, State.onTsq_mu, State.onFm_mu]
  split <;> simp

/-- R92: neither the take of the order nor a state that keeps the outputs changes whether the FAST leg is run. -/
theorem fastRuns_taken (st : TState) (r : Record) (f : OrderFields) (b : Bool) (leg : Leg) (s : State) :
    fastRuns (enterKeeping st (takeInHand r f b leg s)) = fastRuns s := by
  have position : (enterKeeping st (takeInHand r f b leg s)).mu.p = s.mu.p := enter_position _ _ _ _
  unfold fastRuns fastDistance
  rw [position, enterKeeping_tsq]
  simp [takeInHand]

theorem takeRewind_path {r : Record} (h : MotionPath s t) : MotionPath s (takeRewind r t) := by
  have hand : MotionPath s (takeInHand r (orderFields r.body) false .none t) := h.onTsq
  unfold takeRewind
  dsimp only
  split
  · rename_i runs
    refine startFast_path (enterKeeping_path hand) ?_
    rw [fastRuns_taken]
    exact runs
  · exact startSearch_path (enterKeeping_path hand)

theorem takeUnload_path {r : Record} (h : MotionPath s t) : MotionPath s (takeUnload r t) := by
  have hand : MotionPath s (takeInHand r (orderFields r.body) false .none t) := h.onTsq
  unfold takeUnload takeUnloadFault takeUnloadReady
  dsimp only
  split
  · exact doneAtTake_path (enter_path h).onTsq.onFm
  · split
    · rename_i runs
      exact startFast_path (enterKeeping_path hand) runs
    · exact startSearch_path (enterKeeping_path hand)

theorem takeSpace_path {r : Record} (h : MotionPath s t) : MotionPath s (takeSpace r t) := by
  have hand (f : OrderFields) (b : Bool) : MotionPath s (takeInHand r f b .space t) := h.onTsq
  exact (doneAtTake_path h).ite (.started _ _ (enterKeeping_path (hand _ _)) (Int.natCast_nonneg _))

theorem takeRunChain_path {r : Record} (h : MotionPath s t) : MotionPath s (takeRunChain r t) := by
  have hand : MotionPath s (takeInHand r (orderFields r.body) false .chain t) := h.onTsq
  exact (refuse_path h).ite (.chained _ _ _ (enterKeeping_path hand))

theorem takeLoad_path {r : Record} (h : MotionPath s t) : MotionPath s (takeLoad r t) := by
  have hand : MotionPath s (takeInHand r (orderFields r.body) false .none (forgetCircumferences (dropReferenced t))) :=
    h.onTsq.onMu.onTsq
  exact (refuse_path h).ite ((refuse_path h).ite (enter_path hand).onTsq)

theorem takeClearFault_path {r : Record} (h : MotionPath s t) : MotionPath s (takeClearFault r t) := by
  have cleared (code : Nat) (value : Int) (seq : Option Byte) :
      MotionPath s (clearRecord (generate .faultCleared code value seq t)) := (generate_path h).onFm
  unfold takeClearFault
  split
  · exact refuse_path h
  · exact doneAtTake_path ((enter_path (cleared _ _ _)).ite (enter_path (cleared _ _ _)))

theorem takeTransportReset_path {r : Record} (h : MotionPath s t) : MotionPath s (takeTransportReset r t) := by
  have stopped : MotionPath s (dropReferenced (dropWriteEnable (enter .unloaded true false
      ((endChain t).onMg fun _ => Mg.reset)))) := (dropWriteEnable_path (enter_path (endChain_path h).braked)).onTsq
  have quiet (t : State) (h : MotionPath s t) : MotionPath s (t.onCl fun _ => Cl.reset) := h.elsewhere rfl rfl rfl
  unfold takeTransportReset
  exact doneAtTake_path (quiet _ stopped.onFm).onRl.onRl.onMu.onOi

theorem carryOut_path {r : Record} (h : MotionPath s t) : MotionPath s (carryOut r t) := by
  unfold carryOut
  cases r.code with
  | load => exact takeLoad_path h
  | unload => exact takeUnload_path h
  | rewind => exact takeRewind_path h
  | runChain => exact takeRunChain_path h
  | space => exact takeSpace_path h
  | marker => exact doneAtTake_path h
  | clearFault => exact takeClearFault_path h
  | returnToSetup => exact doneAtTake_path (h.beside ⟨id, .refl _, .inl rfl⟩)
  | transportReset => exact takeTransportReset_path h
  | _ => exact h

theorem takeHead_path {r : Record} (h : MotionPath s t) : MotionPath s (takeHead r t) :=
  ((applySetup_path h).ite (refuse_path h)).ite
    (((doneAtTake_path h).ite (refuse_path h)).ite ((carryOut_path h).ite (refuse_path h)))

theorem conclude_path (h : MotionPath s t) : MotionPath s (conclude t) := by
  have served (n : Nat) (t : State) (h : MotionPath s t) : MotionPath s (serveHead n t) := by
    induction n generalizing t with
    | zero => exact h
    | succ n ih =>
      unfold serveHead
      split
      · exact h
      · exact (ih _ (takeHead_path h.onOi)).ite h
  unfold conclude
  exact (served t.oi.queue.length t h).elsewhere (by simp) (by simp) (by simp)

/-! ## The port and the Memory Agent -/

theorem snoop_path {w : RegionWord} {be : ByteEnables} {data : Word} {answered : Bool} (h : MotionPath s t) :
    MotionPath s (snoop w be data answered t) := by
  have word : MotionPath s (snoopWord w be data answered t) := by
    cases w with
    | slotWord | entryWord =>
      exact h.elsewhere (by simp [snoopWord, slotWordEnds, entryWordEnds]) (by simp [snoopWord, slotWordEnds, entryWordEnds])
        (by simp [snoopWord, slotWordEnds, entryWordEnds])
    | postWord j =>
      change MotionPath s (postWordEnds j be data answered t)
      unfold postWordEnds
      split <;> exact h.elsewhere (by simp) (by simp) (by simp)
    | entryClosing i =>
      change MotionPath s (entryClosingEnds i be data answered t)
      unfold entryClosingEnds
      dsimp only
      split <;> exact h.elsewhere (by simp) (by simp) (by simp)
    | release => exact (h.elsewhere (t' := takeRelease data t) (by simp) (by simp) (by simp)).ite h
    | stop => exact (takeStopWord_path h).ite h
    | unwatched => exact h
  exact word.ite h

theorem beginJob_path {k : AgentJob} (h : MotionPath s t) : MotionPath s (beginJob k t) := by
  cases k <;> exact h.elsewhere (by simp [beginJob]) (by simp [beginJob]) (by simp [beginJob])

theorem takeStart_path {k : AgentJob} (h : MotionPath s t) : MotionPath s (takeStart k t) := by
  rw [takeStart_eq]
  have kept (p : Option AgentJob) : MotionPath s (t.onPtp fun q => { q with starting := p }) := h.elsewhere rfl rfl rfl
  exact (beginJob_path h).ite ((kept _).ite h)

theorem takeKept_path {kept : Option AgentJob} (h : MotionPath s t) : MotionPath s (takeKept kept t) := by
  cases kept with
  | none => exact h
  | some k =>
    have taken : MotionPath s (t.onPtp fun p => { p with starting := none }) := h.elsewhere rfl rfl rfl
    exact (beginJob_path taken).ite taken

theorem arbitrate_path (h : MotionPath s t) : MotionPath s (arbitrate t) := h.elsewhere (by simp) (by simp) (by simp)

theorem endForwarded_path {answered : Bool} {data : Word} (h : MotionPath s t) :
    MotionPath s (endForwarded answered data t) := by
  have completed (t : State) (h : MotionPath s t) (busError : Bool) (data : Option Word) :
      MotionPath s (takeComing (completeU busError data t)) := h.elsewhere (by simp) (by simp) (by simp)
  unfold endForwarded
  split
  · unfold forwardedEnds
    exact arbitrate_path (takeKept_path (conclude_path (completed _ ((snoop_path h).ite h) _ _)))
  all_goals exact h

theorem watchedWrite_path {off : Nat} {be : ByteEnables} {data : Word} {answered : Bool} (h : MotionPath s t) :
    MotionPath s (watchedWrite off be data answered t) :=
  (endForwarded_path h).ite (conclude_path (snoop_path h))

/-- R62, R67: the failure of a segment fetch reports a chain end at most. -/
theorem jobFailed_path {k : JobKind} (h : MotionPath s t) : MotionPath s (jobFailed k t) := by
  cases k with
  | segmentFetch i =>
    change MotionPath s (segFetchFail t)
    unfold segFetchFail reportUnavailable
    split
    · exact h
    · rename_i f _
      dsimp only
      have freed : MotionPath s (setEntry f.index .invalid (t.onSc fun c => { c with inFlight := none })) :=
        h.elsewhere rfl rfl rfl
      split
      · exact h.elsewhere rfl rfl rfl
      · exact (freed.request ⟨rfl, fun e => by cases e⟩).ite freed
      · exact (freed.request ⟨rfl, fun e => by cases e⟩).ite freed
  | _ => exact h.elsewhere (by simp [jobFailed]) (by simp [jobFailed]) (by simp [jobFailed])

theorem endAgentWord_path {f : Job → State → State} (hf : ∀ j t, MotionPath s t → MotionPath s (f j t))
    (h : MotionPath s t) : MotionPath s (endAgentWord f t) := by
  have freed : MotionPath s (freeMSide t) := h.elsewhere rfl rfl rfl
  have chosen (t : State) (h : MotionPath s t) : MotionPath s (chooseJob t) :=
    h.elsewhere (by simp) (by simp) (by simp)
  unfold endAgentWord
  split
  · dsimp only
    split
    · exact arbitrate_path (chosen _ (conclude_path (hf _ _ freed)))
    · exact arbitrate_path freed
  · exact arbitrate_path freed
  all_goals exact h

/-! ## Every command -/

/-- The resets: the generator and the walker are reset and the parameters take their defaults. -/
theorem MotionPath.powerOn (straps : Straps) (mg : t.mg = Mg.reset) (visits : t.wk.visits = 0)
    (params : t.mc.params = Params.defaults straps) : MotionPath s t :=
  (MotionPath.refl.braked).beside ⟨fun _ => params ▸ .defaults straps, mg ▸ .refl _, .inr visits⟩

theorem expiryRun_path (o : ExpiryOrder) (s : State) : MotionPath s (expiryRun o s).state := by
  rw [expiryRun_state]
  have tested := checked_path (o := o) (u := s) (servoRun_path o s)
  exact conclude_path (tested.elsewhere (by simp) (by simp) (by simp))

theorem recordArrives_path {c : Code} {seq : Byte} {b : Body} (h : MotionPath s t) :
    MotionPath s (recordArrives c seq b t) :=
  (conclude_path (h.elsewhere (by simp) (by simp) (by simp))).ite h

theorem sampleFrame_path (bits : List Bool) (h : execSampleFrame bits s = .next t) : MotionPath s t := by
  unfold execSampleFrame at h
  obtain rfl := Host.Outcome.next.inj h
  split
  · exact .refl
  · split
    · exact MotionPath.refl.onMu
    · cases framePair bits with
      | none => exact .refl
      | some p => exact present_path MotionPath.refl.onMu

theorem exec_path {c : Instr} (h : exec c s = .next t) : MotionPath s t := by
  cases c
  case sampleFrame bits => exact sampleFrame_path bits h
  all_goals obtain rfl := Host.Outcome.next.inj h
  case powerOnReset straps levels => exact .powerOn straps rfl rfl rfl
  case lineReset levels =>
    exact .powerOn s.mc.straps (by simp [lineReset, powerOnReset, State.powerOn])
      (by simp [lineReset, powerOnReset, State.powerOn, Wk.reset])
      (by simp [lineReset, powerOnReset, State.powerOn, Mc.reset])
  case resetRelease =>
    unfold resetRelease
    split <;> exact MotionPath.refl.beside ⟨id, .refl _, .inl rfl⟩
  case initialisationEnd =>
    unfold initialisationEnd
    split <;> exact MotionPath.refl.beside ⟨id, .refl _, .inl rfl⟩
  case periodExpiry o => exact (expiryRun_path o s).ite .refl
  case sampleLoss o | settleComplete o | settleTimeout o | speedReduced o | haltWaitLimit o | capstanRunaway o
    | vacuumSettled o | loadTimeout o | unloadTimeout o | snapshotInterval o => exact (expiryRun_path o s).ite .refl
  case reelStall x o => exact (expiryRun_path o s).ite .refl
  case capstanTachCount ph => exact MotionPath.refl.elsewhere (by simp) (by simp) (by simp)
  case reelTachCount x ph => exact MotionPath.refl.elsewhere (by simp) (by simp) (by simp)
  case windowComplete x ph => exact (MotionPath.refl.elsewhere (by simp) (by simp) (by simp)).ite .refl
  case debounceTick raw order => exact conclude_path (tick_path raw order .refl)
  case acceptedChange k raw order => exact (conclude_path (tick_path raw order .refl)).ite .refl
  case uSideAccess acc =>
    unfold presentAccess
    split <;> exact MotionPath.refl.elsewhere (by simp) (by simp) (by simp)
  case forwardedAccessEnd data => exact endForwarded_path .refl
  case memoryResponseTimeout => exact endForwarded_path .refl
  case orderSlotWordWrite | orderPostWordWrite | segmentWordWrite | segmentClosingWrite | releaseWord | stopWord =>
    exact watchedWrite_path .refl
  case reportWriteStart | orderFetchStart | segmentFetchStart | snapshotWriteStart => exact takeStart_path .refl
  case agentWordEnd data =>
    exact endAgentWord_path (fun j t h => h.elsewhere (by simp) (by simp) (by simp)) .refl
  case agentWordTimeout =>
    exact endAgentWord_path (fun j t h => jobFailed_path (h.elsewhere (by simp) (by simp) (by simp))) .refl
  case attentionPulseEnd => split <;> exact MotionPath.refl.elsewhere rfl rfl rfl
  case convertPulseEnd => exact MotionPath.refl.onMu
  case bothPhasesChange tach => exact MotionPath.refl.elsewhere (by simp) (by simp) (by simp)
  all_goals exact recordArrives_path .refl

/-- What every step does to the parameters, the generator and the visits. -/
theorem step_path (h : step s = .next t) : MotionPath s t := by
  unfold step at h
  split at h
  · obtain rfl := Host.Outcome.next.inj h
    exact .refl
  · rename_i c rest _
    have taken : MotionPath { s with pending := rest } t := exec_path h
    clear h
    induction taken with
    | refl => exact MotionPath.refl.elsewhere rfl rfl rfl
    | beside _ step ih => exact ih.beside step
    | braked _ ih => exact ih.braked
    | started m d _ forth ih => exact .started m d ih forth
    | chained k seq r _ ih => exact .chained k seq r ih
    | stepped _ ih => exact ih.stepped

end Sys2Proof.Machine
end

section
/-! R23: no step of the generator makes a speed exceed 127. What the entries of segments, the rests and the requests do
to the speeds is said once (`NoFaster`); the choice of a speed and the settle bound what is handed on. -/

namespace Sys2Proof.Machine

variable {s t : State}

/-! ## What leaves the speeds as they are, or ends the motion -/

/-- From g to g' the target speeds are kept and the speed in hand has not grown. -/
structure NoFaster (g g' : Mg) : Prop where
  inHand : g'.v ≤ g.v
  target : g'.vt = g.vt
  previous : g'.prevVt = g.prevVt

theorem NoFaster.refl (g : Mg) : NoFaster g g := ⟨le_refl _, rfl, rfl⟩

theorem NoFaster.trans {g h k : Mg} (a : NoFaster g h) (b : NoFaster h k) : NoFaster g k :=
  ⟨b.inHand.trans a.inHand, b.target.trans a.target, b.previous.trans a.previous⟩

theorem NoFaster.toIdle (g : Mg) : NoFaster g g.toIdle := ⟨Nat.zero_le _, rfl, rfl⟩

/-- What a segment handed over sets in the generator (R65, steps 5 and 6; R26). -/
def Mg.given (g : Mg) (seg : Segment) (before : Int) (last : Bool) (w : Nat) (copy : Option (Fin 32 × Segment)) : Mg :=
  { g with
    phase := .run
    motion := g.motion.map fun m => { m with forward := !seg.reverse, accel := seg.accel, ceiling := seg.vmax }
    accel := seg.accel
    l := g.l + seg.distance
    r := before + seg.distance
    w := w
    lookAhead := copy
    finalStop := last }

theorem giveSegment_mg_of_last {seg : Segment} (before : Int) (c : Nat) (last : handedLast seg s = true) :
    (giveSegment seg before c s).mg = s.mg.given seg before true 0 none := by
  unfold giveSegment
  simp [last, Mg.given]

theorem giveSegment_mg_of_more {seg : Segment} (before : Int) (c : Nat) (more : handedLast seg s = false) :
    (giveSegment seg before c s).mg = s.mg.given seg before false (lookAhead seg s).1 (lookAhead seg s).2.1 := by
  unfold giveSegment
  simp [more, Mg.given]

theorem giveSegment_noFaster (seg : Segment) (before : Int) (c : Nat) (s : State) :
    NoFaster s.mg (giveSegment seg before c s).mg := by
  cases last : handedLast seg s
  · rw [giveSegment_mg_of_more _ _ last]
    exact ⟨le_refl _, rfl, rfl⟩
  · rw [giveSegment_mg_of_last _ _ last]
    exact ⟨le_refl _, rfl, rfl⟩

theorem awaitEntry_noFaster (k : Fin 32) (s : State) : NoFaster s.mg (awaitEntry k s).mg := by
  simpa [awaitEntry] using (⟨le_refl _, rfl, rfl⟩ : NoFaster s.mg { s.mg with phase := .hold })

theorem enterAtRest_noFaster (n : Nat) (k : Fin 32) (s : State) : NoFaster s.mg (enterAtRest n k s).1.mg := by
  induction n generalizing k s with
  | zero => exact awaitEntry_noFaster k s
  | succ n ih =>
    unfold enterAtRest
    split
    · exact awaitEntry_noFaster k s
    · rename_i seg _
      dsimp only
      split
      · exact ⟨by simp, by simp, by simp⟩
      · have given := giveSegment_noFaster seg 0 0
          (reportEmpty k seg (visitLimit seg ((countVisit k seg s).onMg fun g => { g with v := 0 })))
        have stopped : NoFaster s.mg (giveSegment seg 0 0
            (reportEmpty k seg (visitLimit seg ((countVisit k seg s).onMg fun g => { g with v := 0 })))).mg :=
          NoFaster.trans ⟨by simp, by simp, by simp⟩ given
        split
        · exact stopped
        · split
          · exact stopped
          · exact stopped.trans (ih _ _)

theorem passBoundary_noFaster (n c : Nat) (s : State) : NoFaster s.mg (passBoundary n c s).mg := by
  induction n generalizing s with
  | zero => exact .refl _
  | succ n ih =>
    unfold passBoundary
    split
    · exact .refl _
    · rename_i k seg _
      dsimp only
      have given : ∀ before : Int, NoFaster s.mg (giveSegment seg before c (reportEmpty k seg (visitLimit seg
          (countVisit k seg (keepLookAhead k seg s))))).mg := fun before =>
        NoFaster.trans ⟨by simp, by simp, by simp⟩ (giveSegment_noFaster seg before c _)
      split
      · exact given _
      · split
        · exact (given _).trans (ih _)
        · exact (given _).trans ⟨le_refl _, rfl, rfl⟩

theorem nextSegment_noFaster (s : State) : NoFaster s.mg (nextSegment s).1.mg := by
  unfold nextSegment
  split
  · exact .toIdle _
  · rename_i seg _
    have entered := enterAtRest_noFaster entryRounds seg.next s
    split <;> rename_i e <;> rw [e] at entered
    · exact entered
    · exact entered
    · exact entered.trans (.toIdle _)

theorem restEnd_noFaster (s : State) : NoFaster s.mg (restEnd s).1.mg := by
  unfold restEnd
  split
  · exact .toIdle _
  · split
    · exact ⟨Nat.zero_le _, rfl, rfl⟩
    · split
      · split
        · exact ⟨Nat.zero_le _, rfl, rfl⟩
        · exact .toIdle _
      · exact nextSegment_noFaster s

theorem restAfter_noFaster (c : Nat) (s : State) : NoFaster s.mg (restAfter c s).1.mg := by
  unfold restAfter
  split
  · exact restEnd_noFaster s
  · exact .refl _

theorem holdTake_noFaster (s : State) : NoFaster s.mg (holdTake s).1.mg := by
  unfold holdTake enterAwaited
  split
  · exact .toIdle _
  · split
    · exact .refl _
    · rename_i k _
      split
      · have entered := enterAtRest_noFaster entryRounds k s
        split <;> rename_i e <;> rw [e] at entered
        · exact entered
        · exact entered
        · exact entered.trans (.toIdle _)
      · exact .refl _

theorem applyClamp_noFaster (s : State) : NoFaster s.mg (applyClamp s).mg := by
  unfold applyClamp
  split
  · exact .refl _
  · dsimp only [State.onMg]
    split
    · exact ⟨le_refl _, rfl, rfl⟩
    · split <;> exact ⟨le_refl _, rfl, rfl⟩

theorem reduceSpeed_noFaster (s : State) : NoFaster s.mg (reduceSpeed s).mg := by
  unfold reduceSpeed
  split
  · exact ⟨by simp, by simp, by simp⟩
  · split
    · split
      · exact ⟨le_refl _, rfl, rfl⟩
      · exact .refl _
    · exact ⟨le_refl _, rfl, rfl⟩

theorem applyStops_noFaster (l : List StopKind) (s : State) : NoFaster s.mg (applyStops l s).1.mg := by
  have one (k : StopKind) (s : State) : NoFaster s.mg (applyStop k s).1.mg := by
    unfold applyStop
    split
    · split
      all_goals split
      all_goals exact ⟨le_refl _, rfl, rfl⟩
    · exact .toIdle _
    · exact .toIdle _
    all_goals exact .refl _
  induction l generalizing s with
  | nil => exact .refl _
  | cons k l ih =>
    have first := one k s
    unfold applyStops
    split <;> rename_i e <;> rw [e] at first
    · exact first
    · exact first.trans (ih _)

theorem applyMarkStop_noFaster (s : State) : NoFaster s.mg (applyMarkStop s).mg := by
  unfold applyMarkStop
  split
  · dsimp only [State.onMg]
    split <;> exact ⟨le_refl _, rfl, rfl⟩
  · exact .refl _

theorem applyReaim_noFaster (b : Bool) (s : State) : NoFaster s.mg (applyReaim b s).mg := by
  unfold applyReaim
  split
  · exact .refl _
  · dsimp only [State.onMg]
    split <;> exact ⟨le_refl _, rfl, rfl⟩

/-! ## The law through the generator's step -/

/-- R23: the speeds of the generator are within 127. -/
structure SpeedsWithin (g : Mg) : Prop where
  inHand : g.v ≤ 127
  target : g.vt.natAbs ≤ 127
  previous : g.prevVt.natAbs ≤ 127

theorem NoFaster.within {g g' : Mg} (h : NoFaster g g') (law : SpeedsWithin g) : SpeedsWithin g' :=
  ⟨h.inHand.trans law.inHand, h.target ▸ law.target, h.previous ▸ law.previous⟩

theorem SpeedLaw.within (law : SpeedLaw s) : SpeedsWithin s.mg := ⟨law.inHand, law.target, law.previous⟩

theorem handOnSpeed_within {vt : Int} (law : s.mg.v ≤ 127) (bound : vt.natAbs ≤ 127) :
    SpeedsWithin (handOnSpeed vt s).mg := ⟨law, bound, bound⟩

theorem natAbs_dirSign_mul (forward : Bool) (n : Nat) : (dirSign forward * (n : Int)).natAbs = n := by
  cases forward <;> simp [dirSign]

/-- R33: the ramp begins with a speed that was in hand or handed on. -/
theorem applyHalt_within (law : SpeedsWithin s.mg) : SpeedsWithin (applyHalt s).mg := by
  have ramp : s.mg.rampSpeed ≤ 127 := by
    unfold Mg.rampSpeed
    split
    · exact law.inHand
    · exact law.target
    · exact Nat.zero_le _
    · exact Nat.zero_le _
    · exact law.inHand
  unfold applyHalt
  split
  · exact ⟨law.inHand, law.target, law.previous⟩
  · exact ⟨ramp, law.target, law.previous⟩

theorem applyRequests_within (law : SpeedsWithin s.mg) : SpeedsWithin (applyRequests s).1.mg := by
  have marked := (applyMarkStop_noFaster s).within law
  unfold applyRequests
  split
  · exact applyHalt_within law
  · have stopped := (applyStops_noFaster s.mg.pendStops
      ((applyMarkStop s).onMg fun g => { g with pendStops := [] })).within ⟨marked.inHand, marked.target, marked.previous⟩
    dsimp only
    split <;> rename_i e <;> rw [e] at stopped
    · exact stopped
    · exact (applyReaim_noFaster _ _).within stopped

/-- R23: the effective ceiling is at most the global limit. -/
theorem effCeiling_le (ceiling : Nat) (s : State) : effCeiling ceiling s ≤ s.mc.params.globalLimit := by
  unfold effCeiling
  dsimp only
  split <;> omega

/-- R22: the speed chosen is the ceiling's at most, or the slowest in reach of the speed in hand. -/
theorem chooseSpeed_le (s : State) : (chooseSpeed s).1 ≤ max (ceilingNow s) s.mg.v := by
  unfold chooseSpeed
  dsimp only
  split
  · rename_i c fit
    unfold fitSpeed at fit
    obtain ⟨-, below, -, -⟩ := (largest_eq_some_iff _ _ _ _).mp fit
    simp only [State.onMg_mg, Mg.lowerEndSpeed] at below ⊢
    omega
  · simp only [State.onMg_mg, Mg.lowerEndSpeed]
    omega

theorem chooseSpeed_noFaster (s : State) : NoFaster s.mg (chooseSpeed s).2.mg := by
  unfold chooseSpeed
  dsimp only
  split
  · exact ⟨le_refl _, rfl, rfl⟩
  · split <;> exact ⟨le_refl _, rfl, rfl⟩

theorem runPast_within {c : Nat} (law : SpeedsWithin s.mg) (bound : c ≤ 127) :
    SpeedsWithin (runPast c s).2.mg ∧ (runPast c s).1 ≤ 127 := by
  have passed : SpeedsWithin (passBoundary entryRounds c (walkerCommit c s)).mg :=
    (passBoundary_noFaster _ c _).within (by simpa using law)
  have count : passCount c (passBoundary entryRounds c (walkerCommit c s)).mg ≤ 127 := by
    have inHand := passed.inHand
    unfold passCount
    split <;> omega
  exact ⟨⟨count, passed.target, passed.previous⟩, count⟩

theorem runStep_within (params : ParameterLaw s.mc.params) (law : SpeedsWithin s.mg) :
    SpeedsWithin (runStep s).1.mg := by
  have clamped := (applyClamp_noFaster s).within law
  have chosen := (chooseSpeed_noFaster (applyClamp s)).within clamped
  have limit : ceilingNow (applyClamp s) ≤ 127 := by
    refine (effCeiling_le _ _).trans ?_
    obtain ⟨-, -, -, -, -, -, -, h⟩ := params.speeds
    simpa using h
  have count : (chooseSpeed (applyClamp s)).1 ≤ 127 := by
    have h := chooseSpeed_le (applyClamp s)
    have v := clamped.inHand
    omega
  have rested (x : Nat × State) (forward : Bool) (h : SpeedsWithin x.2.mg ∧ x.1 ≤ 127) :
      SpeedsWithin (handOnSpeed (dirSign forward * (x.1 : Int)) (restAfter x.1 x.2).1).mg :=
    handOnSpeed_within ((restAfter_noFaster x.1 x.2).within h.1).inHand (by rw [natAbs_dirSign_mul]; exact h.2)
  unfold runStep
  refine rested (if 0 < (chooseSpeed (applyClamp s)).2.mg.w ∧ (chooseSpeed (applyClamp s)).2.mg.r ≤
    (chooseSpeed (applyClamp s)).1 then runPast (chooseSpeed (applyClamp s)).1 (chooseSpeed (applyClamp s)).2
    else ((chooseSpeed (applyClamp s)).1, runOn (chooseSpeed (applyClamp s)).1 (chooseSpeed (applyClamp s)).2)) _ ?_
  split
  · exact runPast_within chosen count
  · refine ⟨?_, count⟩
    unfold runOn
    simpa using (⟨count, chosen.target, chosen.previous⟩ :
      SpeedsWithin ((chooseSpeed (applyClamp s)).2.mg.commit (chooseSpeed (applyClamp s)).1))

/-- R36, step 4: the creep value moves v_t from its value before toward one of at most the creep speed. -/
theorem settleValues_vt_le (params : ParameterLaw s.mc.params) (previous : s.mg.prevVt.natAbs ≤ 127) :
    (settleValues s).vt.natAbs ≤ 127 := by
  obtain ⟨-, -, -, -, -, creep⟩ := params.accelerations
  have target (pe : Int) : (signI pe * ((min s.mc.params.creep pe.natAbs : Nat) : Int)).natAbs ≤ 8 := by
    have small : min s.mc.params.creep pe.natAbs ≤ 8 := by omega
    unfold signI
    split
    · rw [one_mul, Int.natAbs_natCast]
      exact small
    · split
      · rw [neg_one_mul, Int.natAbs_neg, Int.natAbs_natCast]
        exact small
      · simp
  unfold settleValues
  dsimp only
  generalize hu : (if decide ((s.mg.settle.target - s.mu.p).natAbs ≤ s.mc.params.settleWindow) = true then (0 : Int)
    else signI (s.mg.settle.target - s.mu.p) *
      ((min s.mc.params.creep (s.mg.settle.target - s.mu.p).natAbs : Nat) : Int)) = u
  have near : u.natAbs ≤ 8 := by
    rw [← hu]
    split
    · simp
    · exact target _
  have forth : 0 ≤ ((max (s.mg.motion.elim 0 Motion.accel) s.mc.params.creep : Nat) : Int) := Int.natCast_nonneg _
  generalize ((max (s.mg.motion.elim 0 Motion.accel) s.mc.params.creep : Nat) : Int) = a at forth
  unfold clampI
  split
  · omega
  · split <;> omega

theorem settleStep_within (b : Bool) (params : ParameterLaw s.mc.params) (law : SpeedsWithin s.mg) :
    SpeedsWithin (settleStep b s).1.mg := by
  unfold settleStep
  refine handOnSpeed_within ?_ (settleValues_vt_le params law.previous)
  split
  · split
    · exact ((nextSegment_noFaster _).inHand.trans law.inHand)
    · exact Nat.zero_le _
  · split
    · exact Nat.zero_le _
    · exact law.inHand

theorem rampStep_within (law : SpeedsWithin s.mg) : SpeedsWithin (rampStep s).1.mg := by
  have slower : s.mg.v - s.mg.accel ≤ 127 := (Nat.sub_le _ _).trans law.inHand
  unfold rampStep
  dsimp only
  split
  · exact handOnSpeed_within (Nat.zero_le _) (by simp)
  · exact handOnSpeed_within slower (by rw [natAbs_dirSign_mul]; exact slower)

theorem generatorStep_within (params : ParameterLaw s.mc.params) (law : SpeedsWithin s.mg) :
    SpeedsWithin (generatorStep s).1.mg := by
  have requested := applyRequests_within law
  have reduced : SpeedsWithin (reduceSpeed (applyRequests s).1).mg := (reduceSpeed_noFaster _).within requested
  have params' : ParameterLaw (reduceSpeed (applyRequests s).1).mc.params := by simpa using params
  unfold generatorStep
  split <;> rename_i e <;> rw [e] at reduced params'
  · exact handOnSpeed_within reduced.inHand (by simp)
  · unfold phaseStep
    split
    · exact handOnSpeed_within reduced.inHand (by simp)
    · exact handOnSpeed_within ((holdTake_noFaster _).within reduced).inHand (by simp)
    · exact runStep_within params' reduced
    · exact settleStep_within _ params' reduced
    · exact rampStep_within reduced

/-! ## The law through a step -/

theorem startMotion_speeds (m : Motion) (distance : Int) (s : State) :
    (startMotion m distance s).mg = s.mg ∨ (startMotion m distance s).mg.v = 0 ∧
      (startMotion m distance s).mg.vt = s.mg.vt ∧ (startMotion m distance s).mg.prevVt = 0 := by
  unfold startMotion
  split
  · exact .inr ⟨rfl, rfl, rfl⟩
  · exact .inl rfl

theorem startChain_noFaster (k : Fin 32) (seq : Byte) (b : Bool) (s : State) : NoFaster s.mg (startChain k seq b s).mg := by
  have entered := enterAtRest_noFaster entryRounds k
    (s.onWk fun _ => { Wk.reset with active := true, seq := seq, approachReports := b })
  unfold startChain
  dsimp only
  split <;> rename_i e <;> rw [e] at entered
  · exact entered
  · exact entered
  · exact entered.trans ⟨le_refl _, rfl, rfl⟩

theorem SpeedLaw.path (law : SpeedLaw s) (h : MotionPath s t) : SpeedLaw t := by
  induction h with
  | refl => exact law
  | beside _ step ih =>
    have same := step.requests.same
    have v := congrArg Mg.v same
    have vt := congrArg Mg.vt same
    have prevVt := congrArg Mg.prevVt same
    dsimp only at v vt prevVt
    exact ⟨step.params ih.params, v ▸ ih.inHand, vt ▸ ih.target, prevVt ▸ ih.previous⟩
  | braked _ ih => exact ⟨ih.params, Nat.zero_le _, by simp [Mg.reset], by simp [Mg.reset]⟩
  | @started t m distance _ _ ih =>
    have params : ParameterLaw (startMotion m distance t).mc.params := by simpa using ih.params
    rcases startMotion_speeds m distance t with e | ⟨v, vt, prevVt⟩
    · exact ⟨params, e ▸ ih.inHand, e ▸ ih.target, e ▸ ih.previous⟩
    · exact ⟨params, v ▸ Nat.zero_le _, vt ▸ ih.target, by simp [prevVt]⟩
  | @chained t k seq b _ ih =>
    have params : ParameterLaw (startChainMotion k seq b t).mc.params := by simpa using ih.params
    have within : SpeedsWithin (startChainMotion k seq b t).mg := by
      unfold startChainMotion
      split
      · exact (startChain_noFaster _ _ _ _).within ⟨Nat.zero_le _, ih.target, by simp [Mg.begin, Mg.reset]⟩
      · exact ih.within
    exact ⟨params, within.inHand, within.target, within.previous⟩
  | stepped _ ih =>
    have within := generatorStep_within ih.params ih.within
    exact ⟨by simpa using ih.params, within.inHand, within.target, within.previous⟩

/-- Settles O6: every step is a path of the generator's part of the state, and the law holds along it. -/
theorem speedsStayWithin127 : Obligations.SpeedsStayWithin127 := by
  unfold Obligations.SpeedsStayWithin127
  exact fun _ _ law h => law.path (step_path h)

end Sys2Proof.Machine
end

section
/-! R24: the commanded distance never exceeds its limit. The law is stated of the generator with the count of visits
(`StretchLaw`); each part of the generator's step keeps it, by the rules on segments (R26, R27, R65 to R70), on the choice
of speed (R22, R28) and on the requests (R29 to R33). -/

namespace Sys2Proof.Machine

variable {s t : State}

/-! ## The law of the generator and the count of visits -/

/-- R24, R70: the part of the distance law that speaks of the distances, the end of the stretch and the visits. -/
structure StretchLaw (g : Mg) (n : Nat) : Prop where
  visits : n ≤ 32
  run : g.phase = .run → g.r = g.l - g.d ∧ 0 ≤ g.r ∧ (0 < g.w → g.lookAhead.isSome = true ∧ n < 32)
  ramp : g.phase = .ramp → (brakingDistance g.accel 0 g.v : Int) ≤ g.l - g.d ∧ 1 ≤ g.accel
  rest : g.phase ≠ .run → g.phase ≠ .ramp → g.l = g.d
  visitLeft : (g.phase = .run ∧ g.finalStop = false) ∨ (g.phase = .hold ∧ g.chainEnd = none) ∨
    g.phase = .settle true → n < 32
  missed : g.overrun.isSome = true → g.phase = .run ∧ g.w = 0 ∧
    (g.overrun.any Overrun.boundary = true → g.stopped = false → n < 32)

theorem DistanceLaw.stretch (law : DistanceLaw s) : StretchLaw s.mg s.wk.visits :=
  ⟨law.visits, law.run, law.ramp, law.rest, law.visitLeft, law.missed⟩

theorem StretchLaw.distanceLaw (law : StretchLaw s.mg s.wk.visits) (params : ParameterLaw s.mc.params)
    (speed : s.mg.phase = .run → s.mg.v ≤ s.mg.vt.natAbs) : DistanceLaw s :=
  ⟨params, law.visits, law.run, speed, law.ramp, law.rest, law.visitLeft, law.missed⟩

/-- Outside RUN and RAMP, with no chain that may be asked for a segment, all that was commanded has been given. -/
theorem StretchLaw.still {g : Mg} {n : Nat} (visits : n ≤ 32) (given : g.l = g.d) (overrun : g.overrun = none)
    (phase : g.phase = .idle ∨ g.phase = .settle false ∨ (g.phase = .hold ∧ (g.chainEnd = none → n < 32)) ∨
      (g.phase = .settle true ∧ n < 32)) : StretchLaw g n where
  visits := visits
  run h := by simp [h] at phase
  ramp h := by simp [h] at phase
  rest _ _ := given
  visitLeft h := by
    rcases phase with e | e | ⟨e, left⟩ | ⟨e, left⟩
    · simp [e] at h
    · simp [e] at h
    · simp only [e, reduceCtorEq, false_and, true_and, or_false, false_or] at h
      exact left h
    · exact left
  missed h := by simp [overrun] at h

theorem StretchLaw.idle {g : Mg} {n : Nat} (visits : n ≤ 32) : StretchLaw g.toIdle n := .still visits rfl rfl (.inl rfl)

/-- In RUN: the remaining distance, what a passable boundary needs, the visit left within a chain, and the overrun. -/
theorem StretchLaw.running {g : Mg} {n : Nat} (visits : n ≤ 32) (phase : g.phase = .run) (left : g.r = g.l - g.d)
    (ahead : 0 ≤ g.r) (pass : 0 < g.w → g.lookAhead.isSome = true ∧ n < 32) (inside : g.finalStop = false → n < 32)
    (missed : g.overrun.isSome = true → g.w = 0 ∧
      (g.overrun.any Overrun.boundary = true → g.stopped = false → n < 32)) : StretchLaw g n where
  visits := visits
  run _ := ⟨left, ahead, pass⟩
  ramp h := by simp [phase] at h
  rest h := absurd phase h
  visitLeft h := by
    simp only [phase, reduceCtorEq, true_and, false_and, or_false] at h
    exact inside h
  missed h := ⟨phase, missed h⟩

/-- Of a stretch in RUN within a chain a visit is left. -/
theorem StretchLaw.inside {g : Mg} {n : Nat} (law : StretchLaw g n) (phase : g.phase = .run)
    (more : g.finalStop = false) : n < 32 := law.visitLeft (.inl ⟨phase, more⟩)

/-- R28: an overrun's point was a boundary only where a visit is left. -/
theorem StretchLaw.overrunLeft {g : Mg} {n : Nat} (law : StretchLaw g n) (h : g.overrun.isSome = true) :
    g.w = 0 ∧ (g.overrun.any Overrun.boundary = true → g.stopped = false → n < 32) := (law.missed h).2

/-! ## The braking distance (R22) -/

/-- The first step of a braking is part of its distance. -/
theorem slowest_le_brakingDistance (a v : Nat) : v - a ≤ brakingDistance a 0 v := by
  unfold brakingDistance
  cases v with
  | zero => simp
  | succ n =>
    unfold brakeSteps
    split <;> omega

/-! ## Entering segments (R65 to R70) -/

theorem testApproach_visits (s : State) : (testApproach s).wk.visits = s.wk.visits := by
  unfold testApproach
  split
  · rfl
  · split <;> simp

theorem giveSegment_visits (seg : Segment) (before : Int) (c : Nat) (s : State) :
    (giveSegment seg before c s).wk.visits = s.wk.visits := by
  unfold giveSegment
  dsimp only
  cases handedLast seg s <;> simp [writeEnableAtEntry, testApproach_visits]

/-- The visit is counted once, whatever is reported of it. -/
theorem reportEmpty_visits (k : Fin 32) (seg : Segment) (s : State) :
    (reportEmpty k seg (visitLimit seg s)).wk.visits = s.wk.visits := by
  unfold reportEmpty visitLimit
  split <;> split <;> simp

theorem handedLast_congr {seg : Segment} (h : t.wk.visits = s.wk.visits) : handedLast seg t = handedLast seg s := by
  unfold handedLast
  rw [h]

/-- R25: an end speed above 0 comes with the copy of the next segment. -/
theorem lookAhead_copy {seg : Segment} (h : 0 < (lookAhead seg s).1) : (lookAhead seg s).2.1.isSome = true := by
  unfold lookAhead at h ⊢
  split
  · rename_i e
    simp [e] at h
  · rename_i n e
    simp only [e] at h
    split
    · rename_i c
      simp [c] at h
    · rename_i c
      simp only [c] at h
      dsimp only at h ⊢
      split
      · rename_i z
        simp [z] at h
      · rfl

/-- R26, R65, R70: a segment handed over leaves the law, where the distance before it is the stretch's remaining one and
no point has been missed. -/
theorem giveSegment_stretch {seg : Segment} {before : Int} (c : Nat) (visits : s.wk.visits ≤ 32)
    (left : before = s.mg.l - s.mg.d) (ahead : 0 ≤ before) (overrun : s.mg.overrun = none) :
    StretchLaw (giveSegment seg before c s).mg s.wk.visits := by
  have total : 0 ≤ before + seg.distance := by omega
  cases last : handedLast seg s
  · rw [giveSegment_mg_of_more _ _ last]
    have notLast : s.wk.visits ≠ 32 := by
      unfold handedLast Config.visitMax at last
      simp at last
      exact last.2
    have more : s.wk.visits < 32 := by omega
    refine .running visits rfl ?_ total (fun h => ⟨lookAhead_copy h, more⟩) (fun _ => more) (fun h => ?_)
    · simp only [Mg.given]
      omega
    · simp [Mg.given, overrun] at h
  · rw [giveSegment_mg_of_last _ _ last]
    refine .running visits rfl ?_ total (fun h => ?_) (fun h => ?_) (fun h => ?_)
    · simp only [Mg.given]
      omega
    · simp [Mg.given] at h
    · simp [Mg.given] at h
    · simp [Mg.given, overrun] at h

theorem giveSegment_fields (seg : Segment) (before : Int) (c : Nat) (s : State) :
    (giveSegment seg before c s).mg.phase = .run ∧ (giveSegment seg before c s).mg.l = s.mg.l + seg.distance ∧
      (giveSegment seg before c s).mg.d = s.mg.d ∧ (giveSegment seg before c s).mg.overrun = s.mg.overrun ∧
      (giveSegment seg before c s).mg.r = before + seg.distance ∧
      (giveSegment seg before c s).mg.chainEnd = s.mg.chainEnd := by
  cases last : handedLast seg s
  · rw [giveSegment_mg_of_more _ _ last]
    exact ⟨rfl, rfl, rfl, rfl, rfl, rfl⟩
  · rw [giveSegment_mg_of_last _ _ last]
    exact ⟨rfl, rfl, rfl, rfl, rfl, rfl⟩

/-- What the walker is asked for a segment with: all that was commanded has been given, and no point was missed. -/
structure Asked (s : State) : Prop where
  given : s.mg.l = s.mg.d
  overrun : s.mg.overrun = none

/-- What an entry at rest leaves: the law with no speed in hand, or, where the chain ends, a motion whose distance is
given. -/
structure Entered (e : Entry) (s : State) : Prop where
  visits : s.wk.visits ≤ 32
  entered : e = .entered ∨ e = .waiting → StretchLaw s.mg s.wk.visits ∧ (s.mg.phase = .run → s.mg.v = 0)
  ended : ∀ reason, e = .ended reason → Asked s

theorem awaitEntry_entered {k : Fin 32} (asked : Asked s) (left : s.wk.visits < 32) :
    Entered .waiting (awaitEntry k s) := by
  have mg : (awaitEntry k s).mg = { s.mg with phase := .hold } := by simp [awaitEntry]
  have wk : (awaitEntry k s).wk.visits = s.wk.visits := by simp [awaitEntry]
  refine ⟨by omega, fun _ => ⟨?_, fun run => by simp [mg] at run⟩, fun _ e => by cases e⟩
  rw [mg, wk]
  exact .still left.le asked.given asked.overrun (.inr (.inr (.inl ⟨rfl, fun _ => left⟩)))

/-- R27, R65, R67 to R70: an entry at rest. -/
theorem enterAtRest_entered (n : Nat) (k : Fin 32) (asked : Asked s) (left : s.wk.visits < 32) :
    Entered (enterAtRest n k s).2 (enterAtRest n k s).1 := by
  induction n generalizing k s with
  | zero => exact awaitEntry_entered asked left
  | succ n ih =>
    unfold enterAtRest
    split
    · exact awaitEntry_entered asked left
    · rename_i seg _
      have counted : (countVisit k seg s).wk.visits = s.wk.visits + 1 := rfl
      dsimp only
      split
      · exact ⟨by simpa [counted] using left, fun h => by simp at h,
          fun _ _ => ⟨by simpa using asked.given, by simpa using asked.overrun⟩⟩
      · have visits : (reportEmpty k seg (visitLimit seg ((countVisit k seg s).onMg fun g => { g with v := 0 }))).wk.visits =
            s.wk.visits + 1 := by rw [reportEmpty_visits]; exact counted
        have mg : (reportEmpty k seg (visitLimit seg ((countVisit k seg s).onMg fun g => { g with v := 0 }))).mg =
            { s.mg with v := 0 } := by simp
        generalize reportEmpty k seg (visitLimit seg ((countVisit k seg s).onMg fun g => { g with v := 0 })) = u
          at visits mg ⊢
        have law : StretchLaw (giveSegment seg 0 0 u).mg (giveSegment seg 0 0 u).wk.visits := by
          have given := asked.given
          rw [giveSegment_visits]
          refine giveSegment_stretch 0 (by omega) ?_ (le_refl _) (by rw [mg]; exact asked.overrun)
          rw [mg]
          dsimp only
          omega
        have still : (giveSegment seg 0 0 u).mg.v = 0 := by
          have v := (giveSegment_noFaster seg 0 0 u).inHand
          rw [mg] at v
          exact Nat.le_zero.mp v
        obtain ⟨-, l, d, overrun, -, -⟩ := giveSegment_fields seg 0 0 u
        split
        · exact ⟨law.visits, fun _ => ⟨law, fun _ => still⟩, fun _ e => by cases e⟩
        · rename_i empty
          have empty : seg.distance = 0 := not_not.mp empty
          have again : Asked (giveSegment seg 0 0 u) := by
            have given := asked.given
            refine ⟨?_, ?_⟩
            · rw [l, d, mg]
              dsimp only
              omega
            · rw [overrun, mg]
              exact asked.overrun
          split
          · exact ⟨law.visits, fun h => by simp at h, fun _ _ => again⟩
          · rename_i more
            refine ih seg.next again ?_
            have notLast : handedLast seg u = false := by
              rw [← handedLast_congr (giveSegment_visits seg 0 0 u)]
              simpa using more
            unfold handedLast Config.visitMax at notLast
            simp at notLast
            have atMost := law.visits
            rw [giveSegment_visits] at atMost ⊢
            omega

/-! ## The rests (R27, R28, R35) -/

theorem nextSegment_stretch (asked : Asked s) (left : s.wk.visits < 32) :
    StretchLaw (nextSegment s).1.mg (nextSegment s).1.wk.visits ∧
      ((nextSegment s).1.mg.phase = .run → (nextSegment s).1.mg.v = 0) := by
  unfold nextSegment
  split
  · exact ⟨.idle left.le, fun h => by simp [Mg.toIdle, Mg.reset] at h⟩
  · rename_i seg _
    have entered := enterAtRest_entered entryRounds seg.next asked left
    split <;> rename_i e <;> rw [e] at entered
    · exact entered.entered (.inl rfl)
    · exact entered.entered (.inr rfl)
    · exact ⟨.idle entered.visits, fun h => by simp [Mg.toIdle, Mg.reset] at h⟩

/-- R27, R28, R35: the period of rest at the end of a stretch. -/
theorem restEnd_stretch (law : StretchLaw s.mg s.wk.visits) (phase : s.mg.phase = .run) (rest : s.mg.r = 0) :
    StretchLaw (restEnd s).1.mg (restEnd s).1.wk.visits := by
  obtain ⟨left, -, -⟩ := law.run phase
  have given : s.mg.l = s.mg.d := by omega
  unfold restEnd
  split
  · exact .idle law.visits
  · rename_i unstopped
    split
    · rename_i o past
      refine .still law.visits given rfl ?_
      obtain ⟨point, boundary⟩ := o
      cases boundary
      · exact .inr (.inl rfl)
      · refine .inr (.inr (.inr ⟨rfl, ?_⟩))
        exact (law.overrunLeft (by simp [past])).2 (by simp [past]) (by simpa using unstopped)
    · rename_i noOverrun
      split
      · split
        · exact .still law.visits given rfl (.inr (.inl rfl))
        · exact .idle law.visits
      · rename_i more
        exact (nextSegment_stretch ⟨given, noOverrun⟩ (law.inside phase (by simpa using more))).1

/-! ## The choice and the commit (R22, R26, R28, R32) -/

/-- R22: counts within the remaining distance are committed. -/
theorem StretchLaw.commit {g : Mg} {n c : Nat} (law : StretchLaw g n) (phase : g.phase = .run) (fits : (c : Int) ≤ g.r) :
    StretchLaw (g.commit c) n := by
  obtain ⟨left, -, pass⟩ := law.run phase
  refine .running law.visits phase ?_ ?_ pass (law.inside phase) law.overrunLeft
  · simp only [Mg.commit]
    omega
  · simp only [Mg.commit]
    omega

/-- R28: an overrun begun where no boundary may be passed. -/
theorem StretchLaw.beginOverrun {g : Mg} {n : Nat} (law : StretchLaw g n) (phase : g.phase = .run) :
    StretchLaw g.beginOverrun n := by
  refine .running law.visits phase ?_ (Int.natCast_nonneg _) (fun h => ?_) (law.inside phase) fun _ => ⟨rfl, fun b _ => ?_⟩
  · simp only [Mg.beginOverrun]
    omega
  · simp [Mg.beginOverrun] at h
  · exact law.inside phase (by simpa [Mg.beginOverrun] using b)

theorem applyClamp_phase (s : State) : (applyClamp s).mg.phase = s.mg.phase := by
  unfold applyClamp
  split
  · rfl
  · dsimp only [State.onMg]
    split
    · rfl
    · split <;> rfl

theorem applyClamp_stretch (law : StretchLaw s.mg s.wk.visits) (phase : s.mg.phase = .run) :
    StretchLaw (applyClamp s).mg s.wk.visits := by
  obtain ⟨left, ahead, -⟩ := law.run phase
  unfold applyClamp
  split
  · exact law
  · dsimp only [State.onMg]
    split
    · exact .running law.visits phase left ahead (fun h => by simp at h) (law.inside phase)
        fun h => ⟨rfl, (law.overrunLeft h).2⟩
    · split
      · rename_i reach
        refine .running law.visits phase ?_ reach.2 (fun h => by simp at h) (fun h => by simp at h)
          fun h => ⟨rfl, (law.overrunLeft h).2⟩
        dsimp only
        omega
      · refine .running law.visits phase ?_ (Int.natCast_nonneg _) (fun h => by simp at h) (fun h => by simp at h)
          fun _ => ⟨rfl, fun h => by simp at h⟩
        dsimp only
        omega

/-- R22, R25, R28: the choice keeps the law, and where no boundary may be passed it fits. -/
theorem chooseSpeed_stretch (law : StretchLaw s.mg s.wk.visits) (phase : s.mg.phase = .run) :
    (chooseSpeed s).2.mg.phase = .run ∧ StretchLaw (chooseSpeed s).2.mg s.wk.visits ∧
      ((chooseSpeed s).2.mg.w = 0 → ((chooseSpeed s).1 : Int) ≤ (chooseSpeed s).2.mg.r) := by
  obtain ⟨left, ahead, pass⟩ := law.run phase
  have lowered : StretchLaw (s.mg.lowerEndSpeed (ceilingNow s)) s.wk.visits := by
    refine .running law.visits phase left ahead (fun h => pass ?_) (law.inside phase) fun h => ?_
    · simp only [Mg.lowerEndSpeed] at h
      omega
    · obtain ⟨w, boundary⟩ := law.overrunLeft h
      exact ⟨by simp [Mg.lowerEndSpeed, w], boundary⟩
  unfold chooseSpeed
  dsimp only
  split
  · rename_i c fit
    refine ⟨phase, lowered, fun _ => ?_⟩
    unfold fitSpeed at fit
    obtain ⟨-, -, fits, -⟩ := (largest_eq_some_iff _ _ _ _).mp fit
    have fits := of_decide_eq_true fits
    dsimp only at fits ⊢
    omega
  · split
    · refine ⟨phase, lowered.beginOverrun phase, fun _ => ?_⟩
      exact Int.ofNat_le.mpr (slowest_le_brakingDistance _ _)
    · rename_i open_
      exact ⟨phase, lowered, fun h => absurd h open_⟩

/-- R26, R28: what the passing of a boundary leaves before the commit: the counts then fit. -/
structure Passed (c : Nat) (s : State) : Prop where
  run : s.mg.phase = .run
  law : StretchLaw s.mg s.wk.visits
  fits : (passCount c s.mg : Int) ≤ s.mg.r

/-- R26, R28, R70: a boundary may be passed while visits are left, so the rounds suffice. -/
theorem passBoundary_passed (n c : Nat) (law : StretchLaw s.mg s.wk.visits) (run : s.mg.phase = .run)
    (passes : 0 < s.mg.w) (rounds : 33 ≤ n + s.wk.visits) : Passed c (passBoundary n c s) := by
  induction n generalizing s with
  | zero =>
    obtain ⟨-, -, pass⟩ := law.run run
    have left := (pass passes).2
    omega
  | succ n ih =>
    obtain ⟨left, ahead, pass⟩ := law.run run
    obtain ⟨copy, visit⟩ := pass passes
    have overrun : s.mg.overrun = none := by
      cases h : s.mg.overrun with
      | none => rfl
      | some o =>
        have closed := (law.overrunLeft (by simp [h])).1
        omega
    unfold passBoundary
    split
    · rename_i none_
      simp [none_] at copy
    · rename_i k seg _
      dsimp only
      have visits : (reportEmpty k seg (visitLimit seg (countVisit k seg (keepLookAhead k seg s)))).wk.visits =
          s.wk.visits + 1 := by
        rw [reportEmpty_visits]
        change (keepLookAhead k seg s).wk.visits + 1 = _
        simp
      have mg : (reportEmpty k seg (visitLimit seg (countVisit k seg (keepLookAhead k seg s)))).mg = s.mg := by simp
      generalize reportEmpty k seg (visitLimit seg (countVisit k seg (keepLookAhead k seg s))) = u at visits mg ⊢
      rw [mg]
      have given : StretchLaw (giveSegment seg s.mg.r c u).mg (giveSegment seg s.mg.r c u).wk.visits := by
        rw [giveSegment_visits]
        refine giveSegment_stretch c (by omega) ?_ ahead (by rw [mg]; exact overrun)
        rw [mg]
        exact left
      obtain ⟨run', -, -, overrun', r', -⟩ := giveSegment_fields seg s.mg.r c u
      rw [mg, overrun] at overrun'
      split
      · rename_i room
        refine ⟨run', given, ?_⟩
        have count : passCount c (giveSegment seg s.mg.r c u).mg = c := by simp [passCount, overrun']
        rw [count]
        exact room.le
      · split
        · rename_i more
          exact ih given run' more (by rw [giveSegment_visits]; omega)
        · refine ⟨run', given.beginOverrun run', ?_⟩
          exact Int.ofNat_le.mpr (slowest_le_brakingDistance _ _)

/-- R27, R28: after the commit the stretch goes on, or its rest is taken. -/
theorem restAfter_stretch (c : Nat) (law : StretchLaw s.mg s.wk.visits) (run : s.mg.phase = .run) :
    StretchLaw (restAfter c s).1.mg (restAfter c s).1.wk.visits := by
  obtain ⟨-, ahead, -⟩ := law.run run
  unfold restAfter
  split
  · rename_i rest
    exact restEnd_stretch law run (by omega)
  · exact law

theorem walkerCommit_visits (c : Nat) (s : State) : (walkerCommit c s).wk.visits = s.wk.visits := by
  unfold walkerCommit
  split
  · rw [testApproach_visits]
    rfl
  · rfl

/-- What a commit leaves: the law with the counts in hand. -/
structure Committed (x : Nat × State) : Prop where
  run : x.2.mg.phase = .run
  law : StretchLaw x.2.mg x.2.wk.visits
  inHand : x.2.mg.v = x.1

theorem runPast_committed {c : Nat} (law : StretchLaw s.mg s.wk.visits) (run : s.mg.phase = .run)
    (passes : 0 < s.mg.w) : Committed (runPast c s) := by
  have passed : Passed c (passBoundary entryRounds c (walkerCommit c s)) :=
    passBoundary_passed _ c (by simpa [walkerCommit_visits] using law) (by simpa using run) (by simpa using passes)
      (by simp only [entryRounds, Config.visitMax]; omega)
  exact ⟨passed.run, passed.law.commit passed.run passed.fits, rfl⟩

theorem runOn_committed {c : Nat} (law : StretchLaw s.mg s.wk.visits) (run : s.mg.phase = .run)
    (fits : (c : Int) ≤ s.mg.r) : Committed (c, runOn c s) := by
  have mg : (runOn c s).mg = s.mg.commit c := by simp [runOn]
  have visits : (runOn c s).wk.visits = s.wk.visits := walkerCommit_visits _ _
  refine ⟨?_, ?_, ?_⟩
  · rw [mg]
    exact run
  · rw [mg, visits]
    exact law.commit run fits
  · rw [mg]
    rfl

/-! ## The phases' steps -/

/-- The law with the speed in hand at most this magnitude, as a phase's step hands it on. -/
theorem handOnSpeed_distanceLaw {vt : Int} (law : StretchLaw s.mg s.wk.visits) (params : ParameterLaw s.mc.params)
    (speed : s.mg.phase = .run → s.mg.v ≤ vt.natAbs) : DistanceLaw (handOnSpeed vt s) :=
  StretchLaw.distanceLaw (s := handOnSpeed vt s)
    ⟨law.visits, law.run, law.ramp, law.rest, law.visitLeft, law.missed⟩ params speed

theorem runStep_distanceLaw (law : DistanceLaw s) (run : s.mg.phase = .run) : DistanceLaw (runStep s).1 := by
  have clamped := applyClamp_stretch law.stretch run
  have clampedRun : (applyClamp s).mg.phase = .run := (applyClamp_phase s).trans run
  have visits : (applyClamp s).wk.visits = s.wk.visits := by simp
  rw [← visits] at clamped
  obtain ⟨chosenRun, chosen, fits⟩ := chooseSpeed_stretch clamped clampedRun
  have visits' : (chooseSpeed (applyClamp s)).2.wk.visits = (applyClamp s).wk.visits := by simp
  rw [← visits'] at chosen
  have rested (x : Nat × State) (forward : Bool) (params : ParameterLaw x.2.mc.params) (h : Committed x) :
      DistanceLaw (handOnSpeed (dirSign forward * (x.1 : Int)) (restAfter x.1 x.2).1) := by
    refine handOnSpeed_distanceLaw (restAfter_stretch x.1 h.law h.run) (by simpa using params) fun _ => ?_
    rw [natAbs_dirSign_mul]
    exact (restAfter_noFaster x.1 x.2).inHand.trans h.inHand.le
  unfold runStep
  refine rested (if 0 < (chooseSpeed (applyClamp s)).2.mg.w ∧ (chooseSpeed (applyClamp s)).2.mg.r ≤
    (chooseSpeed (applyClamp s)).1 then runPast (chooseSpeed (applyClamp s)).1 (chooseSpeed (applyClamp s)).2
    else ((chooseSpeed (applyClamp s)).1, runOn (chooseSpeed (applyClamp s)).1 (chooseSpeed (applyClamp s)).2)) _ ?_ ?_
  · have params := law.params
    split <;> simpa using params
  · split
    · rename_i past
      exact runPast_committed chosen chosenRun past.1
    · rename_i on
      refine runOn_committed chosen chosenRun ?_
      by_cases w : (chooseSpeed (applyClamp s)).2.mg.w = 0
      · exact fits w
      · omega

/-- Outside RUN no point is missed. -/
theorem DistanceLaw.noOverrun (law : DistanceLaw s) (phase : s.mg.phase ≠ .run) : s.mg.overrun = none := by
  cases h : s.mg.overrun with
  | none => rfl
  | some o => exact absurd (law.missed (by simp [h])).1 phase

theorem holdStep_distanceLaw (law : DistanceLaw s) (hold : s.mg.phase = .hold) : DistanceLaw (holdStep s).1 := by
  have given : s.mg.l = s.mg.d := law.rest (by simp [hold]) (by simp [hold])
  have overrun := law.noOverrun (by simp [hold])
  have taken : StretchLaw (holdTake s).1.mg (holdTake s).1.wk.visits ∧
      ((holdTake s).1.mg.phase = .run → (holdTake s).1.mg.v = 0) := by
    unfold holdTake enterAwaited
    split
    · exact ⟨.idle law.visits, fun h => by simp [Mg.toIdle, Mg.reset] at h⟩
    · rename_i noEnd
      have left : s.wk.visits < 32 := law.visitLeft (.inr (.inl ⟨hold, noEnd⟩))
      have same : StretchLaw s.mg s.wk.visits ∧ (s.mg.phase = .run → s.mg.v = 0) :=
        ⟨law.stretch, fun h => by simp [hold] at h⟩
      split
      · exact same
      · rename_i k _
        split
        · have entered := enterAtRest_entered entryRounds k ⟨given, overrun⟩ left
          split <;> rename_i e <;> rw [e] at entered
          · exact entered.entered (.inl rfl)
          · exact entered.entered (.inr rfl)
          · exact ⟨.idle entered.visits, fun h => by simp [Mg.toIdle, Mg.reset] at h⟩
        · exact same
  refine handOnSpeed_distanceLaw (s := (holdTake s).1) taken.1 ?_ fun h => ?_
  · have params := law.params
    simpa using params
  · rw [taken.2 h]
    exact Nat.zero_le _

theorem settleStep_distanceLaw {b : Bool} (law : DistanceLaw s) (settle : s.mg.phase = .settle b) :
    DistanceLaw (settleStep b s).1 := by
  have given : s.mg.l = s.mg.d := law.rest (by simp [settle]) (by simp [settle])
  have overrun := law.noOverrun (by simp [settle])
  have left : b = true → s.wk.visits < 32 := fun h => law.visitLeft (.inr (.inr (h ▸ settle)))
  have params := law.params
  unfold settleStep
  dsimp only
  split
  · split
    · rename_i boundary
      obtain ⟨next, still⟩ :=
        nextSegment_stretch (s := s.onMg fun g => { g with q := g.settle.target }) ⟨given, overrun⟩ (left boundary)
      refine handOnSpeed_distanceLaw next (by simpa using params) fun h => ?_
      rw [still h]
      exact Nat.zero_le _
    · exact handOnSpeed_distanceLaw (.idle law.visits) params fun h => by simp [Mg.toIdle, Mg.reset] at h
  · split
    · exact handOnSpeed_distanceLaw (.idle law.visits) params fun h => by simp [Mg.toIdle, Mg.reset] at h
    · refine handOnSpeed_distanceLaw ?_ params fun h => by simp [settle] at h
      refine .still law.visits given overrun ?_
      cases b
      · exact .inr (.inl settle)
      · exact .inr (.inr (.inr ⟨settle, left rfl⟩))

/-- R33: each step of the ramp covers the rest of its braking distance. -/
theorem rampStep_distanceLaw (law : DistanceLaw s) (ramp : s.mg.phase = .ramp) : DistanceLaw (rampStep s).1 := by
  obtain ⟨covers, positive⟩ := law.ramp ramp
  rw [brakingDistance_eq 0 positive] at covers
  unfold rampStep
  dsimp only
  split
  · exact handOnSpeed_distanceLaw (.idle law.visits) law.params fun h => by simp [Mg.toIdle, Mg.reset] at h
  · rename_i moving
    rw [if_neg (by omega)] at covers
    refine handOnSpeed_distanceLaw ?_ law.params fun h => by simp [ramp] at h
    refine ⟨law.visits, fun h => by simp [ramp] at h, fun _ => ⟨?_, positive⟩, fun _ h => absurd ramp h,
      fun h => by simp [ramp] at h, fun h => ?_⟩
    · dsimp only [State.onMg]
      push_cast at covers ⊢
      omega
    · simp [law.noOverrun (by simp [ramp])] at h

/-! ## The requests (R29 to R31, R33) -/

/-- R33: the ramp's speed in hand is at most the one whose stopping distance is allowed. -/
theorem rampSpeed_le_rampReach (law : DistanceLaw s) (phase : s.mg.phase ≠ .ramp) :
    s.mg.rampSpeed ≤ s.mg.rampReach := by
  unfold Mg.rampSpeed Mg.rampReach
  split <;> rename_i h
  · simpa [h] using law.speed h
  · simp [h]
  · exact Nat.zero_le _
  · exact Nat.zero_le _
  · exact absurd h phase

theorem applyHalt_distanceLaw (law : DistanceLaw s) : DistanceLaw (applyHalt s) := by
  obtain ⟨-, -, positive, -⟩ := law.params.accelerations
  unfold applyHalt
  split
  · exact StretchLaw.distanceLaw ⟨law.visits, law.run, law.ramp, law.rest, law.visitLeft, law.missed⟩ law.params law.speed
  · rename_i phase
    refine StretchLaw.distanceLaw ⟨law.visits, fun h => by simp at h, fun _ => ⟨?_, positive⟩,
      fun _ h => absurd rfl h, fun h => by simp at h, fun h => by simp [Mg.toIdle, Mg.reset] at h⟩ law.params
      fun h => by simp at h
    have mono := brakingDistance_mono 0 positive (rampSpeed_le_rampReach law phase)
    dsimp only [State.onMg]
    omega

/-- R29, R30, R31: a stretch that ends where the motion can brake to rest. -/
theorem StretchLaw.braking {g g' : Mg} {n : Nat} (law : StretchLaw g n) (phase : g.phase = .run)
    (phase' : g'.phase = .run) (left : g'.r = g'.l - g'.d) (ahead : 0 ≤ g'.r) (closed : g'.w = 0)
    (inside : g'.finalStop = false → g.finalStop = false)
    (missed : g'.overrun = none ∨ g'.overrun = g.overrun ∧ (g'.stopped = false → g.stopped = false)) :
    StretchLaw g' n := by
  refine .running law.visits phase' left ahead (fun h => by omega) (fun h => law.inside phase (inside h)) fun h => ⟨closed, ?_⟩
  rcases missed with e | ⟨e, stopped⟩
  · simp [e] at h
  · rw [e] at h ⊢
    exact fun b u => (law.overrunLeft h).2 b (stopped u)

theorem applyStop_stretch (k : StopKind) (law : StretchLaw s.mg s.wk.visits) :
    StretchLaw (applyStop k s).1.mg s.wk.visits := by
  have stops (a : Nat) (e : Bool) (run : s.mg.phase = .run) : StretchLaw (s.mg.stopAt a e) s.wk.visits :=
    law.braking run run (by simp only [Mg.stopAt]; omega) (Int.natCast_nonneg _) rfl (fun h => by simp [Mg.stopAt] at h)
      (.inr ⟨rfl, fun h => by simp [Mg.stopAt] at h⟩)
  unfold applyStop
  split <;> rename_i phase
  · cases k <;> dsimp only <;> split
    · exact law
    · exact stops _ _ phase
    · exact law
    · exact stops _ _ phase
  · exact .idle law.visits
  · exact .idle law.visits
  · exact law
  · exact law

theorem applyStop_end {k : StopKind} {e : MotionEnd} (h : (applyStop k s).2 = some e) :
    (applyStop k s).1.mg.phase = .idle := by
  unfold applyStop at h ⊢
  split
  · rename_i run
    simp only [run] at h
    cases k <;> dsimp only at h <;> split at h <;> cases h
  · rfl
  · rfl
  · rename_i idle
    simp [idle] at h
  · rename_i ramp
    simp [ramp] at h

theorem applyStop_wk (k : StopKind) (s : State) : (applyStop k s).1.wk = s.wk := by simp

/-- R29: the stops keep the law, and where one ends the motion the generator is IDLE. -/
theorem applyStops_stretch (l : List StopKind) (law : StretchLaw s.mg s.wk.visits) :
    StretchLaw (applyStops l s).1.mg s.wk.visits ∧
      (∀ e, (applyStops l s).2 = some e → (applyStops l s).1.mg.phase = .idle) := by
  induction l generalizing s with
  | nil => exact ⟨law, fun _ h => by simp [applyStops] at h⟩
  | cons k l ih =>
    have first := applyStop_stretch k law
    have ended := @applyStop_end s k
    have wk := applyStop_wk k s
    unfold applyStops
    split <;> rename_i e <;> rw [e] at first ended wk
    · exact ⟨first, fun _ _ => ended rfl⟩
    · dsimp only at first wk
      rw [← wk] at first ⊢
      exact ih first

theorem applyMarkStop_stretch (law : StretchLaw s.mg s.wk.visits) : StretchLaw (applyMarkStop s).mg s.wk.visits := by
  unfold applyMarkStop
  split
  · dsimp only [State.onMg]
    split
    · rename_i run
      exact law.braking run run (by dsimp only; omega) (Int.natCast_nonneg _) rfl id (.inr ⟨rfl, id⟩)
    · exact ⟨law.visits, law.run, law.ramp, law.rest, law.visitLeft, law.missed⟩
  · exact law

theorem applyReaim_stretch (b : Bool) (law : StretchLaw s.mg s.wk.visits) : StretchLaw (applyReaim b s).mg s.wk.visits := by
  unfold applyReaim
  split
  · exact law
  · dsimp only [State.onMg]
    split
    · rename_i run
      refine law.braking run.1 run.1 (by dsimp only; omega) ?_ rfl id (.inl rfl)
      exact (Int.natCast_nonneg _).trans (le_max_right _ _)
    · exact ⟨law.visits, law.run, law.ramp, law.rest, law.visitLeft, law.missed⟩

/-- A stop in force leaves RUN only for IDLE. -/
theorem applyStops_run (l : List StopKind) (h : (applyStops l s).1.mg.phase = .run) : s.mg.phase = .run := by
  have one (k : StopKind) (s : State) (h : (applyStop k s).1.mg.phase = .run) : s.mg.phase = .run := by
    unfold applyStop at h
    split at h
    · assumption
    · simp [Mg.toIdle, Mg.reset] at h
    · simp [Mg.toIdle, Mg.reset] at h
    · exact h
    · exact h
  induction l generalizing s with
  | nil => exact h
  | cons k l ih =>
    have first := one k s
    unfold applyStops at h
    split at h <;> rename_i e <;> rw [e] at first
    · exact first h
    · exact first (ih h)

theorem applyMarkStop_phase (s : State) : (applyMarkStop s).mg.phase = s.mg.phase := by
  unfold applyMarkStop
  split
  · dsimp only [State.onMg]
    split <;> rfl
  · rfl

theorem applyReaim_phase (b : Bool) (s : State) : (applyReaim b s).mg.phase = s.mg.phase := by
  unfold applyReaim
  split
  · rfl
  · dsimp only [State.onMg]
    split <;> rfl

/-- In RUN the speed in hand stays within the speed handed on where neither grows. -/
theorem NoFaster.speed {g g' : Mg} (h : NoFaster g g') (law : g.phase = .run → g.v ≤ g.vt.natAbs)
    (run : g'.phase = .run → g.phase = .run) : g'.phase = .run → g'.v ≤ g'.vt.natAbs := fun e => by
  rw [h.target]
  exact h.inHand.trans (law (run e))

/-- The requests keep the law, and where one ends the motion the generator is IDLE. -/
theorem applyRequests_distanceLaw (law : DistanceLaw s) : DistanceLaw (applyRequests s).1 ∧
    (∀ e, (applyRequests s).2 = some e → (applyRequests s).1.mg.phase = .idle) := by
  have visits : ((applyMarkStop s).onMg fun g => { g with pendStops := [] }).wk.visits = s.wk.visits := by simp
  have marked : StretchLaw ((applyMarkStop s).onMg fun g => { g with pendStops := [] }).mg s.wk.visits :=
    have m := applyMarkStop_stretch law.stretch
    ⟨m.visits, m.run, m.ramp, m.rest, m.visitLeft, m.missed⟩
  have slower : NoFaster s.mg ((applyMarkStop s).onMg fun g => { g with pendStops := [] }).mg :=
    have m := applyMarkStop_noFaster s
    ⟨m.inHand, m.target, m.previous⟩
  have speed := slower.speed law.speed fun e => (applyMarkStop_phase s) ▸ e
  have params : ParameterLaw ((applyMarkStop s).onMg fun g => { g with pendStops := [] }).mc.params := by
    simpa using law.params
  unfold applyRequests
  split
  · exact ⟨applyHalt_distanceLaw law, fun _ h => by cases h⟩
  · dsimp only
    generalize (applyMarkStop s).onMg (fun g => { g with pendStops := [] }) = u at visits marked speed params ⊢
    rw [← visits] at marked
    obtain ⟨stopped, ended⟩ := applyStops_stretch s.mg.pendStops marked
    have slower := applyStops_noFaster s.mg.pendStops u
    have run := applyStops_run (s := u) s.mg.pendStops
    have wk : (applyStops s.mg.pendStops u).1.wk = u.wk := by simp
    have mc : (applyStops s.mg.pendStops u).1.mc = u.mc := by simp
    rw [← wk] at stopped
    rw [← mc] at params
    split <;> rename_i e <;> rw [e] at stopped ended slower run params
    · exact ⟨stopped.distanceLaw params (slower.speed speed run), fun _ _ => ended _ rfl⟩
    · refine ⟨StretchLaw.distanceLaw ?_ (by simpa using params) ?_, fun _ h => by cases h⟩
      · simpa using applyReaim_stretch (!s.mg.pendStops.isEmpty) stopped
      · exact (applyReaim_noFaster _ _).speed (slower.speed speed run) fun h => applyReaim_phase _ _ ▸ h

/-! ## The step of the generator, and the law through a step -/

/-- R37: the speed reduction sets the reduction ceiling and the saturation run only. -/
theorem reduceSpeed_mg (s : State) : ∃ c n, (reduceSpeed s).mg = { s.mg with reduction := c, satRun := n } := by
  unfold reduceSpeed
  split
  · exact ⟨some (halved s), 0, by simp⟩
  · split
    · split
      · exact ⟨_, _, rfl⟩
      · exact ⟨_, _, rfl⟩
    · exact ⟨_, _, rfl⟩

theorem reduceSpeed_distanceLaw (law : DistanceLaw s) : DistanceLaw (reduceSpeed s) := by
  obtain ⟨c, n, mg⟩ := reduceSpeed_mg s
  refine StretchLaw.distanceLaw ?_ (by simpa using law.params) (by rw [mg]; exact law.speed)
  have wk : (reduceSpeed s).wk = s.wk := by simp
  rw [mg, wk]
  exact ⟨law.visits, law.run, law.ramp, law.rest, law.visitLeft, law.missed⟩

theorem generatorStep_distanceLaw (law : DistanceLaw s) : DistanceLaw (generatorStep s).1 := by
  obtain ⟨requested, ended⟩ := applyRequests_distanceLaw law
  unfold generatorStep
  split <;> rename_i e <;> rw [e] at requested ended
  · rename_i u _
    have reduced := reduceSpeed_distanceLaw requested
    obtain ⟨c, n, mg⟩ := reduceSpeed_mg u
    refine handOnSpeed_distanceLaw reduced.stretch reduced.params fun h => ?_
    have idle : u.mg.phase = .idle := ended _ rfl
    rw [mg] at h
    simp [idle] at h
  · have reduced := reduceSpeed_distanceLaw requested
    unfold phaseStep
    split <;> rename_i phase
    · exact handOnSpeed_distanceLaw reduced.stretch reduced.params fun h => by simp [phase] at h
    · exact holdStep_distanceLaw reduced phase
    · exact runStep_distanceLaw reduced phase
    · exact settleStep_distanceLaw reduced phase
    · exact rampStep_distanceLaw reduced phase

/-- R21: a motion starts with its whole distance ahead, at no speed in hand. -/
theorem begin_stretch (g : Mg) (m : Motion) {distance : Int} (p : Int) {n : Nat} (visits : n ≤ 32) (forth : 0 ≤ distance) :
    StretchLaw (g.begin m distance p) n :=
  .running visits rfl (Int.sub_zero _).symm forth (fun h => by simp [Mg.begin, Mg.reset] at h)
    (fun h => by simp [Mg.begin] at h) fun h => by simp [Mg.begin, Mg.reset] at h

theorem startChain_distanceLaw (k : Fin 32) (seq : Byte) (b : Bool) (asked : Asked s) (params : ParameterLaw s.mc.params)
    (still : s.mg.v = 0) : DistanceLaw (startChain k seq b s) := by
  have entered := enterAtRest_entered (s := s.onWk fun _ => { Wk.reset with active := true, seq := seq, approachReports := b })
    entryRounds k ⟨asked.given, asked.overrun⟩ (Nat.zero_lt_succ _)
  have slower := enterAtRest_noFaster entryRounds k
    (s.onWk fun _ => { Wk.reset with active := true, seq := seq, approachReports := b })
  have mc : (enterAtRest entryRounds k
    (s.onWk fun _ => { Wk.reset with active := true, seq := seq, approachReports := b })).1.mc = s.mc := by simp
  unfold startChain
  dsimp only
  split <;> rename_i e <;> rw [e] at entered slower mc
  · exact (entered.entered (.inl rfl)).1.distanceLaw (mc ▸ params) fun _ => (slower.inHand.trans still.le).trans (Nat.zero_le _)
  · exact (entered.entered (.inr rfl)).1.distanceLaw (mc ▸ params) fun _ => (slower.inHand.trans still.le).trans (Nat.zero_le _)
  · obtain ⟨given, overrun⟩ := entered.ended _ rfl
    refine StretchLaw.distanceLaw ?_ (mc ▸ params) fun h => by simp at h
    exact .still entered.visits given overrun (.inr (.inr (.inl ⟨rfl, fun h => by simp at h⟩)))

theorem RequestsOnly.eq {g g' : Mg} (h : RequestsOnly g g') : g' = { g with
    pendStops := g'.pendStops, pendMarkStop := g'.pendMarkStop, pendReaim := g'.pendReaim, pendHalt := g'.pendHalt
    chainEnd := g'.chainEnd } :=
  congrArg (fun k : Mg => { k with
    pendStops := g'.pendStops, pendMarkStop := g'.pendMarkStop, pendReaim := g'.pendReaim, pendHalt := g'.pendHalt
    chainEnd := g'.chainEnd }) h.same

/-- Requests handed over, and a chain that ends, leave the law. -/
theorem StretchLaw.requested {g g' : Mg} {n n' : Nat} (law : StretchLaw g n) (h : RequestsOnly g g') (fewer : n' ≤ n) :
    StretchLaw g' n' := by
  have chainEnd := h.chainEnd
  rw [h.eq]
  refine ⟨fewer.trans law.visits, fun run => ?_, law.ramp, law.rest, fun left => fewer.trans_lt (law.visitLeft ?_),
    fun over_ => ?_⟩
  · obtain ⟨left, ahead, pass⟩ := law.run run
    exact ⟨left, ahead, fun w => ⟨(pass w).1, fewer.trans_lt (pass w).2⟩⟩
  · exact left.imp_right (Or.imp_left fun hold => ⟨hold.1, chainEnd hold.2⟩)
  · obtain ⟨run, closed, boundary⟩ := law.missed over_
    exact ⟨run, closed, fun b u => fewer.trans_lt (boundary b u)⟩

theorem DistanceLaw.path (law : DistanceLaw s) (h : MotionPath s t) : DistanceLaw t := by
  induction h with
  | refl => exact law
  | @beside t t' _ step ih =>
    have fewer : t'.wk.visits ≤ t.wk.visits := by rcases step.visits with e | e <;> omega
    refine (ih.stretch.requested step.requests fewer).distanceLaw (step.params ih.params) ?_
    rw [step.requests.eq]
    exact ih.speed
  | braked _ ih =>
    exact StretchLaw.distanceLaw (.still ih.visits rfl rfl (.inl rfl)) ih.params fun h => by simp [Mg.reset] at h
  | @started t m distance _ forth ih =>
    unfold startMotion
    split
    · exact (begin_stretch _ m _ ih.visits forth).distanceLaw ih.params fun _ => Nat.zero_le _
    · exact ih
  | @chained t k seq b _ ih =>
    unfold startChainMotion
    split
    · exact startChain_distanceLaw k seq b ⟨rfl, rfl⟩ ih.params rfl
    · exact ih
  | stepped _ ih => exact generatorStep_distanceLaw ih

/-- Settles O7: every step is a path of the generator's part of the state, and the law holds along it. -/
theorem distanceNeverExceedsLimit : Obligations.DistanceNeverExceedsLimit := by
  unfold Obligations.DistanceNeverExceedsLimit
  exact fun _ _ law h => law.path (step_path h)

end Sys2Proof.Machine
end

section
/-! The laws of the part right after reset. -/

namespace Sys2Proof.Machine

/-- R24: the generator at reset is IDLE with nothing commanded. -/
theorem distanceLaw_reset : DistanceLaw State.reset :=
  StretchLaw.distanceLaw (.still (Nat.zero_le _) rfl rfl (.inl rfl)) (.defaults _) nofun

theorem ringLaw_reset : RingLaw State.reset where
  pending := Nat.zero_le _
  unreleased := Nat.zero_le _
  index := rfl
  loss := Nat.zero_le _

/-- R39, R43, R53, R74: at reset every loop is in OFF with its values at 0. -/
theorem outputLaw_reset : OutputLaw State.reset where
  params := .defaults _
  unloaded _ := ⟨rfl, rfl⟩
  capstan := rfl
  capstanOff _ := ⟨rfl, rfl, rfl⟩
  reel x := by cases x <;> rfl
  reelOff x _ := by cases x <;> exact ⟨rfl, rfl, rfl⟩
  capstanDrive := by decide
  reelDrive x := by cases x <;> decide
  capstanRecord := ⟨nofun, nofun⟩
  reelRecord x := by cases x <;> exact ⟨fun h => absurd rfl h, nofun, nofun⟩

theorem faultLaw_reset : FaultLaw State.reset where
  first := ⟨fun h => absurd rfl h, fun h => by rcases h with e | e <;> cases e⟩
  later _ := ⟨rfl, rfl⟩
  bound := ⟨Nat.zero_le _, Nat.zero_le _⟩
  noHand _ := rfl

/-- Settles O4: each law, from the reset values of the blocks it speaks of. -/
theorem lawsHoldAtReset : Obligations.LawsHoldAtReset := by
  unfold Obligations.LawsHoldAtReset
  have speeds : SpeedLaw State.reset := ⟨.defaults _, Nat.zero_le _, Nat.zero_le _, Nat.zero_le _⟩
  have intake : IntakeLaw State.reset := ⟨Nat.zero_le _, nofun, nofun⟩
  exact ⟨.defaults _, speeds, distanceLaw_reset, .reset _, intake, ringLaw_reset, outputLaw_reset, faultLaw_reset,
    nofun⟩

end Sys2Proof.Machine
end

section
/-! REEL STALL in READY at rest: the brake of R115 at the stall test, wherever the order puts it. -/

namespace Sys2Proof.Machine

variable {s t u : State} {c : Context} {x : Reel}

/-! ## The stall test (R109) -/

theorem checkStage_of_stall (h : finds c s (.stall x) = true) :
    checkStage c (.stall x) s = takeFault (.reelStall x) (s.rl.get x).d (watched c s (.stall x)) := by
  have found : stalls x s = true := h
  simp [checkStage, stallCheck, watched, found]

theorem stall_named {r : Run} (h : finds c r.state (.stall x) = true) :
    ExpiryEvent.reelStall x ∈ (Run.check c r (.stall x)).events := by
  have comes : stalls x r.state = true := h
  simp [Run.check, Run.noting, comes, Run.andThen]

/-- R109: a drive and a silence of the stall time's length. -/
theorem stall_finds (see : TestsSee s t) (released : t.tsq.brake = false) (range : s.mc.params.stallTime ≤ 65535)
    (drive : s.mc.params.stallThreshold ≤ (s.rl.get x).d.natAbs)
    (run : s.mc.params.stallTime ≤ s.fm.highRun.get x + 1)
    (silent : s.mc.params.stallTime ≤ s.mu.silence.get x + 1) : finds (contextOf s) t (.stall x) = true := by
  have high : highRunAfter x t = min 65535 (s.fm.highRun.get x + 1) := by
    rw [highRunAfter, see.reels, see.params, see.runs, if_pos drive, satInc_eq, Config.timerMax]
  have silence : t.mu.silence.get x = min 65535 (s.mu.silence.get x + 1) := by
    rw [see.silence]
    cases x <;> rfl
  have counted : s.mc.params.stallTime ≤ min 65535 (s.fm.highRun.get x + 1) := by omega
  have unheard : s.mc.params.stallTime ≤ min 65535 (s.mu.silence.get x + 1) := by omega
  simp only [finds, stalls, released, high, silence, see.params, counted, unheard, decide_true, Bool.not_false,
    Bool.and_self]

/-! ## The high-drive runs under the brake -/

theorem Braked.driveLow (h : Braked s) (threshold : 1 ≤ s.mc.params.stallThreshold) (x : Reel) : DriveLow x s := by
  obtain ⟨-, -, drives⟩ := h
  rw [DriveLow, drives x]
  exact threshold

theorem watched_highRun (low : ∀ x, DriveLow x s) (zero : s.fm.highRun = ⟨0, 0⟩) (k : ExpiryCheck) :
    (watched c s k).fm.highRun = ⟨0, 0⟩ := by
  cases k with
  | stall x =>
    have after : (watched c s (.stall x)).fm.highRun = s.fm.highRun.set x (highRunAfter x s) := rfl
    rw [after, highRunAfter_of_low (low x), zero]
    cases x <;> rfl
  | position | vacuum | runaway | door | halt => exact zero

theorem Counted.driveLow (h : Counted s t) (low : ∀ x, DriveLow x s) (x : Reel) : DriveLow x t := by
  rw [h.rest]
  exact low x

theorem watchedAll_highRun (low : ∀ x, DriveLow x s) (zero : s.fm.highRun = ⟨0, 0⟩) (l : List ExpiryCheck) :
    (l.foldl (watched c) s).fm.highRun = ⟨0, 0⟩ := by
  induction l generalizing s with
  | nil => exact zero
  | cons k l ih => exact ih ((watched_counted c s k).driveLow low) (watched_highRun low zero k)

/-- R109: BRAKE going on clears the high-drive runs. -/
theorem AtRest.brakeTaken_highRun (rest : AtRest s) {kind : FaultKind} (keeps : kind.dropsVacuum = false) :
    (brakeTaken kind s).fm.highRun = ⟨0, 0⟩ := by
  rw [brakeTaken_eq keeps rest.noChain]
  simp [dropWriteEnable, followModes_fm, followCapstan_fm, brakeOutputs, outputsTaken, brakeGenerator, rest.brake]

/-! ## REEL STALL -/

theorem servoRun_of_resting (resting : Resting s) (arrival : s.mu.arrival = true) (o : ExpiryOrder) :
    (servoRun o s).state = restingServo s :=
  servoRun_of_rest o (resting.quiet.generatorIdle resting.idle (by simp [resting.ready])) resting.running
    (by simp [resting.ready, TState.timed]) resting.quiet.notices arrival

/-- An expiry at rest in which the stall test of reel x alone finds its fault: the counts before it, then the fault,
then the tests behind it. -/
theorem checked_of_stall (o : ExpiryOrder) (resting : Resting s) (arrival : s.mu.arrival = true)
    (others : ∀ j, j ≠ .stall x → finds (contextOf s) (restingServo s) j = false)
    (found : finds (contextOf s) (restingServo s) (.stall x) = true) :
    ExpiryEvent.reelStall x ∈ (expiryRun o s).events ∧ ∃ (w : State) (after : List ExpiryCheck),
      Counted (restingServo s) w ∧ after.Nodup ∧ checked o s (servoRun o s).state =
        after.foldl (fun t j => checkStage (contextOf s) j t) (takeFault (.reelStall x) (s.rl.get x).d w) := by
  have servo := servoRun_of_resting resting arrival o
  obtain ⟨before, after, places, notBefore, each, outcome⟩ := checked_of_one_finds o (.stall x) others
  have early := checks_of_none_finds (c := contextOf s) (s := restingServo s) (each.sublist (List.sublist_append_left _ _))
    fun j mem => others j fun same => notBefore (same ▸ mem)
  have counted := watchedAll_counted (contextOf s) (restingServo s) before
  have finding : finds (contextOf s) (before.foldl (watched (contextOf s)) (restingServo s)) (.stall x) = true := by
    rw [finds_watchedAll notBefore, found]
  have value : ((before.foldl (watched (contextOf s)) (restingServo s)).rl.get x).d = (s.rl.get x).d := by
    rw [counted.rest]
    rfl
  refine ⟨mem_events_of_check places fun r state => stall_named (by rw [state, servo, early]; exact finding), _, after,
    counted.trans (watched_counted (contextOf s) _ (.stall x)), each.sublist (List.sublist_append_right _ _), ?_⟩
  rw [servo, outcome, checkStage_of_stall finding, value]

/-- What an expiry in READY at rest that takes a fault of the brake class, keeping the vacuum, leaves. -/
structure BrakeOutcome (kind : FaultKind) (value : Int) (s t : State) : Prop where
  record : t.fm.first = some kind ∧ t.fm.later = []
  wait : t.fm.haltWait = none
  outputs : t.tsq = { s.tsq with state := .fault, brake := true, writeEnable := false }
  braked : Braked t
  generator : t.mg = Mg.reset
  measures : t.mu = measuredMu s
  chain : t.sc = s.sc ∧ t.wk = s.wk
  intake : t.oi = s.oi
  around : SameSurroundings s t
  reports : Reports s t [⟨.fault, kind.number, value, none, .fault⟩]
  snapshot : SnapshotByExpiry s t

theorem brakeOutcome {kind : FaultKind} {value : Int} {v : State} (later : s.fm.later = [])
    (taken : BrakeTaken kind { s with mu := measuredMu s } v)
    (after : Counted (reported (makeReport .fault kind.number value none v) v) t) :
    BrakeOutcome kind value s (intervalStage t) := by
  obtain ⟨⟨first, later'⟩, wait, outputs, off, braked, generator, measures, ⟨chain, walker⟩, due, intake,
    ⟨⟨ptp, ma⟩, slu, mc, freeCount, inputs, pending⟩⟩ := taken
  have state : v.tsq.state = .fault := congrArg Tsq.state outputs
  have reports : Reports v (reported (makeReport .fault kind.number value none v) v)
      [⟨.fault, kind.number, value, none, .fault⟩] := by
    rw [← state]
    exact reported_reports .fault _ _ none v
  rw [after.rest]
  constructor
  case reports => exact intervalStage_reports (Reports.of_due (reports.congr due.symm rfl rfl))
  case snapshot =>
    have counter : v.ru.snapCounter = s.ru.snapCounter := by rw [due]
    refine intervalStage_snapshot ⟨?_, counter⟩ mc
    change v.ru.snapDue = (s.ru.snapDue || decide (v.tsq.state ≠ s.tsq.state))
    rw [due, state]
  all_goals simp only [SameSurroundings, SameBus, SameSetup, Braked, intervalStage_frame]
  case record => exact ⟨after.first.trans first, after.later.trans (later'.trans later)⟩
  case wait => exact after.wait wait
  case outputs => exact outputs
  case braked => exact braked
  case generator => exact generator
  case measures => exact measures
  case chain => exact ⟨chain, walker⟩
  case intake => exact intake
  case around => exact ⟨⟨ptp, ma⟩, slu, mc, freeCount, inputs, pending⟩

/-- Settles O22: the stall test alone finds something; under the brake the tests behind it find nothing. -/
theorem reelStallBrakes : Obligations.ReelStallBrakes := by
  unfold Obligations.ReelStallBrakes
  intro s x y o resting law arrival other drive run silent low speed door vacuum
  obtain ⟨threshold, -, time, range, -⟩ := law.faults
  have see := restingServo_seen s
  have others (j : ExpiryCheck) (apart : j ≠ .stall x) : finds (contextOf s) (restingServo s) j = false := by
    cases j with
    | position => exact not_atBound_of_within door.2
    | vacuum => exact vacuum_not_finds vacuum
    | stall z =>
      have quiet : z = y := by
        cases x <;> cases y <;> cases z <;> simp_all
      rw [quiet]
      exact stall_not_finds (Nat.le_trans (by decide) time) (.inl low)
    | runaway => exact runaway_not_finds (by rw [see.runaway speed]; decide)
    | door => exact door_not_finds door.1
    | halt => exact halt_not_finds (.inl (by simp [resting.atRest.ready]))
  obtain ⟨named, w, after, counted, each, outcome⟩ :=
    checked_of_stall o resting arrival others (stall_finds see resting.brake range drive run silent)
  have rest := counted.atRest resting.atRest
  have attends : attended (.reelStall x) w = true := by
    rw [counted.rest, attended, Bool.and_eq_true]
    exact ⟨resting.quiet.watching, by simp [resting.atRest.brake]⟩
  rw [rest.takeFault_brakes _ rfl rfl attends] at outcome
  have taken := rest.brakes (kind := .reelStall x) rfl
  have zero := rest.brakeTaken_highRun (kind := .reelStall x) rfl
  have same : w = { restingServo s with fm := w.fm } := counted.rest
  have told : BrakeTaken (.reelStall x) { s with mu := measuredMu s } (brakeTaken (.reelStall x) w) := by
    refine taken.congr ?_ ?_ counted.later ⟨?_, ?_⟩ ?_ ?_ ?_ <;> rw [same]
    · exact (restingServo_mu s).trans (measuredMu_of_no_notices resting.quiet.notices)
    all_goals simp [restingServo, withArrival, heldAtRest, SameSurroundings, SameBus, SameSetup]
  generalize brakeTaken (.reelStall x) w = v at outcome zero told
  have lines : v.slu = s.slu := told.around.2.1
  have params : v.mc = s.mc := told.around.2.2.1
  generalize report : makeReport .fault (FaultKind.reelStall x).number (s.rl.get x).d none v = r at outcome
  have level (f : Func) : level f (reported r v) = level f s := level_of_slu lines f
  rw [checks_of_none_finds (s := reported r v) each fun k _ => none_finds_of_brake told.braked.1 told.off
    (congrArg Tsq.state told.outputs) ((level _).trans vacuum) ((level _).trans door.1) (not_atBound_of_within door.2) k]
    at outcome
  have ends := watchedAll_counted (contextOf s) (reported r v) after
  have threshold' : 1 ≤ v.mc.params.stallThreshold := by rw [params]; exact threshold
  have runs := watchedAll_highRun (c := contextOf s) (s := reported r v) (told.braked.driveLow threshold') zero after
  generalize after.foldl (watched (contextOf s)) (reported r v) = t at outcome ends runs
  have steps : exec (.periodExpiry o) s = .next (intervalStage t) := by
    refine exec_periodExpiry resting.quiet.watching resting.due ?_ (by rw [ends.rest]; exact told.intake)
    rw [outcome]
    exact senseChange_of_no_request (by rw [ends.rest]; exact (congrArg Slu.request lines).trans resting.quiet.request)
  subst report
  obtain ⟨⟨first, later⟩, wait, outputs, braked, generator, measures, ⟨chain, walker⟩, intake, around, reports, snapshot⟩ :=
    brakeOutcome resting.noFault.2 told ends
  refine ⟨_, (next_namedExpiry resting.quiet.watching named).trans steps, steps, first, later, wait, ?_, outputs, braked,
    generator, measures, chain, walker, intake, around, ?_, snapshot⟩
  · simpa only [intervalStage_frame] using runs
  · cases x <;> exact reports

end Sys2Proof.Machine
end

section
/-! An expiry at which only the motion is at work: what the generator's stage leaves alone, and the whole expiry from
that stage. -/

namespace Sys2Proof.Machine

variable {s t v : State} {o : ExpiryOrder}

/-! ## What the generator's stage leaves alone -/

/-- From s to v the motion, the transport, its chain and the reports may have moved; the measurements, the loops, the
fault record, Order Intake and all outside are as they were, and a change of state has made a snapshot due (R176). -/
structure Advances (s v : State) : Prop where
  measures : v.mu = s.mu
  reels : v.rl = s.rl
  capstan : v.cl = s.cl
  record : v.fm.first = s.fm.first ∧ v.fm.later = s.fm.later
  runs : v.fm.highRun = s.fm.highRun
  intake : v.oi = s.oi
  around : SameSurroundings s v
  due : SnapshotByState s v

/-- The state in which the generator's stage finds an expiry without crossings, by the arrival flag there. -/
def stageStart (a : Bool) (s : State) : State := withArrival a (s.onMu Mu.atExpiry)

/-- The state behind the generator's stage of an expiry without crossings. -/
def stageEnd (a : Bool) (s : State) : State := generatorStage (stageStart a s)

theorem withArrival_of_arrival (h : s.mu.arrival = false) : withArrival false s = s := by
  unfold withArrival State.onMu
  rw [← h]

/-- R18, R20, R40: with the arrival flag set, no crossing and no phase timer, the servo stages are the generator's stage
and the computation of the capstan loop, with the flag cleared before or behind them. -/
theorem servoRun_of_no_crossings (o : ExpiryOrder) (arrival : s.mu.arrival = true) (untimed : s.tsq.state.timed = false)
    (notices : s.mu.notices = []) (steps : ∀ a, (stageEnd a s).mu = (stageStart a s).mu) :
    ∃ a, (servoRun o s).state = withArrival false (computeCapstan (stageEnd a s)) := by
  have none : (contextOf s).crossings = [] := by simp [contextOf, measured, notices]
  have crossings (u : State) : takeCrossings (contextOf s).crossings u = u := by rw [none]; rfl
  have timer (u : State) : timerStage (contextOf s) u = u := timerStage_of_untimed untimed
  have start : s.onMu Mu.atExpiry = stageStart true s := by
    unfold stageStart withArrival
    rw [← arrival]
    rfl
  have kept (a : Bool) : (computeCapstan (stageEnd a s)).mu.arrival = a := by
    rw [computeCapstan_eq]
    exact congrArg Mu.arrival (steps a)
  obtain ⟨crossingsFirst, presentFirst, timerFirst, checks⟩ := o
  cases presentFirst with
  | true =>
    have examined : missStage (s.onMu Mu.atExpiry) = stageStart false s := by
      rw [start]
      exact missStage_of_arrival rfl
    refine ⟨false, ?_⟩
    rw [withArrival_of_arrival (kept false)]
    cases crossingsFirst <;> cases timerFirst <;> simp [servoRun, timer, crossings, examined, stageEnd]
  | false =>
    refine ⟨true, ?_⟩
    rw [← missStage_of_arrival (kept true), stageEnd, ← start]
    cases crossingsFirst <;> cases timerFirst <;> simp [servoRun, timer, crossings]

/-! ## The whole expiry -/

/-- No notice, no sense change and no fault comes about at the next expiry, which finds the arrival flag set. Requests to
the generator may be held. -/
structure Calm (s : State) : Prop where
  watching : watching s = true
  notices : s.mu.notices = []
  request : s.slu.request = false
  due : NothingDue s
  unfaulted : Unfaulted s
  pair : s.mu.arrival = true

theorem OnlyMotion.calm (h : OnlyMotion s) : Calm s :=
  ⟨h.quiet.watching, h.quiet.notices, h.quiet.request, h.due, h.unfaulted, h.pair⟩

/-- What an expiry that finds only the motion at work leaves, from the state v behind the generator's stage. -/
structure MotionOutcome (s v t : State) : Prop where
  motion : t.mg = v.mg
  transport : t.tsq = v.tsq
  walker : t.wk = v.wk
  cache : t.sc = v.sc
  wait : t.fm.haltWait = haltWaitAfter (contextOf s) v
  around : AroundMotion s t
  said : ∀ l, Reports s v l → Reports s t l
  pending : t.ru.pendingReports = v.ru.pendingReports
  snapshot : SnapshotByExpiry s t

theorem stageStart_mu (a : Bool) (h : s.mu.notices = []) : { (stageStart a s).mu with arrival := false } = measuredMu s :=
  (atExpiry_measured s).trans (measuredMu_of_no_notices h)

/-- The tests of the expiry see the measurements, whatever the generator's stage has moved. -/
theorem Advances.seen {a : Bool} (adv : Advances (stageStart a s) v) :
    TestsSee s (withArrival false (computeCapstan v)) := by
  obtain ⟨measures, reels, -, -, runs, -, ⟨-, slu, mc, -⟩, -⟩ := adv
  rw [computeCapstan_eq]
  constructor
  case speed => exact congrArg Mu.m measures
  case silence => exact (congrArg Mu.silence measures).trans (atExpiry_silence s)
  case reels => exact reels
  case lines => exact slu
  case params => exact mc
  case runs => exact runs

theorem capstan_after {a : Bool} (adv : Advances (stageStart a s) v) : (computeCapstan v).cl =
    if s.cl.run then capstanAfter s.mc.params s.cl v.mg.vt (newM s) else s.cl := by
  have capstan : v.cl = s.cl := adv.capstan
  have speed : v.mu.m = newM s := congrArg Mu.m adv.measures
  have params : v.mc = s.mc := adv.around.2.2.1
  by_cases running : s.cl.run = true
  · rw [computeCapstan_of_run (by rw [capstan]; exact running), if_pos running]
    simp only [capstan, speed, params]
  · rw [computeCapstan, if_neg (by rw [capstan]; exact running), if_neg running, capstan]

/-- What a report says of the measurements is P and the period count (R167): the arrival flag does not matter. -/
theorem Reports.with_arrival {a : Bool} {l : List Said} (h : Reports s v l) (mu : t.mu = { v.mu with arrival := a })
    (ru : t.ru = v.ru) : Reports s t l := by
  have said (id : Nat) (l : List Said) : reportsSaying t id l = reportsSaying v id l := by
    induction l generalizing id with
    | nil => rfl
    | cons x xs ih => simp [reportsSaying, ih, mu]
  obtain ⟨list, names, ring, loss, line, count⟩ := h
  constructor <;> simp only [ru, said] <;> assumption

/-- R1: the expiry of a calm part is the generator's stage, the capstan loop, the counts of the tests, and the snapshot
interval. -/
theorem Calm.outcome (calm : Calm s) (o : ExpiryOrder) (untimed : s.tsq.state.timed = false)
    (steps : ∀ a, Advances (stageStart a s) (stageEnd a s))
    (halt : ∀ a, finds (contextOf s) (stageEnd a s) .halt = false) :
    ∃ a t, exec (.periodExpiry o) s = .next t ∧ MotionOutcome s (stageEnd a s) t := by
  obtain ⟨a, servo⟩ := servoRun_of_no_crossings o calm.pair untimed calm.notices fun a => (steps a).measures
  have adv := steps a
  have quiet := halt a
  have see := adv.seen
  have capstan := capstan_after adv
  refine ⟨a, ?_⟩
  generalize stageEnd a s = v at servo adv quiet see capstan
  obtain ⟨measures, reels, -, ⟨first, later⟩, -, intake, ⟨⟨ptp, ma⟩, slu, mc, freeCount, inputs, pending⟩,
    ⟨due, counter⟩⟩ := adv
  have none (k : ExpiryCheck) : finds (contextOf s) (withArrival false (computeCapstan v)) k = false := by
    cases k with
    | halt =>
      rw [computeCapstan_eq]
      exact quiet
    | position => exact not_atBound_of_within calm.unfaulted.door.2
    | vacuum => exact vacuum_not_finds ((level_of_slu see.lines _).trans calm.unfaulted.vacuum)
    | stall x => exact see.stall calm.unfaulted.stalls x
    | runaway => exact runaway_not_finds (by rw [see.runaway calm.unfaulted.speed]; decide)
    | door => exact door_not_finds ((level_of_slu see.lines _).trans calm.unfaulted.door.1)
  have tests := (congrArg (checked o s) servo).trans (checked_of_none_finds (o := o) none)
  rw [computeCapstan_eq] at tests
  have runs : exec (.periodExpiry o) s = .next (intervalStage
      (allWatched (contextOf s) (withArrival false { v with cl := (computeCapstan v).cl }))) := by
    refine exec_periodExpiry calm.watching calm.due ?_ intake
    rw [tests]
    exact senseChange_of_no_request ((congrArg Slu.request slu).trans calm.request)
  have mu : { v.mu with arrival := false } = measuredMu s := by
    rw [measures]
    exact stageStart_mu a calm.notices
  refine ⟨_, runs, ?_⟩
  constructor
  case said =>
    intro l said
    exact intervalStage_reports (said.with_arrival rfl rfl)
  case pending =>
    obtain ⟨d, n, ru⟩ := intervalStage_ru (allWatched (contextOf s) (withArrival false { v with cl := (computeCapstan v).cl }))
    rw [ru]
    rfl
  case snapshot => exact intervalStage_snapshot ⟨due, counter⟩ mc
  case around =>
    simp only [AroundMotion, SameSurroundings, SameBus, SameSetup, intervalStage_frame]
    exact ⟨mu, reels, first, later, intake, capstan, ⟨⟨ptp, ma⟩, slu, mc, freeCount, inputs, pending⟩⟩
  all_goals simp only [intervalStage_frame]
  case motion | transport | walker | cache | wait => rfl

end Sys2Proof.Machine
end

section
/-! The halt (R33, R113, R114): its request in RUN, the steps of its ramp, and the ends of the halt. -/

namespace Sys2Proof.Machine

variable {s t v : State} {o : ExpiryOrder} {m : Motion}

/-! ## The ramp (R33) -/

/-- R33: the generator with the halt request of RUN applied: the ramp's acceleration, and L at D and the braking distance
of v_t. -/
def Mg.halted (g : Mg) (a : Nat) : Mg :=
  { g.toIdle with
    phase := .ramp, motion := g.motion, v := g.v, accel := a, d := g.d, q := g.q
    l := g.d + brakingDistance a 0 g.vt.natAbs, reduction := g.reduction }

theorem applyRequests_of_halt (halt : s.mg.pendHalt = true) (run : s.mg.phase = .run) (motion : s.mg.motion = some m) :
    applyRequests s = ({ s with mg := s.mg.halted s.mc.params.emergencyAccel }, none) := by
  have notRamp : ¬ s.mg.phase = .ramp := by simp [run]
  have notIdle : ¬ s.mg.phase = .idle := by simp [run]
  unfold applyRequests applyHalt
  rw [if_pos halt, if_neg notRamp]
  simp [State.onMg, Mg.halted, Mg.rampForward, Mg.rampSpeed, Mg.rampReach, run, motion]

/-- R33: the generator after a step of the ramp that leaves a speed. -/
def Mg.ramped (g : Mg) (dir : Int) : Mg :=
  { g with
    v := g.v - g.accel, d := g.d + (g.v - g.accel : Nat), q := g.q + dir * (g.v - g.accel : Nat)
    vt := dir * (g.v - g.accel : Nat), prevVt := dir * (g.v - g.accel : Nat)
    delta := dir * (g.v - g.accel : Nat) - g.prevVt, satRun := 0 }

theorem generatorStage_of_ramp {g : Mg} (requests : applyRequests s = ({ s with mg := g }, none)) (ramp : g.phase = .ramp)
    (motion : g.motion = some m) (still : s.tsq.state ≠ .moving) (moves : g.accel < g.v) :
    generatorStage s = { s with mg := g.ramped (dirSign m.forward) } := by
  have reduced : reduceSpeed { s with mg := g } = { s with mg := { g with satRun := 0 } } :=
    reduceSpeed_of_not_moving (s := { s with mg := g }) still
  have faster : ¬ g.v - g.accel = 0 := by omega
  have whole : generatorStep s = ({ s with mg := g.ramped (dirSign m.forward) }, none) := by
    rw [generatorStep, requests]
    dsimp only
    rw [reduced, phaseStep]
    simp [ramp, rampStep, faster, motion, handOnSpeed, State.onMg, Mg.ramped]
  rw [generatorStage, whole]
  rfl

/-- R33, R35, R114: the ramp ends, and the wait count starts. -/
theorem generatorStage_of_rampEnd (requests : applyRequests s = (s, none)) (ramp : s.mg.phase = .ramp)
    (halting : s.tsq.state = .halting) (rests : s.mg.v ≤ s.mg.accel) :
    generatorStage s = { s with
      mg := { Mg.reset with delta := -s.mg.prevVt }
      fm := { s.fm with haltWait := some 0 } } := by
  have reduced : reduceSpeed s = { s with mg := { s.mg with satRun := 0 } } :=
    reduceSpeed_of_not_moving (by simp [halting])
  have slow : s.mg.v - s.mg.accel = 0 := by omega
  have whole : generatorStep s = ({ s with mg := { Mg.reset with delta := -s.mg.prevVt } }, some .rampDone) := by
    rw [generatorStep, requests]
    dsimp only
    rw [reduced, phaseStep]
    simp [ramp, rampStep, slow, handOnSpeed, State.onMg, Mg.toIdle, Mg.reset]
  rw [generatorStage, whole]
  simp [motionEnds, motionEnd, halting, State.onFm]

/-! ## Expiries of the ramp -/

/-- What a change of the generator alone leaves. -/
theorem advances_of_mg (g : Mg) (s : State) : Advances s { s with mg := g } :=
  ⟨rfl, rfl, rfl, ⟨rfl, rfl⟩, rfl, rfl, ⟨⟨rfl, rfl⟩, rfl, rfl, rfl, rfl, rfl⟩, by simp [SnapshotByState]⟩

theorem reports_nil_of_mg (g : Mg) (s : State) : Reports s { s with mg := g } [] := by
  constructor <;> simp [reportsSaying]

/-- A calm expiry whose generator's stage moves the generator alone. -/
theorem Calm.outcome_of_mg (calm : Calm s) (o : ExpiryOrder) (untimed : s.tsq.state.timed = false) {g : Mg}
    (stage : ∀ a, stageEnd a s = { stageStart a s with mg := g })
    (halt : s.tsq.state ≠ .halting ∨ s.fm.haltWait = none) :
    ∃ t, exec (.periodExpiry o) s = .next t ∧ t.mg = g ∧ t.fm.haltWait = haltWaitAfter (contextOf s) s ∧ t.tsq = s.tsq ∧
      t.wk = s.wk ∧ t.sc = s.sc ∧ AroundMotion s t ∧ Reports s t [] ∧ SnapshotByExpiry s t := by
  obtain ⟨a, t, runs, motion, transport, walker, cache, wait, around, said, -, snapshot⟩ := calm.outcome o untimed
    (fun a => by rw [stage a]; exact advances_of_mg g _) fun a => by rw [stage a]; exact halt_not_finds halt
  rw [stage a] at motion transport walker cache wait said
  have silent : Reports s t [] := said [] ((reports_nil_of_mg g (stageStart a s)).congr rfl rfl rfl)
  exact ⟨t, runs, motion, wait, transport, walker, cache, around, silent, snapshot⟩

/-- A calm part stays calm where the generator's v_t stays. -/
theorem Calm.of_mg {g : Mg} (h : Calm { s with mg := g }) (speed : g.vt = s.mg.vt) : Calm s := by
  obtain ⟨watching, notices, request, due, ⟨⟨time, stalls⟩, follows, ⟨door, bounds⟩, vacuum⟩, pair⟩ := h
  have follows' : SpeedFollows s := by
    unfold SpeedFollows at follows ⊢
    rw [← speed]
    exact follows
  exact ⟨watching, notices, request, due.congr rfl, ⟨⟨time, stalls⟩, follows', ⟨door, bounds⟩, vacuum⟩, pair⟩

theorem haltWaitAfter_of_none {c : Context} (h : s.fm.haltWait = none) : haltWaitAfter c s = none := by
  simp [haltWaitAfter, h]

theorem haltRequest_outcome (calm : OnlyMotion { s with mg := { s.mg with pendHalt := false } }) (o : ExpiryOrder)
    (halt : s.mg.pendHalt = true) (halting : s.tsq.state = .halting) (run : s.mg.phase = .run)
    (motion : s.mg.motion = some m) (moves : s.mc.params.emergencyAccel < s.mg.v) (wait : s.fm.haltWait = none) :
    ∃ t, exec (.periodExpiry o) s = .next t ∧
      t.mg = (s.mg.halted s.mc.params.emergencyAccel).ramped (dirSign m.forward) ∧ t.fm.haltWait = none ∧ t.tsq = s.tsq ∧
      t.wk = s.wk ∧ t.sc = s.sc ∧ AroundMotion s t ∧ Reports s t [] ∧ SnapshotByExpiry s t := by
  have calm' : Calm s := calm.calm.of_mg rfl
  rw [← haltWaitAfter_of_none (c := contextOf s) wait]
  exact calm'.outcome_of_mg o (by simp [halting, TState.timed])
    (fun a => generatorStage_of_ramp (s := stageStart a s) (applyRequests_of_halt halt run motion) rfl motion
      (by simp [stageStart, withArrival, halting]) moves) (.inr wait)

theorem Undisturbed.no_requests (quiet : Undisturbed s) (a : Bool) :
    applyRequests (stageStart a s) = (stageStart a s, none) :=
  applyRequests_of_none quiet.stops quiet.markStop quiet.reaim quiet.halt

theorem ramp_outcome (calm : OnlyMotion s) (o : ExpiryOrder) (halting : s.tsq.state = .halting) (ramp : s.mg.phase = .ramp)
    (motion : s.mg.motion = some m) (moves : s.mg.accel < s.mg.v) (wait : s.fm.haltWait = none) :
    ∃ t, exec (.periodExpiry o) s = .next t ∧ t.mg = s.mg.ramped (dirSign m.forward) ∧ t.fm.haltWait = none ∧
      t.tsq = s.tsq ∧ t.wk = s.wk ∧ t.sc = s.sc ∧ AroundMotion s t ∧ Reports s t [] ∧ SnapshotByExpiry s t := by
  rw [← haltWaitAfter_of_none (c := contextOf s) wait]
  exact calm.calm.outcome_of_mg o (by simp [halting, TState.timed])
    (fun a => generatorStage_of_ramp (s := stageStart a s) (calm.quiet.no_requests a) ramp motion
      (by simp [stageStart, withArrival, halting]) moves) (.inr wait)

theorem rampEnd_outcome (calm : OnlyMotion s) (o : ExpiryOrder) (halting : s.tsq.state = .halting)
    (ramp : s.mg.phase = .ramp) (rests : s.mg.v ≤ s.mg.accel) (wait : s.fm.haltWait = none)
    (moves : 1 < (newM s).natAbs) :
    ∃ t, exec (.periodExpiry o) s = .next t ∧ t.mg = { Mg.reset with delta := -s.mg.prevVt } ∧ t.fm.haltWait = some 0 ∧
      t.tsq = s.tsq ∧ t.wk = s.wk ∧ t.sc = s.sc ∧ AroundMotion s t ∧ Reports s t [] ∧ SnapshotByExpiry s t := by
  have stage (a : Bool) := generatorStage_of_rampEnd (s := stageStart a s) (calm.quiet.no_requests a) ramp halting rests
  have notWaiting : (contextOf s).waiting = false := by simp [contextOf, wait]
  obtain ⟨a, t, runs, motion, transport, walker, cache, wait', around, said, -, snapshot⟩ :=
    calm.calm.outcome o (by simp [halting, TState.timed])
    (fun a => by
      rw [stageEnd, stage a]
      exact ⟨rfl, rfl, rfl, ⟨rfl, rfl⟩, rfl, rfl, ⟨⟨rfl, rfl⟩, rfl, rfl, rfl, rfl, rfl⟩, by simp [SnapshotByState]⟩)
    fun a => by
      have fast : ¬ (stageStart a s).mu.m.natAbs ≤ 1 := Nat.not_le.mpr moves
      rw [stageEnd, stage a]
      simp [finds, haltEnds, capstanRests, haltCount, notWaiting, fast, Config.haltWaitMax]
  rw [stageEnd, stage a] at motion transport walker cache wait' said
  refine ⟨t, runs, motion, ?_, transport, walker, cache, around, said [] ?_, snapshot⟩
  · rw [wait']
    simp [haltWaitAfter, stageStart, withArrival, halting, haltCount, notWaiting]
  · constructor <;> simp [reportsSaying, stageStart, withArrival]

end Sys2Proof.Machine
end

section
/-! The ends of a halt (R114): by the speed test, and by the count of 400. -/

namespace Sys2Proof.Machine

variable {s t u v : State} {c : Context} {b : Bool}

/-! ## The end of the halt (R114) -/

/-- R114: BRAKE at the end of a halt. -/
def brakeAfterHalt (byLimit : Bool) (s : State) : Bool := s.tsq.brake || !s.tsq.vacuum || !live s || byLimit

/-- R114: the state and the outputs at the end of a halt, before the loops follow. -/
def haltOutputs (byLimit : Bool) (s : State) : State := outputsTaken .fault (brakeAfterHalt byLimit s) s.tsq.vacuum s

theorem endHalt_eq (b : Bool) (s : State) :
    endHalt b s = (followModes (haltOutputs b s)).onFm fun f => { f with haltWait := none } := by
  unfold endHalt
  dsimp only
  rw [enter_eq (by decide)]
  rfl

theorem endHalt_tsq (b : Bool) (s : State) :
    (endHalt b s).tsq = { s.tsq with state := .fault, brake := brakeAfterHalt b s } := by
  simp [endHalt_eq, haltOutputs, outputsTaken]

/-- R39: the capstan loop goes off with the halt. -/
theorem endHalt_cl (off : s.cl.run = false → s.cl = ⟨false, 0, 0, .none⟩) : (endHalt b s).cl = ⟨false, 0, 0, .none⟩ := by
  have never : capstanToRun (haltOutputs b s) = false := by
    simp [capstanToRun, haltOutputs, outputsTaken, TState.capstanRuns]
  rw [endHalt_eq, State.onFm_cl, followModes_cl, followCapstan]
  split
  · rename_i same
    exact off (same.symm.trans never)
  · rw [never]
    rfl

theorem endHalt_rl_of_brake (brake : brakeAfterHalt b s = true)
    (off : ∀ x, (s.rl.get x).mode = .off → (s.rl.get x).d = 0) (x : Reel) : ((endHalt b s).rl.get x).d = 0 := by
  rw [endHalt_eq, State.onFm_rl, followModes_rl_get, followedLoop_of_brake x brake]
  split
  · rename_i mode
    exact off x mode
  · rfl

/-- R43: with the brake off the reels loop in HALTING and in FAULT alike. -/
theorem endHalt_rl_of_released (released : brakeAfterHalt b s = false) (halting : s.tsq.state = .halting)
    (modes : ∀ x, (s.rl.get x).mode = reelModeFor x s) : (endHalt b s).rl = s.rl := by
  obtain ⟨⟨⟨brake, pump⟩, -⟩, -⟩ : ((s.tsq.brake = false ∧ s.tsq.vacuum = true) ∧ live s = true) ∧ b = false := by
    simpa [brakeAfterHalt] using released
  have get (x : Reel) : (endHalt b s).rl.get x = s.rl.get x := by
    have before : (s.rl.get x).mode = .loop := by
      rw [modes x]
      exact reelModeFor_of_loops x (by simp [halting, TState.loops]) brake pump
    have after : reelModeFor x (haltOutputs b s) = .loop :=
      reelModeFor_of_loops x rfl released pump
    rw [endHalt_eq, State.onFm_rl, followModes_rl_get]
    exact if_pos (after.trans before.symm)
  calc (endHalt b s).rl
    _ = ⟨(endHalt b s).rl.get .s, (endHalt b s).rl.get .t⟩ := rfl
    _ = s.rl := by rw [get, get]; rfl

theorem endHalt_fm (b : Bool) (s : State) : (endHalt b s).fm.first = s.fm.first ∧
    (endHalt b s).fm.later = s.fm.later ∧ (endHalt b s).fm.haltWait = none := by
  simp [endHalt_eq, followModes_fm, followCapstan_fm, haltOutputs, outputsTaken]

theorem endHalt_mu (b : Bool) (s : State) : (endHalt b s).mu = { s.mu with est := (endHalt b s).mu.est } := by
  rw [endHalt_eq]
  exact followModes_mu (haltOutputs b s)

/-- What the end of a halt leaves as it is. -/
theorem endHalt_keeps_rest (b : Bool) (s : State) : (endHalt b s).mg = s.mg ∧ (endHalt b s).sc = s.sc ∧
    (endHalt b s).wk = s.wk ∧ (endHalt b s).oi = s.oi ∧ SameSurroundings s (endHalt b s) ∧
    (endHalt b s).ru = { s.ru with snapDue := s.ru.snapDue || decide (.fault ≠ s.tsq.state) } := by
  simp [endHalt_eq, haltOutputs, outputsTaken, SameSurroundings, SameBus, SameSetup]

/-! ## The test that ends the halt -/

theorem finds_halt_iff : finds c s .halt = true ↔ s.tsq.state = .halting ∧
    ∃ n, s.fm.haltWait = some n ∧ (capstanRests s = true ∨ Config.haltWaitMax ≤ haltCount c n) := by
  cases wait : s.fm.haltWait <;> simp [finds, haltEnds, wait]

/-- R114: the speed test comes before the count. -/
theorem checkStage_of_halt (h : finds c s .halt = true) : checkStage c .halt s = endHalt (!capstanRests s) s := by
  obtain ⟨halting, n, wait, ends⟩ := finds_halt_iff.mp h
  simp only [checkStage, haltCheck, if_pos halting, wait]
  cases rests : capstanRests s with
  | true => rfl
  | false =>
    rw [rests] at ends
    rw [if_neg (by decide), if_pos (ends.resolve_left (by decide))]
    rfl

theorem halt_named {r : Run} (h : finds c r.state .halt = true) (moves : capstanRests r.state = false) :
    ExpiryEvent.haltWaitLimit ∈ (Run.check c r .halt).events := by
  obtain ⟨halting, n, wait, ends⟩ := finds_halt_iff.mp h
  have limit : haltLimitComes c r.state = true := by
    rw [moves] at ends
    simp [haltLimitComes, halting, wait, moves, ends.resolve_left (by decide)]
  simp [Run.check, Run.noting, limit, Run.andThen]

/-- Behind the end of a halt the other tests find nothing they did not find before it. -/
theorem finds_endHalt (halting : s.tsq.state = .halting) (modes : ∀ x, (s.rl.get x).mode = reelModeFor x s)
    {k : ExpiryCheck} (vacuum : level .vacuumOk s = true) (door : level .doorClosed s = true) (bounds : c.atBound = false)
    (stall : ∀ x, k = .stall x → finds c s (.stall x) = false) : finds c (endHalt b s) k = false := by
  obtain ⟨-, -, -, -, ⟨-, slu, mc, -⟩, -⟩ := endHalt_keeps_rest b s
  have level (f : Func) : level f (endHalt b s) = level f s := level_of_slu slu f
  have tsq := endHalt_tsq b s
  cases k with
  | position => exact bounds
  | vacuum => exact vacuum_not_finds ((level _).trans vacuum)
  | door => exact door_not_finds ((level _).trans door)
  | halt => exact halt_not_finds (.inl (by simp [tsq]))
  | runaway =>
    have off : (endHalt b s).cl.run = false := by
      rw [endHalt_eq, State.onFm_cl, followModes_cl, followCapstan_run]
      simp [capstanToRun, haltOutputs, outputsTaken, TState.capstanRuns]
    exact runaway_not_finds (by simp [runawayAfter, off])
  | stall x =>
    cases brake : brakeAfterHalt b s with
    | true => simp [finds, stalls, tsq, brake]
    | false =>
      have released : s.tsq.brake = false := by
        simp only [brakeAfterHalt, Bool.or_eq_false_iff] at brake
        exact brake.1.1.1
      have runs : (endHalt b s).fm.highRun = s.fm.highRun := by
        simp [endHalt_eq, followModes_fm, followCapstan_fm, haltOutputs, outputsTaken, brake]
      have silence : (endHalt b s).mu.silence = s.mu.silence := by rw [endHalt_mu]
      have quiet := stall x rfl
      simp only [finds, stalls, highRunAfter, released] at quiet
      simp only [finds, stalls, highRunAfter, endHalt_rl_of_released brake halting modes, mc, runs, silence, tsq, brake]
      exact quiet

end Sys2Proof.Machine
end

section
/-! The expiries of a halt: its ramp, and its end at rest or at the count. -/

namespace Sys2Proof.Machine

variable {s t u v : State} {c : Context} {b : Bool}

/-! ## The servo stages with the generator IDLE -/

/-- The generator after an expiry in IDLE (R20, R37). -/
def Mg.idled (g : Mg) : Mg := { g with vt := 0, prevVt := 0, delta := -g.prevVt, satRun := 0 }

/-- The state after the servo stages of an expiry in IDLE, be the capstan loop running or not. -/
def idleServo (s : State) : State :=
  { s with
    mu := measuredMu s
    mg := s.mg.idled
    cl := if s.cl.run then capstanAfter s.mc.params s.cl 0 (newM s) else s.cl }

theorem stageEnd_of_idle (idle : GeneratorIdle s) (a : Bool) :
    stageEnd a s = { stageStart a s with mg := s.mg.idled } := by
  have stage := generatorStage_of_idle (s := stageStart a s) (idle.congr rfl rfl)
  have moved : generatorStage (stageStart a s) = { stageStart a s with mg := (stageStart a s).mg.idled } := by
    rw [stage]
    simp [handOnSpeed, State.onMg, Mg.idled]
  exact moved

theorem servoRun_of_idle (o : ExpiryOrder) (calm : Calm s) (idle : GeneratorIdle s) (untimed : s.tsq.state.timed = false) :
    (servoRun o s).state = idleServo s := by
  obtain ⟨a, servo⟩ := servoRun_of_no_crossings o calm.pair untimed calm.notices fun a => by
    rw [stageEnd_of_idle idle a]
  have adv : Advances (stageStart a s) (stageEnd a s) := by
    rw [stageEnd_of_idle idle a]
    exact advances_of_mg _ _
  have capstan := capstan_after adv
  rw [servo, computeCapstan_eq, capstan, stageEnd_of_idle idle a, idleServo, ← stageStart_mu a calm.notices]
  rfl

theorem idleServo_seen (s : State) : TestsSee s (idleServo s) := ⟨rfl, rfl, rfl, rfl, rfl, rfl⟩

/-! ## The end of a halt at an expiry -/

/-- What an expiry leaves at which a halt ends, by the count or not. -/
structure HaltEnded (byLimit : Bool) (s t : State) : Prop where
  transport : t.tsq = { s.tsq with state := .fault, brake := brakeAfterHalt byLimit s }
  wait : t.fm.haltWait = none
  record : t.fm.first = s.fm.first ∧ t.fm.later = s.fm.later
  braked : brakeAfterHalt byLimit s = true → Braked t
  released : brakeAfterHalt byLimit s = false → t.rl = s.rl
  capstan : t.cl = ⟨false, 0, 0, .none⟩
  motion : t.mg = s.mg.idled
  position : t.mu.p = newP s
  chain : t.sc = s.sc ∧ t.wk = s.wk
  intake : t.oi = s.oi
  around : SameSurroundings s t
  reports : Reports s t []
  snapshot : SnapshotByExpiry s t

/-- The state in which the test of a halt finds its end. -/
structure HaltCounted (s u : State) : Prop where
  counted : Counted (idleServo s) u
  halting : s.tsq.state = .halting
  law : OutputLaw s

theorem HaltCounted.modes (h : HaltCounted s u) (x : Reel) : (u.rl.get x).mode = reelModeFor x u := by
  rw [h.counted.rest]
  exact h.law.reel x

theorem HaltCounted.brake (h : HaltCounted s u) : brakeAfterHalt b u = brakeAfterHalt b s := by
  rw [h.counted.rest]
  rfl

theorem HaltCounted.ended (h : HaltCounted s u) (after : Counted (endHalt b u) t) : HaltEnded b s (intervalStage t) := by
  have brake := h.brake (b := b)
  have capstanOff : u.cl.run = false → u.cl = ⟨false, 0, 0, .none⟩ := by
    rw [h.counted.rest]
    intro off
    cases run : s.cl.run with
    | true => simp [idleServo, run, capstanAfter] at off
    | false =>
      obtain ⟨dc, ic, sat⟩ := h.law.capstanOff run
      obtain ⟨mu, mg, ⟨run', dc', ic', sat'⟩, rl⟩ := s
      simp only at run dc ic sat
      simp [idleServo, run, dc, ic, sat]
  have reelsOff (x : Reel) (off : (u.rl.get x).mode = .off) : (u.rl.get x).d = 0 := by
    rw [h.counted.rest] at off ⊢
    exact (h.law.reelOff x off).1
  have counted := h.counted
  obtain ⟨mg, sc, wk, oi, ⟨⟨ptp, ma⟩, slu, mc, freeCount, inputs, pending⟩, ru⟩ := endHalt_keeps_rest b u
  obtain ⟨first, later, wait⟩ := endHalt_fm b u
  have tsq := endHalt_tsq b u
  rw [brake] at tsq
  have brakes (on : brakeAfterHalt b s = true) (x : Reel) : ((endHalt b u).rl.get x).d = 0 :=
    endHalt_rl_of_brake (brake.trans on) reelsOff x
  have released (off : brakeAfterHalt b s = false) : (endHalt b u).rl = u.rl :=
    endHalt_rl_of_released (brake.trans off) (by rw [counted.rest]; exact h.halting) h.modes
  have cl := endHalt_cl (b := b) capstanOff
  have mu : (endHalt b u).mu.p = u.mu.p := by rw [endHalt_mu]
  generalize endHalt b u = v at *
  rw [counted.rest] at mg sc wk oi ptp ma slu mc freeCount inputs pending ru tsq mu released
  replace ru : v.ru = { s.ru with snapDue := s.ru.snapDue || decide (.fault ≠ s.tsq.state) } := ru
  replace tsq : v.tsq = { s.tsq with state := .fault, brake := brakeAfterHalt b s } := tsq
  rw [after.rest]
  constructor
  case reports =>
    refine intervalStage_reports ?_
    constructor <;> simp [reportsSaying, ru]
  case snapshot =>
    refine intervalStage_snapshot ⟨?_, ?_⟩ mc
    · simp [ru, tsq]
    · simp [ru]
  all_goals simp only [SameSurroundings, SameBus, SameSetup, Braked, intervalStage_frame]
  case transport => exact tsq
  case wait => exact after.wait wait
  case record => exact ⟨after.first.trans (first.trans counted.first), after.later.trans (later.trans counted.later)⟩
  case braked => exact fun on => ⟨by rw [tsq]; exact on, by rw [cl], brakes on⟩
  case released => exact released
  case capstan => exact cl
  case motion => exact mg
  case position => exact mu
  case chain => exact ⟨sc, wk⟩
  case intake => exact oi
  case around => exact ⟨⟨ptp, ma⟩, slu, mc, freeCount, inputs, pending⟩

/-- R114: an expiry in HALTING whose test ends the halt. -/
theorem haltEnd_outcome (calm : OnlyMotion s) (law : OutputLaw s) (o : ExpiryOrder) (halting : s.tsq.state = .halting)
    (idle : s.mg.phase = .idle) (ends : finds (contextOf s) (idleServo s) .halt = true) :
    ∃ t, exec (.periodExpiry o) s = .next t ∧ HaltEnded (decide (1 < (newM s).natAbs)) s t ∧
      (1 < (newM s).natAbs → ExpiryEvent.haltWaitLimit ∈ (expiryRun o s).events) := by
  have servo := servoRun_of_idle o calm.calm (calm.quiet.generatorIdle idle (by simp [halting]))
    (by simp [halting, TState.timed])
  have see := idleServo_seen s
  obtain ⟨stalls, speed, ⟨door, bounds⟩, vacuum⟩ := calm.unfaulted
  have others (j : ExpiryCheck) (apart : j ≠ .halt) : finds (contextOf s) (idleServo s) j = false := by
    cases j with
    | position => exact not_atBound_of_within bounds
    | vacuum => exact vacuum_not_finds vacuum
    | stall x => exact see.stall stalls x
    | runaway => exact runaway_not_finds (by rw [see.runaway speed]; decide)
    | door => exact door_not_finds door
    | halt => exact absurd rfl apart
  obtain ⟨before, after, places, notBefore, each, outcome⟩ := checked_of_one_finds o .halt others
  have early := checks_of_none_finds (c := contextOf s) (s := idleServo s) (each.sublist (List.sublist_append_left _ _))
    fun j mem => others j fun same => notBefore (same ▸ mem)
  have finding : finds (contextOf s) (before.foldl (watched (contextOf s)) (idleServo s)) .halt = true := by
    rw [finds_watchedAll notBefore, ends]
  have reached : HaltCounted s (before.foldl (watched (contextOf s)) (idleServo s)) :=
    ⟨watchedAll_counted _ _ _, halting, law⟩
  have stall (x : Reel) (behind : .stall x ∈ after) :
      finds (contextOf s) (before.foldl (watched (contextOf s)) (idleServo s)) (.stall x) = false := by
    have apart : .stall x ∉ before := fun early => (List.nodup_append.mp each).2.2 _ early _ behind rfl
    rw [finds_watchedAll apart, others _ (by simp)]
  generalize before.foldl (watched (contextOf s)) (idleServo s) = u at *
  have rests : (!capstanRests u) = decide (1 < (newM s).natAbs) := by
    have test : capstanRests u = decide ((newM s).natAbs ≤ 1) := by
      rw [reached.counted.rest]
      rfl
    rw [test, ← decide_not]
    simp only [Nat.not_le]
  rw [checkStage_of_halt finding, rests] at outcome
  have state : u.tsq.state = .halting := by
    rw [reached.counted.rest]
    exact halting
  have level (f : Func) : level f u = level f s := level_of_slu (by rw [reached.counted.rest]; rfl) f
  rw [checks_of_none_finds (each.sublist (List.sublist_append_right _ _)) fun k mem =>
    finds_endHalt state reached.modes ((level _).trans vacuum) ((level _).trans door) (not_atBound_of_within bounds)
      fun x same => stall x (same ▸ mem)] at outcome
  have ended := watchedAll_counted (contextOf s) (endHalt (decide (1 < (newM s).natAbs)) u) after
  generalize after.foldl (watched (contextOf s)) (endHalt (decide (1 < (newM s).natAbs)) u) = t at outcome ended
  obtain ⟨-, -, -, oi, ⟨-, slu, -⟩, -⟩ := endHalt_keeps_rest (decide (1 < (newM s).natAbs)) u
  have runs : exec (.periodExpiry o) s = .next (intervalStage t) := by
    refine exec_periodExpiry calm.quiet.watching calm.due ?_ ?_
    · rw [servo, outcome]
      refine senseChange_of_no_request ?_
      rw [ended.rest]
      dsimp only
      rw [slu, reached.counted.rest]
      exact calm.quiet.request
    · rw [ended.rest]
      dsimp only
      rw [oi, reached.counted.rest]
      rfl
  refine ⟨_, runs, reached.ended ended, fun moves => ?_⟩
  refine mem_events_of_check places fun r state => halt_named ?_ ?_
  · rw [state, servo, early]
    exact finding
  · rw [state, servo, early, ← Bool.not_eq_true', rests]
    exact decide_eq_true moves

/-- Settles O21: the requests and the steps of the ramp move the generator alone; the test of the halt alone finds
something at its end. -/
theorem haltWaitLimitBrakes : Obligations.HaltWaitLimitBrakes := by
  unfold Obligations.HaltWaitLimitBrakes
  refine ⟨?limit, ?request, ?ramp, ?rampEnd, ?rest⟩
  case limit =>
    intro s o n quiet due faultless law arrival halting idle wait count moves
    have calm : OnlyMotion s := ⟨quiet, due, faultless.unfaulted, arrival⟩
    have ends : finds (contextOf s) (idleServo s) .halt = true := by
      refine finds_halt_iff.mpr ⟨halting, n, wait, .inr ?_⟩
      have waiting : (contextOf s).waiting = true := by simp [contextOf, wait]
      rw [haltCount, if_pos waiting, Config.haltWaitMax]
      omega
    obtain ⟨t, runs, ⟨transport, wait', ⟨first, later⟩, braked, -, -, motion, position, ⟨sc, wk⟩, oi, around, reports,
      snapshot⟩, named⟩ := haltEnd_outcome calm law o halting idle ends
    have brake : brakeAfterHalt (decide (1 < (newM s).natAbs)) s = true := by simp [brakeAfterHalt, moves]
    rw [brake] at transport
    exact ⟨t, (next_namedExpiry quiet.watching (named moves)).trans runs, runs, transport, wait', braked brake, first, later,
      position, by rw [motion]; exact idle, by rw [motion]; rfl, sc, wk, oi, around, reports, snapshot⟩
  case request =>
    intro s o m calm halt halting run motion faster wait
    obtain ⟨t, runs, mg, kept⟩ := haltRequest_outcome calm o halt halting run motion faster wait
    refine ⟨t, runs, ?_⟩
    rw [mg]
    exact ⟨⟨rfl, rfl, rfl, rfl, rfl, rfl, rfl, rfl, rfl⟩, rfl, rfl, rfl, rfl, rfl, rfl, kept⟩
  case ramp =>
    intro s o m calm halting ramp motion faster wait
    exact ramp_outcome calm o halting ramp motion faster wait
  case rampEnd =>
    intro s o calm halting ramp rests wait moves
    obtain ⟨t, runs, mg, kept⟩ := rampEnd_outcome calm o halting ramp rests wait moves
    refine ⟨t, runs, ?_⟩
    rw [mg]
    exact ⟨rfl, rfl, rfl, rfl, kept⟩
  case rest =>
    intro s o n calm law halting idle wait rests
    have ends : finds (contextOf s) (idleServo s) .halt = true :=
      finds_halt_iff.mpr ⟨halting, n, wait, .inl (decide_eq_true rests)⟩
    obtain ⟨t, runs, ⟨transport, wait', ⟨first, later⟩, braked, released, capstan, motion, position, ⟨sc, wk⟩, oi, around,
      reports, snapshot⟩, -⟩ := haltEnd_outcome calm law o halting idle ends
    have slow : decide (1 < (newM s).natAbs) = false := decide_eq_false (Nat.not_lt.mpr rests)
    have brake : t.tsq.brake = brakeAfterHalt (decide (1 < (newM s).natAbs)) s := by rw [transport]
    refine ⟨t, runs, ?_, wait', first, later, fun on => braked (brake.symm.trans on),
      fun off => ⟨capstan, released (brake.symm.trans off)⟩, by rw [motion]; exact idle, by rw [motion]; rfl, position, sc, wk,
      oi, around, reports, snapshot⟩
    rw [transport, slow, brakeAfterHalt, Bool.or_false]
    rfl

end Sys2Proof.Machine
end

section
/-! The end of an order's motion: the loops of READY, the ORDER DONE, and the settles that end a SPACE (R35, R36, R79,
R83). -/

namespace Sys2Proof.Machine

variable {s t u v : State} {h : InHand} {o : ExpiryOrder}

/-! ## A change of state among those that loop -/

/-- R39, R43: the loops stand as the transport state calls for, in a state that loops under vacuum and runs the
capstan. -/
structure Following (s : State) : Prop where
  loops : s.tsq.state.loops = true
  runs : s.tsq.state.capstanRuns = true
  pump : s.tsq.vacuum = true
  capstan : s.cl.run = capstanToRun s
  reel : ∀ x : Reel, (s.rl.get x).mode = reelModeFor x s

theorem OutputLaw.following (law : OutputLaw s) (loops : s.tsq.state.loops = true)
    (runs : s.tsq.state.capstanRuns = true) (pump : s.tsq.vacuum = true) : Following s :=
  ⟨loops, runs, pump, law.capstan, law.reel⟩

/-- What the following of the loops turns on. -/
theorem Following.congr (f : Following s) (state : t.tsq.state = s.tsq.state) (brake : t.tsq.brake = s.tsq.brake)
    (pump : t.tsq.vacuum = s.tsq.vacuum) (cl : t.cl = s.cl) (rl : t.rl = s.rl) : Following t := by
  obtain ⟨loops, runs, pump', capstan, reel⟩ := f
  constructor
  case capstan => simpa [capstanToRun, state, brake, cl] using capstan
  case reel => simpa [reelModeFor, state, brake, pump, rl] using reel
  all_goals simpa [state, pump]

theorem Following.mode (f : Following s) (x : Reel) : (s.rl.get x).mode = if s.tsq.brake then .off else .loop := by
  rw [f.reel x]
  cases brake : s.tsq.brake with
  | true => exact reelModeFor_of_brake x brake
  | false => exact reelModeFor_of_loops x f.loops brake f.pump

/-- R39, R43: the loops do not change where the next state loops and runs the capstan too, be the brake on or not. -/
theorem enterKeeping_of_following {st : TState} (f : Following s) (loops : st.loops = true)
    (runs : st.capstanRuns = true) : enterKeeping st s = stateTaken st s := by
  have notFill : st ≠ .loadingFill := by
    rintro rfl
    cases loops
  have steady (x : Reel) : ((stateTaken st s).rl.get x).mode = reelModeFor x (stateTaken st s) := by
    refine (f.mode x).trans ?_
    cases brake : s.tsq.brake with
    | true => exact (reelModeFor_of_brake (s := stateTaken st s) x brake).symm
    | false => exact (reelModeFor_of_loops (s := stateTaken st s) x loops brake f.pump).symm
  have enabled (x : Reel) : estEnabled x (stateTaken st s) = true := by
    refine (estEnabled_iff x _).mpr ⟨f.pump, ?_⟩
    have mode := f.mode x
    intro fill
    rw [show ((stateTaken st s).rl.get x).mode = (s.rl.get x).mode from rfl, mode] at fill
    split at fill <;> cases fill
  rw [enterKeeping_eq notFill, followModes_of_steady steady enabled]
  refine followCapstan_of_same ?_
  have before := f.capstan
  simp only [capstanToRun, f.runs, Bool.true_and] at before
  simp [capstanToRun, stateTaken, runs, before]

/-! ## The end of the order (R79, R83) -/

/-- R79: READY is taken, ORDER DONE reported, and the order in hand is gone. -/
def orderEnded (outcome : OrderOutcome) (pe : Int) (h : InHand) (s : State) : State :=
  clearHand (reported (makeReport .orderDone outcome.number (orderDoneValue h outcome pe s) (some h.seq)
    (stateTaken .ready s)) (stateTaken .ready s))

theorem endReady_of_following {outcome : OrderOutcome} {pe : Int} (f : Following s) (hand : s.tsq.inHand = some h)
    (room : Room 1 s) : endReady outcome pe s = orderEnded outcome pe h s := by
  have room' : (stateTaken .ready s).ru.pendingReports.length < 4 := by
    unfold Room at room
    exact Nat.lt_of_succ_le room
  have hand' : (stateTaken .ready s).tsq.inHand = some h := hand
  unfold endReady finishOrder
  rw [enterKeeping_of_following f rfl rfl, hand']
  dsimp only
  rw [generate_of_room (kind := .orderDone) _ _ _ rfl room']
  rfl

theorem orderEnded_reports (outcome : OrderOutcome) (pe : Int) (h : InHand) (s : State) :
    Reports s (orderEnded outcome pe h s)
      [⟨.orderDone, outcome.number, orderDoneValue h outcome pe s, some h.seq, .ready⟩] := by
  have reports := reported_reports .orderDone outcome.number (orderDoneValue h outcome pe s) (some h.seq)
    (stateTaken .ready s)
  exact Reports.of_due (reports.congr rfl rfl rfl)

/-! ## The sequencer's take of an end (R63, R83, R101) -/

/-- The walker after the end of a chain, if one was active. -/
def walkerLeft (s : State) : State := { s with wk := if s.wk.active then Wk.reset else s.wk }

theorem refreshEntries_tsq (l : List (Fin 32)) (s : State) : (l.foldl (fun s i => refreshEntry i s) s).tsq = s.tsq := by
  induction l generalizing s with
  | nil => rfl
  | cons i l ih => simp [ih]

theorem endChain_inHand (s : State) : (endChain s).tsq.inHand = s.tsq.inHand := by
  by_cases active : s.wk.active = true
  · rw [endChain, if_pos active]
    simp only [dropWriteEnable, State.onTsq_tsq, State.onWk_tsq, refreshEntries_tsq]
  · rw [endChain, if_neg active]

/-- R63: with no STALE entry the end of a chain resets the walker and drops WRITE ENABLE. -/
theorem endChain_of_fresh (fresh : ∀ (i : Fin 32) (copy : Segment), s.sc.entries.get i ≠ .stale copy) :
    endChain s = if s.wk.active then dropWriteEnable (walkerLeft s) else walkerLeft s := by
  have entry (i : Fin 32) : refreshEntry i s = s := by
    unfold refreshEntry
    cases e : entryOf i s with
    | stale copy => exact absurd e (fresh i copy)
    | invalid | fetching | valid copy => rfl
  have refreshed : ∀ l : List (Fin 32), l.foldl (fun s i => refreshEntry i s) s = s := fun l => by
    induction l with
    | nil => rfl
    | cons i l ih => rw [List.foldl_cons, entry i, ih]
  by_cases active : s.wk.active = true
  · rw [endChain, if_pos active, if_pos active, refreshed, walkerLeft, if_pos active]
    rfl
  · rw [endChain, if_neg active, if_neg active, walkerLeft, if_neg active]

/-- R83, R101: the outcome and the error with which a SPACE or a chain ends. -/
def endOutcome (h : InHand) (m : ChainMarks) (e : MotionEnd) : OrderOutcome × Int :=
  if h.stopping then (.stopped, 0) else ((moveOutcome m e).clampedIf (h.clamped || m.adjusted), e.pe)

/-- The end is taken as the order's end. -/
def MotionEnd.final : MotionEnd → Bool
  | .settleStarted | .rampDone => false
  | .atRest _ | .stoppedAtRest | .settled _ | .unsettled _ | .stopped | .chainEnded _ => true

theorem legEnd_of_move (e : MotionEnd) (m : ChainMarks) (leg : h.leg = .space ∨ h.leg = .chain) :
    legEnd e m h s = endReady ((moveOutcome m e).clampedIf (h.clamped || m.adjusted)) e.pe s := by
  unfold legEnd
  rcases leg with leg | leg <;> rw [leg]

/-- R83, R101: the end of a SPACE's or a chain's motion, or of any motion that a stop word ends. -/
theorem motionEnd_of_final {e : MotionEnd} (final : e.final = true) (hand : s.tsq.inHand = some h)
    (leg : h.stopping = true ∨ h.leg = .space ∨ h.leg = .chain) :
    motionEnd e s = endReady (endOutcome h (chainMarks s) e).1 (endOutcome h (chainMarks s) e).2 (endChain s) := by
  have hand' : (endChain s).tsq.inHand = some h := (endChain_inHand s).trans hand
  have ends : motionEnd e s =
      if h.stopping then endReady .stopped 0 (endChain s) else legEnd e (chainMarks s) h (endChain s) := by
    cases e with
    | settleStarted | rampDone => cases final
    | atRest _ | stoppedAtRest | settled _ | unsettled _ | stopped | chainEnded _ =>
      simp only [motionEnd, hand']
  rw [ends, endOutcome]
  cases stopping : h.stopping with
  | true => rfl
  | false => exact legEnd_of_move e _ (leg.resolve_left (by simp [stopping]))

/-- An end of the order in hand's motion takes the order to READY, with no STALE entry to refresh. -/
theorem motionEnd_ends {e : MotionEnd} (final : e.final = true) (hand : s.tsq.inHand = some h)
    (leg : h.stopping = true ∨ h.leg = .space ∨ h.leg = .chain) (follows : Following s) (room : Room 1 s)
    (fresh : s.wk.active = false ∨ ∀ (i : Fin 32) (copy : Segment), s.sc.entries.get i ≠ .stale copy) :
    motionEnd e s =
      orderEnded (endOutcome h (chainMarks s) e).1 (endOutcome h (chainMarks s) e).2 h (walkerLeft s) := by
  rw [motionEnd_of_final final hand leg]
  generalize endOutcome h (chainMarks s) e = x
  by_cases active : s.wk.active = true
  · rw [endChain_of_fresh (fresh.resolve_left (by simp [active])), if_pos active]
    exact endReady_of_following (follows.congr rfl rfl rfl rfl rfl) hand room
  · have same : walkerLeft s = s := by rw [walkerLeft, if_neg active]
    rw [endChain_of_inactive (Bool.not_eq_true _ ▸ active), same]
    exact endReady_of_following follows hand room

/-- A calm expiry whose motion ends: the order in hand, a SPACE or a RUN CHAIN, ends in READY with it. -/
theorem Calm.outcome_of_end (calm : Calm s) (o : ExpiryOrder) (untimed : s.tsq.state.timed = false) {g : Mg}
    {outcome : OrderOutcome} {pe : Int} (code : h.code = .space ∨ h.code = .runChain)
    (stage : ∀ a, stageEnd a s = orderEnded outcome pe h (walkerLeft { stageStart a s with mg := g })) :
    ∃ t, exec (.periodExpiry o) s = .next t ∧ t.tsq = s.tsq.ended .ready s.tsq.brake s.tsq.vacuum ∧ t.mg = g ∧
      t.wk = (walkerLeft s).wk ∧ t.sc = s.sc ∧ AroundMotion s t ∧
      Reports s t [⟨.orderDone, outcome.number, if outcome = .unsettled then pe else newP s - h.pAtTake, some h.seq,
        .ready⟩] ∧ SnapshotByExpiry s t := by
  have advances (a : Bool) : Advances (stageStart a s)
      (orderEnded outcome pe h (walkerLeft { stageStart a s with mg := g })) :=
    ⟨rfl, rfl, rfl, ⟨rfl, rfl⟩, rfl, rfl, ⟨⟨rfl, rfl⟩, rfl, rfl, rfl, rfl, rfl⟩, rfl, rfl⟩
  obtain ⟨a, t, runs, motion, transport, walker, cache, -, around, said, -, snapshot⟩ := calm.outcome o untimed
    (fun a => by rw [stage a]; exact advances a) fun a => by rw [stage a]; exact halt_not_finds (.inl nofun)
  rw [stage a] at motion transport walker cache said
  refine ⟨t, runs, transport, motion, walker, cache, around, said _ ?_, snapshot⟩
  have reports := orderEnded_reports outcome pe h (walkerLeft { stageStart a s with mg := g })
  have value : orderDoneValue h outcome pe (walkerLeft { stageStart a s with mg := g }) =
      if outcome = .unsettled then pe else newP s - h.pAtTake := by
    rw [orderDoneValue, if_pos code]
    rfl
  rw [value] at reports
  exact reports.congr rfl rfl rfl

end Sys2Proof.Machine
end

section
/-! SETTLE_COMPLETE and SETTLE_TIMEOUT of a SPACE (R36). -/

namespace Sys2Proof.Machine

variable {s t u v : State} {h : InHand} {o : ExpiryOrder}

/-! ## The named events of the generator (log entry 2) -/

/-- What the generator's stage names is named by the expiry, with no crossings and no phase timer before it. -/
theorem mem_events_of_generator (o : ExpiryOrder) {e : ExpiryEvent} (arrival : s.mu.arrival = true)
    (untimed : s.tsq.state.timed = false) (notices : s.mu.notices = [])
    (named : ∀ (r : Run) (a : Bool), r.state = stageStart a s → e ∈ r.generator.events) :
    e ∈ (expiryRun o s).events := by
  have none : (contextOf s).crossings = [] := by simp [contextOf, measured, notices]
  have crossings (u : State) : takeCrossings (contextOf s).crossings u = u := by rw [none]; rfl
  have timer (u : State) : timerStage (contextOf s) u = u := timerStage_of_untimed untimed
  have start : s.onMu Mu.atExpiry = stageStart true s := by
    unfold stageStart withArrival
    rw [← arrival]
    rfl
  have examined : missStage (stageStart true s) = stageStart false s := missStage_of_arrival rfl
  obtain ⟨crossingsFirst, presentFirst, timerFirst, checks⟩ := o
  refine noting_grows intervalReached (checks_grow _ ?_)
  unfold servoRun
  refine whenever_grows _ (whenever_grows _ (whenever_grows _ (whenever_grows _ (named _ (!presentFirst) ?_) ?_) ?_) ?_) ?_
  · cases crossingsFirst <;> cases presentFirst <;> cases timerFirst <;> simp [crossings, timer, start, examined]
  · exact fun r h => h
  · exact fun r => timer_grows
  · exact fun r h => noting_grows _ h
  · exact fun r => timer_grows

theorem noting_names {r : Run} {e : ExpiryEvent} {comes : State → Bool} (h : comes r.state = true) :
    e ∈ (r.noting e comes).events := by
  simp [Run.noting, h]

theorem settleComplete_named {r : Run} (h : settleCompleteComes r.state = true) :
    ExpiryEvent.settleComplete ∈ r.generator.events :=
  noting_grows _ (noting_names (by simpa using h))

theorem settleTimeout_named {r : Run} (h : settleTimeoutComes r.state = true) :
    ExpiryEvent.settleTimeout ∈ r.generator.events :=
  noting_names (by simpa using h)

theorem speedReduced_named {r : Run} (h : speedReducedComes r.state = true) :
    ExpiryEvent.speedReduced ∈ r.generator.events :=
  noting_grows _ (noting_grows _ (noting_names h))

/-! ## The settle step (R36) -/

/-- The state in which the settle step of an expiry outside MOVING finds the generator. -/
def settleStart (a : Bool) (s : State) : State := { stageStart a s with mg := { s.mg with satRun := 0 } }

theorem reduceSpeed_of_settling (a : Bool) (settling : s.tsq.state = .settling) :
    reduceSpeed (stageStart a s) = settleStart a s :=
  reduceSpeed_of_not_moving (by simp [stageStart, withArrival, settling])

theorem settleReached_of_settling (quiet : Undisturbed s) (a : Bool) (settling : s.tsq.state = .settling) {b : Bool}
    (phase : s.mg.phase = .settle b) : settleReached (stageStart a s) = some (settleStart a s) := by
  have reached : (settleStart a s).mg.phase = .settle b := phase
  rw [settleReached, quiet.no_requests a]
  dsimp only
  rw [reduceSpeed_of_settling a settling, reached]

theorem settleCompletes_eq (a : Bool) : settleCompletes (settleStart a s) = decide (s.mc.params.settleCount ≤
    if (settleError s).natAbs ≤ s.mc.params.settleWindow then s.mg.settle.inWindow + 1 else 0) := by
  have test : settleCompletes (settleStart a s) = decide (s.mc.params.settleCount ≤
      if decide ((settleError s).natAbs ≤ s.mc.params.settleWindow) = true then s.mg.settle.inWindow + 1 else 0) := rfl
  simpa only [decide_eq_true_eq] using test

theorem settleCompletes_of_settlesNow (a : Bool) (now : SettlesNow s) : settleCompletes (settleStart a s) = true := by
  obtain ⟨inside, count⟩ := now
  rw [settleCompletes_eq, if_pos inside]
  exact decide_eq_true count

theorem not_settleCompletes (a : Bool) (later : ¬ SettlesNow s) (positive : 1 ≤ s.mc.params.settleCount) :
    settleCompletes (settleStart a s) = false := by
  rw [settleCompletes_eq]
  refine decide_eq_false fun count => ?_
  split at count
  · rename_i inside
    exact later ⟨inside, count⟩
  · omega

/-- R35: the generator that a settle leaves when it ends. -/
def Mg.unsettle (g : Mg) (vt : Int) : Mg := { g.toIdle with vt := vt, delta := vt - g.prevVt, prevVt := vt, satRun := 0 }

/-- R35: the state that a settle hands to the sequencer when it ends. -/
def settled (a : Bool) (s : State) : State :=
  { stageStart a s with mg := s.mg.unsettle (settleValues (settleStart false s)).vt }

theorem generatorStep_of_settle (quiet : Undisturbed s) (a : Bool) (settling : s.tsq.state = .settling) {b : Bool}
    (phase : s.mg.phase = .settle b) : generatorStep (stageStart a s) = settleStep b (settleStart a s) := by
  have reached : (settleStart a s).mg.phase = .settle b := phase
  rw [generatorStep, quiet.no_requests a]
  dsimp only
  rw [reduceSpeed_of_settling a settling, phaseStep, reached]

theorem settleStep_completes {a : Bool} (completes : settleCompletes (settleStart a s) = true) :
    settleStep false (settleStart a s) = (settled a s, some (.settled s.mg.clamped)) := by
  simp only [settleStep, completes, if_true, Bool.false_eq_true, if_false]
  rfl

theorem settleStep_timesOut {a : Bool} (timesOut : settleTimesOut (settleStart a s) = true) :
    settleStep false (settleStart a s) = (settled a s, some (.unsettled (settleError s))) := by
  have later : settleCompletes (settleStart a s) = false := by
    simp only [settleTimesOut, Bool.and_eq_true, Bool.not_eq_true'] at timesOut
    exact timesOut.1
  simp only [settleStep, later, timesOut, if_true, Bool.false_eq_true, if_false]
  rfl

/-- The expiry at which the FINAL settle of a SPACE ends. -/
theorem FinalSettle.outcome (final : FinalSettle h s) (law : OutputLaw s) (due : NothingDue s) (room : Room 1 s)
    (o : ExpiryOrder) {e : MotionEnd} {outcome : OrderOutcome} {pe : Int} (last : e.final = true)
    (step : ∀ a, settleStep false (settleStart a s) = (settled a s, some e))
    (ends : endOutcome h ⟨false, false⟩ e = (outcome, pe)) :
    ∃ t, exec (.periodExpiry o) s = .next t ∧ t.tsq = s.tsq.ended .ready s.tsq.brake s.tsq.vacuum ∧ t.mg.phase = .idle ∧
      t.mg.motion = none ∧ t.wk = s.wk ∧ t.sc = s.sc ∧ AroundMotion s t ∧
      Reports s t [⟨.orderDone, outcome.number, if outcome = .unsettled then pe else newP s - h.pAtTake, some h.seq,
        .ready⟩] ∧ SnapshotByExpiry s t := by
  obtain ⟨quiet, faultless, pair, settling, pump, phase, hand, ⟨leg, code, running⟩, inactive, limit, adjusted⟩ := final
  have calm : Calm s := OnlyMotion.calm ⟨quiet, due, faultless.unfaulted, pair⟩
  have follows : Following s := law.following (by simp [settling, TState.loops]) (by simp [settling, TState.capstanRuns]) pump
  have marks (a : Bool) : chainMarks (settled a s) = ⟨false, false⟩ := by
    change (⟨s.wk.chainLimit, s.wk.adjusted⟩ : ChainMarks) = _
    rw [limit, adjusted]
  have stage (a : Bool) : stageEnd a s = orderEnded outcome pe h (walkerLeft (settled a s)) := by
    have taken := motionEnd_ends (s := settled a s) last hand (.inr (.inl leg)) (follows.congr rfl rfl rfl rfl rfl) room
      (.inl inactive)
    rw [marks a, ends] at taken
    rw [stageEnd, generatorStage, generatorStep_of_settle quiet a settling phase, step a]
    exact taken
  obtain ⟨t, runs, transport, motion, walker, kept⟩ :=
    calm.outcome_of_end o (by simp [settling, TState.timed]) (.inl code) stage
  have stands : (walkerLeft s).wk = s.wk := by simp [walkerLeft, inactive]
  exact ⟨t, runs, transport, by rw [motion]; rfl, by rw [motion]; rfl, walker.trans stands, kept⟩

/-- Settles O19: either end of the settle ends the order in READY, by the same expiry. -/
theorem settleEndsTheOrder : Obligations.SettleEndsTheOrder := by
  unfold Obligations.SettleEndsTheOrder
  refine ⟨?completes, ?timesOut⟩
  case completes =>
    intro h s o final law due room now
    have step (a : Bool) := settleStep_completes (settleCompletes_of_settlesNow a now)
    have said : endOutcome h ⟨false, false⟩ (.settled s.mg.clamped) =
        (if s.mg.clamped then .eotLimit else if h.clamped then .completeClamped else .complete, 0) := by
      rw [endOutcome, final.leg.2.2]
      cases s.mg.clamped <;> cases h.clamped <;> rfl
    obtain ⟨t, runs, transport, phase, motion, walker, cache, ⟨mu, rl, first, later, oi, -, around⟩, reports, snapshot⟩ :=
      final.outcome law due room o rfl step said
    have named : ExpiryEvent.settleComplete ∈ (expiryRun o s).events :=
      mem_events_of_generator o final.pair (by simp [final.settling, TState.timed]) final.quiet.notices
        fun r a start => settleComplete_named (by
          rw [start, settleCompleteComes, settleReached_of_settling final.quiet a final.settling final.phase]
          exact settleCompletes_of_settlesNow a now)
    refine ⟨t, (next_namedExpiry final.quiet.watching named).trans runs, runs, transport, phase, motion, mu, rl, cache, walker,
      first, later, ?_, oi, around, snapshot⟩
    cases clamped : s.mg.clamped <;> cases handClamped : h.clamped <;> rw [clamped, handClamped] at reports <;> exact reports
  case timesOut =>
    intro h s o final law due room later positive elapsed
    have timesOut (a : Bool) : settleTimesOut (settleStart a s) = true := by
      rw [settleTimesOut, not_settleCompletes a later positive, Bool.not_false, Bool.true_and]
      exact decide_eq_true elapsed
    have said : endOutcome h ⟨false, false⟩ (.unsettled (settleError s)) = (.unsettled, settleError s) := by
      rw [endOutcome, final.leg.2.2]
      rfl
    obtain ⟨t, runs, transport, phase, motion, walker, cache, ⟨mu, rl, first, later', oi, -, around⟩, reports, snapshot⟩ :=
      final.outcome law due room o rfl (fun a => settleStep_timesOut (timesOut a)) said
    have named : ExpiryEvent.settleTimeout ∈ (expiryRun o s).events :=
      mem_events_of_generator o final.pair (by simp [final.settling, TState.timed]) final.quiet.notices
        fun r a start => settleTimeout_named (by
          rw [start, settleTimeoutComes, settleReached_of_settling final.quiet a final.settling final.phase]
          exact timesOut a)
    refine ⟨t, (next_namedExpiry final.quiet.watching named).trans runs, runs, transport, phase, motion, mu, rl, cache, walker,
      first, later', reports, oi, around, snapshot⟩

end Sys2Proof.Machine
end

section
/-! SPACE at its take (R78, R81). -/

namespace Sys2Proof.Machine

variable {s t : State} {seq : Byte} {b : Body}

/-! ## The fields of a SPACE (section 12.1, R78) -/

theorem orderFields_distance (b : Body) : (orderFields b).distance = b.w0.toNat % 16777216 := by
  simp [orderFields, bits]

theorem orderFields_speedClass (b : Body) : (orderFields b).speedClass = b.w1.toNat / 256 % 4 := by
  simp [orderFields, bits, Nat.shiftRight_eq_div_pow]

theorem speedClass_lt (b : Body) : b.w1.toNat / 256 % 4 < 4 := Nat.mod_lt _ (by decide)

/-- R78: the speed class as the order in hand holds it. -/
theorem orderFields_clamped (b : Body) : (orderFields b).clamped = { orderFields b with
    speedClass := if b.w1.toNat / 256 % 4 = 3 then 0 else b.w1.toNat / 256 % 4 } := by
  have few := speedClass_lt b
  rw [OrderFields.clamped, orderFields_speedClass]
  by_cases clamps : b.w1.toNat / 256 % 4 = 3
  · rw [if_pos (by omega), if_pos clamps]
  · rw [if_neg (by omega), if_neg clamps, ← orderFields_speedClass]

/-- R78: the order is marked clamped exactly for the class beyond the three. -/
theorem orderFields_clamped_ne (b : Body) :
    decide ((orderFields b).clamped ≠ orderFields b) = decide (b.w1.toNat / 256 % 4 = 3) := by
  refine decide_eq_decide.mpr ⟨fun differs => ?_, fun clamps same => ?_⟩
  · by_contra fits
    refine differs ?_
    rw [orderFields_clamped, if_neg fits, ← orderFields_speedClass]
  · have speedClass := congrArg OrderFields.speedClass same
    rw [orderFields_clamped, orderFields_speedClass, if_pos clamps, clamps] at speedClass
    cases speedClass

/-- R81: the ceiling of the class, of the clamped one too. -/
theorem classSpeed_clamped (p : Params) (n : Nat) : classSpeed p (if n = 3 then 0 else n) =
    if n = 1 then p.searchSpeed else if n = 2 then p.rewindSpeed else p.normalSpeed := by
  by_cases clamps : n = 3
  · simp [classSpeed, clamps]
  · simp [classSpeed, clamps]

/-! ## The take -/

/-- The motion of a SPACE (R81). -/
def spaceMotion (b : Body) (s : State) : Motion :=
  ⟨.space, !b.w1.getLsbD 0, s.mc.params.accel, classSpeed s.mc.params (orderFields b).clamped.speedClass, true⟩

/-- A SPACE in hand, its class clamped (R78). -/
def spaceInHand (seq : Byte) (b : Body) (s : State) : State :=
  takeInHand ⟨seq, .space, b⟩ (orderFields b).clamped (decide ((orderFields b).clamped ≠ orderFields b)) .space s

/-- A SPACE begun in READY at rest: the order in hand, the state, and the motion. -/
def spaceTaken (seq : Byte) (b : Body) (s : State) : State :=
  (stateTaken .moving (spaceInHand seq b s)).onMg fun g =>
    g.begin (spaceMotion b s) (orderFields b).clamped.distance s.mu.p

theorem clamped_distance (b : Body) : (orderFields b).clamped.distance = b.w0.toNat % 16777216 := by
  rw [orderFields_clamped]
  exact orderFields_distance b

theorem clamped_reverse (b : Body) : (orderFields b).clamped.reverse = b.w1.getLsbD 0 := by
  rw [orderFields_clamped]
  rfl

theorem takeSpace_of_distance (rest : ReadyAtRest s) (moves : b.w0.toNat % 16777216 ≠ 0) :
    takeSpace ⟨seq, .space, b⟩ s = spaceTaken seq b s := by
  have distance : ¬ (orderFields b).clamped.distance = 0 := by rwa [clamped_distance]
  have entered : enterKeeping .moving (spaceInHand seq b s) = stateTaken .moving (spaceInHand seq b s) :=
    enterKeeping_of_running rfl rfl rest.brake rest.pump rest.running rest.looping
  have whole : takeSpace ⟨seq, .space, b⟩ s = startMotion
      ⟨.space, !(orderFields b).clamped.reverse, (enterKeeping .moving (spaceInHand seq b s)).mc.params.accel,
        classSpeed (enterKeeping .moving (spaceInHand seq b s)).mc.params (orderFields b).clamped.speedClass, true⟩
      (orderFields b).clamped.distance (enterKeeping .moving (spaceInHand seq b s)) := if_neg distance
  rw [whole, entered, clamped_reverse]
  exact startMotion_of_idle rest.idle

theorem takeSpace_of_none (stays : b.w0.toNat % 16777216 = 0) :
    takeSpace ⟨seq, .space, b⟩ s = doneAtTake .completeClamped 0 seq s := by
  have distance : (orderFields b).clamped.distance = 0 := by rwa [clamped_distance]
  unfold takeSpace
  dsimp only
  rw [if_pos distance]

theorem space_arrives (free : HeadFree seq s) (run : s.mc.mode = .run) (ready : s.tsq.state = .ready) :
    exec (.space seq b) s = .next (orderFetchTest (takeSpace ⟨seq, .space, b⟩ (consumed seq s))) := by
  have taken : takeHead ⟨seq, .space, b⟩ (consumed seq s) = takeSpace ⟨seq, .space, b⟩ (consumed seq s) :=
    takeHead_of_order rfl run (by simp [ready, Code.acceptedIn])
  rw [← taken, ← recordArrives_of_headFree free]
  rfl

/-- Settles O44: a SPACE with a distance begins its motion at the take, one without is answered there. -/
theorem spaceStartsItsMotion : Obligations.SpaceStartsItsMotion := by
  unfold Obligations.SpaceStartsItsMotion
  refine ⟨?moves, ?stays⟩
  case moves =>
    intro s seq b free rest run distance
    have arrives := space_arrives (b := b) free run rest.ready
    rw [takeSpace_of_distance (rest.consumed seq) distance] at arrives
    refine ⟨_, arrives, ⟨orderFetchTest_of_consumed rfl, ?_⟩, ⟨?_, started_of_mg ?_⟩, ?_, ?_, ?_, ?_, ?_, ?_, ?_,
      reports_nil_of_ru (due := s.ru.snapDue || decide (.moving ≠ s.tsq.state)) (n := s.ru.snapCounter) ?_⟩
    all_goals simp only [SnapshotByState, SameSurroundings, SameBus, SameSetup, orderFetchTest_frame]
    case refine_2 =>
      rw [← orderFields_clamped, ← orderFields_clamped_ne]
      rfl
    case refine_3 =>
      rw [← classSpeed_clamped, ← clamped_distance]
      have speedClass : (orderFields b).clamped.speedClass =
          if b.w1.toNat / 256 % 4 = 3 then 0 else b.w1.toNat / 256 % 4 := by rw [orderFields_clamped]
      rw [← speedClass]
      rfl
    case refine_10 => exact ⟨⟨rfl, rfl⟩, rfl, rfl, rfl, rfl, rfl⟩
    case refine_1 => exact ⟨rfl, rfl⟩
    all_goals rfl
  case stays =>
    intro s seq b free run ready distance room
    have arrives := space_arrives (b := b) free run ready
    rw [takeSpace_of_none distance] at arrives
    obtain ⟨reports, due, counter, lines⟩ := doneAtTake_reports (o := .completeClamped) (value := 0) (seq := seq)
      (s := s) (t := consumed seq s) room rfl
    have intake : (doneAtTake .completeClamped 0 seq (consumed seq s)).oi = (consumed seq s).oi := by simp
    have state : (consumed seq s).tsq.state = .ready := ready
    rw [state] at reports
    refine ⟨_, arrives, ⟨orderFetchTest_of_consumed intake, ?_, ?_⟩, ?_, ?_, reports.congr rfl (by simp) (by simp)⟩
    · simpa using due
    · simpa using counter
    · simp [SameTransport]
    · simp [SameSurroundings, SameBus, SameSetup, lines]

end Sys2Proof.Machine
end

section
/-! Expiries in RUN (R22 to R32): the choice, its commit within the stretch, the overrun and the clamp. -/

namespace Sys2Proof.Machine

variable {s t u v : State} {m : Motion} {c : Nat} {g : Mg}

/-! ## The speed reduction finds nothing (R37) -/

/-- R37: without saturation the saturation run is 0 in RUN. -/
theorem reduceSpeed_of_unsaturated (moving : s.tsq.state = .moving) (run : s.mg.phase = .run)
    (supply : satFlag .s s = false) (takeUp : satFlag .t s = false) :
    reduceSpeed s = { s with mg := { s.mg with satRun := 0 } } := by
  have notDue : reductionDue s = false := by simp [reductionDue, supply, takeUp]
  simp [reduceSpeed, notDue, moving, run, supply, takeUp, State.onMg]

/-- R37: in HOLD the saturation run stands. -/
theorem reduceSpeed_of_not_run (moving : s.tsq.state = .moving) (still : s.mg.phase ≠ .run) : reduceSpeed s = s := by
  have notDue : reductionDue s = false := by simp [reductionDue, still]
  simp [reduceSpeed, notDue, moving, still]

theorem satFlag_congr {x : Reel} (rl : t.rl = s.rl) : satFlag x t = satFlag x s := by simp [satFlag, rl]

/-- The state in which the choice of an expiry in RUN finds the generator g. -/
def runStart (a : Bool) (g : Mg) (s : State) : State := { stageStart a s with mg := { g with satRun := 0 } }

/-- R20, R37: an expiry in MOVING and RUN, unsaturated, is the step of RUN from what the requests leave. -/
theorem generatorStep_of_moving {a : Bool} (requests : applyRequests (stageStart a s) = ({ stageStart a s with mg := g }, none))
    (moving : s.tsq.state = .moving) (run : g.phase = .run) (supply : satFlag .s s = false)
    (takeUp : satFlag .t s = false) : generatorStep (stageStart a s) = runStep (runStart a g s) := by
  have reduced : reduceSpeed { stageStart a s with mg := g } = runStart a g s :=
    reduceSpeed_of_unsaturated (s := { stageStart a s with mg := g }) moving run ((satFlag_congr rfl).trans supply)
      ((satFlag_congr rfl).trans takeUp)
  have phase : (runStart a g s).mg.phase = .run := run
  rw [generatorStep, requests]
  dsimp only
  rw [reduced, phaseStep, phase]

/-! ## The choice (R22, R23, R25, R28) -/

theorem ceilingNow_eq (motion : s.mg.motion = some m) : ceilingNow s = topSpeed m.ceiling s := by
  simp only [ceilingNow, motion]
  rfl

/-- R25: an end speed within the ceiling stands. -/
theorem lowerEndSpeed_of_le {top : Nat} (h : s.mg.w ≤ top) : (s.onMg fun g => g.lowerEndSpeed top) = s := by
  simp only [State.onMg, Mg.lowerEndSpeed, Nat.min_eq_left h]

theorem chooseSpeed_of_fit (motion : s.mg.motion = some m) (within : s.mg.w ≤ topSpeed m.ceiling s)
    (fit : fitSpeed s.mg.v s.mg.accel (topSpeed m.ceiling s) s.mg.w s.mg.r = some c) : chooseSpeed s = (c, s) := by
  unfold chooseSpeed
  dsimp only
  rw [ceilingNow_eq motion, lowerEndSpeed_of_le within, fit]

/-- R28: where nothing fits the slowest speed in reach is chosen, and with w = 0 an overrun begins. -/
theorem chooseSpeed_of_none (motion : s.mg.motion = some m) (within : s.mg.w ≤ topSpeed m.ceiling s)
    (nothing : fitSpeed s.mg.v s.mg.accel (topSpeed m.ceiling s) s.mg.w s.mg.r = none) :
    chooseSpeed s = (s.mg.v - s.mg.accel, if s.mg.w = 0 then s.onMg Mg.beginOverrun else s) := by
  unfold chooseSpeed
  dsimp only
  rw [ceilingNow_eq motion, lowerEndSpeed_of_le within, nothing]

theorem fitSpeed_of_nothing {v a top w : Nat} {r : Int} (h : NothingFits v a top w r) : fitSpeed v a top w r = none := by
  obtain ⟨slowest, faster⟩ := h
  unfold fitSpeed
  dsimp only
  rw [largest_eq_none_iff]
  intro x low high
  refine decide_eq_false ?_
  by_cases least : x = v - a
  · subst least
    push_cast at slowest
    omega
  · have tooFar := faster x (by omega) (by omega) (by omega)
    push_cast at tooFar
    omega

/-! ## The commit within the stretch (R22, R27) -/

theorem walkerCommit_of_quiet (quiet : s.wk.active = false ∨ s.mg.stopped = true) : walkerCommit c s = s := by
  rw [walkerCommit, if_neg]
  rintro ⟨active, running⟩
  rcases quiet with inactive | stopped
  · simp [inactive] at active
  · exact running stopped

theorem Mg.committed_eq (g : Mg) (motion : g.motion = some m) (dir : Int) (same : dir = dirSign m.forward) :
    { g.commit c with vt := dir * c, delta := dir * c - g.prevVt, prevVt := dir * c, satRun := 0 } =
      g.committed dir c := by
  simp [Mg.commit, Mg.committed, motion, same]

/-- R22: a choice within a stretch that does not come to rest with it. -/
theorem runStep_of_choice (clamp : applyClamp s = u) (choice : chooseSpeed u = (c, v)) (motion : u.mg.motion = some m)
    (same : v.mg.motion = u.mg.motion) (stretch : v.mg.w = 0) (quiet : v.wk.active = false ∨ v.mg.stopped = true)
    (moves : 1 ≤ c) (run : v.mg.satRun = 0) :
    runStep s = ({ v with mg := v.mg.committed (dirSign m.forward) c }, none) := by
  have commit : runOn c v = v.onMg fun g => g.commit c :=
    walkerCommit_of_quiet (s := v.onMg fun g => g.commit c) quiet
  have within : ¬ (0 < v.mg.w ∧ v.mg.r ≤ c) := by simp [stretch]
  have goesOn : restAfter c (v.onMg fun g => g.commit c) = (v.onMg fun g => g.commit c, none) :=
    if_neg fun rest => by omega
  have direction : dirSign (u.mg.motion.elim true Motion.forward) = dirSign m.forward := by rw [motion]; rfl
  unfold runStep
  rw [clamp]
  simp only [choice, if_neg within, commit, goesOn, direction]
  rw [← Mg.committed_eq v.mg (same.trans motion) _ rfl]
  simp [handOnSpeed, State.onMg, Mg.commit, run]

/-- R32: without an EOT crossing no clamp is in force. -/
theorem applyClamp_of_none (eot : s.mu.eot = none) : applyClamp s = s := by simp [applyClamp, clampPoint, eot]

/-! ## The expiry -/

/-- A calm expiry in RUN that commits a speed within its stretch: g behind the requests, g₁ behind the clamp, g₂ behind
the choice. -/
theorem Calm.commits (calm : Calm s) (o : ExpiryOrder) {g₁ g₂ : Mg}
    (requests : ∀ a, applyRequests (stageStart a s) = ({ stageStart a s with mg := g }, none))
    (moving : s.tsq.state = .moving) (run : g.phase = .run) (supply : satFlag .s s = false) (takeUp : satFlag .t s = false)
    (clamp : ∀ a, applyClamp (runStart a g s) = runStart a g₁ s)
    (choice : ∀ a, chooseSpeed (runStart a g₁ s) = (c, runStart a g₂ s)) (motion : g₁.motion = some m)
    (same : g₂.motion = g₁.motion) (stretch : g₂.w = 0) (quiet : s.wk.active = false ∨ g₂.stopped = true)
    (moves : 1 ≤ c) :
    ∃ t, exec (.periodExpiry o) s = .next t ∧ t.mg = g₂.committed (dirSign m.forward) c ∧ t.tsq = s.tsq ∧ t.wk = s.wk ∧
      t.sc = s.sc ∧ AroundMotion s t ∧ Reports s t [] ∧ SnapshotByExpiry s t := by
  have stage (a : Bool) : stageEnd a s = { stageStart a s with mg := g₂.committed (dirSign m.forward) c } := by
    have step := runStep_of_choice (clamp a) (choice a) motion same stretch quiet moves rfl
    rw [stageEnd, generatorStage, generatorStep_of_moving (requests a) moving run supply takeUp, step]
    rfl
  obtain ⟨t, runs, mg, -, kept⟩ :=
    calm.outcome_of_mg o (by simp [moving, TState.timed]) stage (.inl (by simp [moving]))
  exact ⟨t, runs, mg, kept⟩

/-- Where no clamp is in force and the speed fits. -/
theorem Calm.commits_of_fit (calm : Calm s) (o : ExpiryOrder)
    (requests : ∀ a, applyRequests (stageStart a s) = ({ stageStart a s with mg := g }, none))
    (moving : s.tsq.state = .moving) (run : g.phase = .run) (supply : satFlag .s s = false) (takeUp : satFlag .t s = false)
    (eot : s.mu.eot = none) (motion : g.motion = some m) (stretch : g.w = 0)
    (quiet : s.wk.active = false ∨ g.stopped = true)
    (fit : fitSpeed g.v g.accel (topSpeed m.ceiling { s with mg := g }) 0 g.r = some c) (moves : 1 ≤ c) :
    ∃ t, exec (.periodExpiry o) s = .next t ∧ t.mg = g.committed (dirSign m.forward) c ∧ t.tsq = s.tsq ∧ t.wk = s.wk ∧
      t.sc = s.sc ∧ AroundMotion s t ∧ Reports s t [] ∧ SnapshotByExpiry s t := by
  refine calm.commits o requests moving run supply takeUp (fun a => applyClamp_of_none eot) (fun a => ?_) motion rfl stretch
    quiet moves
  refine chooseSpeed_of_fit (s := runStart a g s) motion ?_ ?_
  · change g.w ≤ _
    rw [stretch]
    exact Nat.zero_le _
  · change fitSpeed g.v g.accel (topSpeed m.ceiling { s with mg := g }) g.w g.r = some c
    rw [stretch]
    exact fit

/-! ## The overrun (R28) -/

/-- R28 (log entry 12): an expiry at which nothing fits. -/
theorem overrun_outcome (calm : OnlyMotion s) (o : ExpiryOrder) (moving : s.tsq.state = .moving) (run : s.mg.phase = .run)
    (motion : s.mg.motion = some m) (stretch : s.mg.w = 0) (eot : s.mu.eot = none) (noChain : s.wk.active = false)
    (supply : satFlag .s s = false) (takeUp : satFlag .t s = false) (faster : s.mg.accel < s.mg.v)
    (nothing : NothingFits s.mg.v s.mg.accel (topSpeed m.ceiling s) 0 s.mg.r) :
    ∃ t, exec (.periodExpiry o) s = .next t ∧
      t.mg = s.mg.beginOverrun.committed (dirSign m.forward) (s.mg.v - s.mg.accel) ∧ t.tsq = s.tsq ∧ t.wk = s.wk ∧
      t.sc = s.sc ∧ AroundMotion s t ∧ Reports s t [] ∧ SnapshotByExpiry s t := by
  refine calm.calm.commits o (fun a => calm.quiet.no_requests a) moving run supply takeUp
    (fun a => applyClamp_of_none eot) (fun a => ?_) motion rfl rfl (.inl noChain) (by omega)
  have within : (runStart a s.mg s).mg.w ≤ topSpeed m.ceiling (runStart a s.mg s) := by
    change s.mg.w ≤ _
    rw [stretch]
    exact Nat.zero_le _
  have chosen := chooseSpeed_of_none (s := runStart a s.mg s) motion within (by
    change fitSpeed s.mg.v s.mg.accel (topSpeed m.ceiling s) s.mg.w s.mg.r = none
    rw [stretch]
    exact fitSpeed_of_nothing nothing)
  have still : (runStart a s.mg s).mg.w = 0 := stretch
  rw [if_pos still] at chosen
  exact chosen

/-! ## The end-of-tape clamp (R32) -/

/-- R32: the generator with its final stop moved to X. -/
def Mg.clampedAt (g : Mg) (x : Int) : Mg :=
  { g with
    r := x - g.q, l := g.d + (x - g.q), w := 0, lookAhead := none, finalStop := true, clamped := true, aim := some x }

/-- R32: the generator with the overrun of X begun. -/
def Mg.clampMissed (g : Mg) (x : Int) : Mg :=
  { g with
    r := brakingDistance g.accel 0 g.v, l := g.d + brakingDistance g.accel 0 g.v, w := 0, lookAhead := none
    finalStop := true, clamped := true, overrun := some ⟨x, false⟩ }

theorem clampPoint_of_eot {pos : Int} (run : s.mg.phase = .run) (motion : s.mg.motion = some m)
    (forward : m.forward = true) (eot : s.mu.eot = some ⟨.eot, true, pos⟩) :
    clampPoint s = some (pos + s.mc.params.eotOverrun) := by
  simp [clampPoint, eot, run, motion, forward]

theorem applyClamp_of_meets {x : Int} (point : clampPoint s = some x) (motion : s.mg.motion = some m)
    (nearer : x - s.mg.q < s.mg.r) (ahead : 0 ≤ x - s.mg.q)
    (meets : (brakingDistance m.accel 0 s.mg.v : Int) ≤ x - s.mg.q) :
    applyClamp s = { s with mg := s.mg.clampedAt x } := by
  have short : ¬ s.mg.r ≤ x - s.mg.q := by omega
  have meets' : (brakingDistance (s.mg.motion.elim s.mg.accel Motion.accel) 0 s.mg.v : Int) ≤ x - s.mg.q := by
    rw [motion]
    exact meets
  simp only [applyClamp, point, State.onMg, if_neg short, if_pos (And.intro meets' ahead)]
  rfl

theorem applyClamp_of_misses {x : Int} (point : clampPoint s = some x) (motion : s.mg.motion = some m)
    (nearer : x - s.mg.q < s.mg.r)
    (misses : x - s.mg.q < 0 ∨ x - s.mg.q < (brakingDistance m.accel 0 s.mg.v : Int)) :
    applyClamp s = { s with mg := s.mg.clampMissed x } := by
  have short : ¬ s.mg.r ≤ x - s.mg.q := by omega
  have fails : ¬ ((brakingDistance (s.mg.motion.elim s.mg.accel Motion.accel) 0 s.mg.v : Int) ≤ x - s.mg.q ∧
      0 ≤ x - s.mg.q) := by
    rw [motion, Option.elim_some]
    omega
  simp only [applyClamp, point, State.onMg, if_neg short, if_neg fails]
  rfl

theorem clampMet_outcome (calm : OnlyMotion s) (o : ExpiryOrder) {pos : Int} (moving : s.tsq.state = .moving)
    (run : s.mg.phase = .run) (motion : s.mg.motion = some m) (forward : m.forward = true)
    (eot : s.mu.eot = some ⟨.eot, true, pos⟩) (noChain : s.wk.active = false) (supply : satFlag .s s = false)
    (takeUp : satFlag .t s = false) (nearer : pos + s.mc.params.eotOverrun - s.mg.q < s.mg.r)
    (ahead : 0 ≤ pos + s.mc.params.eotOverrun - s.mg.q)
    (meets : (brakingDistance m.accel 0 s.mg.v : Int) ≤ pos + s.mc.params.eotOverrun - s.mg.q)
    (fit : Fits s.mg.v s.mg.accel (topSpeed m.ceiling s) 0 (pos + s.mc.params.eotOverrun - s.mg.q) c) (moves : 1 ≤ c) :
    ∃ t, exec (.periodExpiry o) s = .next t ∧
      t.mg = (s.mg.clampedAt (pos + s.mc.params.eotOverrun)).committed (dirSign m.forward) c ∧ t.tsq = s.tsq ∧
      t.wk = s.wk ∧ t.sc = s.sc ∧ AroundMotion s t ∧ Reports s t [] ∧ SnapshotByExpiry s t := by
  refine calm.calm.commits o (g₁ := s.mg.clampedAt (pos + s.mc.params.eotOverrun)) (fun a => calm.quiet.no_requests a)
    moving run supply takeUp (fun a => ?_) (fun a => ?_) motion rfl rfl (.inl noChain) moves
  · exact applyClamp_of_meets (s := runStart a s.mg s) (clampPoint_of_eot run motion forward eot) motion nearer ahead meets
  · exact chooseSpeed_of_fit (s := runStart a (s.mg.clampedAt (pos + s.mc.params.eotOverrun)) s) motion (Nat.zero_le _)
      (fitSpeed_of_fits fit)

theorem clampMissed_outcome (calm : OnlyMotion s) (o : ExpiryOrder) {pos : Int} (moving : s.tsq.state = .moving)
    (run : s.mg.phase = .run) (motion : s.mg.motion = some m) (forward : m.forward = true)
    (eot : s.mu.eot = some ⟨.eot, true, pos⟩) (noChain : s.wk.active = false) (supply : satFlag .s s = false)
    (takeUp : satFlag .t s = false) (positive : 1 ≤ s.mg.accel) (faster : s.mg.accel < s.mg.v)
    (nearer : pos + s.mc.params.eotOverrun - s.mg.q < s.mg.r)
    (misses : pos + s.mc.params.eotOverrun - s.mg.q < 0 ∨
      pos + s.mc.params.eotOverrun - s.mg.q < (brakingDistance m.accel 0 s.mg.v : Int)) :
    ∃ t, exec (.periodExpiry o) s = .next t ∧
      t.mg = (s.mg.clampMissed (pos + s.mc.params.eotOverrun)).committed (dirSign m.forward) (s.mg.v - s.mg.accel) ∧
      t.tsq = s.tsq ∧ t.wk = s.wk ∧ t.sc = s.sc ∧ AroundMotion s t ∧ Reports s t [] ∧ SnapshotByExpiry s t := by
  refine calm.calm.commits o (g₁ := s.mg.clampMissed (pos + s.mc.params.eotOverrun)) (fun a => calm.quiet.no_requests a)
    moving run supply takeUp (fun a => ?_) (fun a => ?_) motion rfl rfl (.inl noChain) (by omega)
  · exact applyClamp_of_misses (s := runStart a s.mg s) (clampPoint_of_eot run motion forward eot) motion nearer misses
  · exact chooseSpeed_of_fit (s := runStart a (s.mg.clampMissed (pos + s.mc.params.eotOverrun)) s) motion (Nat.zero_le _)
      (fitSpeed_of_braking _ positive faster)

end Sys2Proof.Machine
end

section
/-! The period of rest at a final stop (R27, R35): SETTLE begins. -/

namespace Sys2Proof.Machine

variable {s t u v : State} {m : Motion} {c : Nat} {g : Mg} {h : InHand}

/-! ## SETTLE begins (R35, R36) -/

/-- The target of a settle that a rest in this generator begins (R28, R35). -/
def Mg.settleTarget (g : Mg) : Int :=
  match g.overrun with
  | some x => x.point
  | none => g.aim.getD g.q

/-- R35, R36: the generator with its FINAL settle begun. -/
def Mg.settling (g : Mg) (target : Int) : Mg :=
  { g with
    phase := .settle false, settle := ⟨target, 0, 0⟩, overrun := none, v := 0, lookAhead := none, vt := 0, prevVt := 0
    delta := -g.prevVt, satRun := 0 }

/-- R35: a rest at the final stop of a motion that settles, or of an overrun that is no boundary's. -/
theorem restEnd_of_final (motion : s.mg.motion = some m) (settles : m.settles = true) (final : s.mg.finalStop = true)
    (running : s.mg.stopped = false) (own : s.mg.overrun.any Overrun.boundary = false) :
    restEnd s = (beginSettle s.mg.settleTarget false s, some .settleStarted) := by
  unfold restEnd Mg.settleTarget
  rw [if_neg (by simp [running])]
  cases overrun : s.mg.overrun with
  | none => simp [final, motion, settles]
  | some x =>
    have notBoundary : x.boundary = false := by simpa [overrun] using own
    simp [notBoundary]

/-- R27: a stretch of w = 0 with no count left and no speed to commit is at rest. -/
theorem runStep_of_rest (clamp : applyClamp s = s) (choice : chooseSpeed s = (0, s)) (stretch : s.mg.w = 0)
    (spent : s.mg.r ≤ 0) (noChain : s.wk.active = false) (run : s.mg.satRun = 0) (motion : s.mg.motion = some m)
    (settles : m.settles = true) (final : s.mg.finalStop = true) (running : s.mg.stopped = false)
    (own : s.mg.overrun.any Overrun.boundary = false) :
    runStep s = ({ s with mg := s.mg.settling s.mg.settleTarget }, some .settleStarted) := by
  have still : s.onMg (fun g => g.commit 0) = { s with mg := { s.mg with v := 0 } } := by simp [State.onMg, Mg.commit]
  have commit : runOn 0 s = { s with mg := { s.mg with v := 0 } } := by
    rw [runOn, still]
    exact walkerCommit_of_quiet (s := { s with mg := { s.mg with v := 0 } }) (.inl noChain)
  have within : ¬ (0 < s.mg.w ∧ s.mg.r ≤ (0 : Nat)) := by simp [stretch]
  have rests : restAfter 0 { s with mg := { s.mg with v := 0 } } = restEnd { s with mg := { s.mg with v := 0 } } :=
    if_pos ⟨stretch, rfl, spent⟩
  have ends := restEnd_of_final (s := { s with mg := { s.mg with v := 0 } }) motion settles final running own
  unfold runStep
  rw [clamp]
  simp only [choice, if_neg within, commit, rests, ends]
  simp [handOnSpeed, beginSettle, State.onMg, Mg.settling, Mg.settleTarget, run]

/-- R22: with nothing left only the rest fits. -/
theorem fitSpeed_of_spent {v a top : Nat} (slow : v ≤ a) : fitSpeed v a top 0 0 = some 0 := by
  refine fitSpeed_of_fits ⟨⟨by omega, by omega, by omega, ?_⟩, fun c _ moves _ => by omega⟩
  have none : brakingDistance a 0 0 = 0 := rfl
  simp [none]

/-! ## The sequencer's take (R84) -/

/-- SETTLING taken with WRITE ENABLE dropped. -/
def settlingTaken (s : State) : State := dropWriteEnable (stateTaken .settling s)

theorem motionEnd_of_settleStarted (follows : Following s) (hand : s.tsq.inHand = some h) :
    motionEnd .settleStarted s = settlingTaken s := by
  have entered : enterKeeping .settling s = stateTaken .settling s := enterKeeping_of_following follows rfl rfl
  simp only [motionEnd, hand, Option.isSome_some, if_true, entered, settlingTaken]

/-- R27, R35, R36: the expiry of rest at a final stop. -/
theorem rest_outcome (calm : OnlyMotion s) (o : ExpiryOrder) (law : OutputLaw s) (moving : s.tsq.state = .moving)
    (pump : s.tsq.vacuum = true) (run : s.mg.phase = .run) (motion : s.mg.motion = some m) (settles : m.settles = true)
    (hand : s.tsq.inHand = some h) (stretch : s.mg.w = 0) (spent : s.mg.r = 0) (slow : s.mg.v ≤ s.mg.accel)
    (final : s.mg.finalStop = true) (running : s.mg.stopped = false) (own : s.mg.overrun.any Overrun.boundary = false)
    (eot : s.mu.eot = none) (noChain : s.wk.active = false) (supply : satFlag .s s = false)
    (takeUp : satFlag .t s = false) :
    ∃ t, exec (.periodExpiry o) s = .next t ∧ t.tsq = { s.tsq with state := .settling, writeEnable := false } ∧
      t.mg = s.mg.settling s.mg.settleTarget ∧ t.wk = s.wk ∧ t.sc = s.sc ∧ AroundMotion s t ∧ Reports s t [] ∧
      SnapshotByExpiry s t := by
  have follows : Following s := law.following (by simp [moving, TState.loops]) (by simp [moving, TState.capstanRuns]) pump
  have choice (a : Bool) : chooseSpeed (runStart a s.mg s) = (0, runStart a s.mg s) := by
    refine chooseSpeed_of_fit (s := runStart a s.mg s) motion ?_ ?_
    · change s.mg.w ≤ _
      rw [stretch]
      exact Nat.zero_le _
    · change fitSpeed s.mg.v s.mg.accel (topSpeed m.ceiling s) s.mg.w s.mg.r = some 0
      rw [stretch, spent]
      exact fitSpeed_of_spent slow
  have stage (a : Bool) : stageEnd a s =
      settlingTaken { stageStart a s with mg := s.mg.settling s.mg.settleTarget } := by
    have step := runStep_of_rest (s := runStart a s.mg s) (applyClamp_of_none eot) (choice a) stretch (Int.le_of_eq spent)
      noChain rfl motion settles final running own
    rw [stageEnd, generatorStage, generatorStep_of_moving (calm.quiet.no_requests a) moving run supply takeUp]
    change (match runStep (runStart a s.mg s) with | (s, e) => motionEnds e s) = _
    rw [step]
    exact motionEnd_of_settleStarted (s := { stageStart a s with mg := s.mg.settling s.mg.settleTarget })
      (follows.congr rfl rfl rfl rfl rfl) hand
  obtain ⟨a, t, runs, motion', transport, walker, cache, -, around, said, -, snapshot⟩ :=
    calm.calm.outcome o (by simp [moving, TState.timed])
      (fun a => by
        rw [stage a]
        exact ⟨rfl, rfl, rfl, ⟨rfl, rfl⟩, rfl, rfl, ⟨⟨rfl, rfl⟩, rfl, rfl, rfl, rfl, rfl⟩, rfl, rfl⟩)
      fun a => by
        rw [stage a]
        exact halt_not_finds (.inl nofun)
  rw [stage a] at motion' transport walker cache said
  exact ⟨t, runs, transport, motion', walker, cache, around,
    said [] (reports_nil_of_ru (due := s.ru.snapDue || decide (.settling ≠ s.tsq.state)) (n := s.ru.snapCounter) rfl),
    snapshot⟩

end Sys2Proof.Machine
end

section
/-! The entry of a segment (R64, R65, R68): what its visit, its report, its hand-on and its WRITE ENABLE come to. -/

namespace Sys2Proof.Machine

variable {s t u v : State} {m : Motion} {c : Nat} {g : Mg} {h : InHand} {k : Fin 32} {seg : Segment}

/-! ## The steps of R65 -/

/-- R71: no APPROACH is due of this segment. -/
def ApproachQuiet (s : State) (seg : Segment) : Prop :=
  s.wk.approachReports = false ∨ seg.approach = 0 ∨ seg.distance = 0

theorem testApproach_of_quiet (current : s.wk.current = some (k, seg)) (quiet : ApproachQuiet s seg) :
    testApproach s = s := by
  unfold testApproach
  rw [current]
  refine if_neg ?_
  rintro ⟨reports, approach, distance, -⟩
  rcases quiet with off | none | empty
  · simp [off] at reports
  · exact approach none
  · exact distance empty

/-- R84: WRITE ENABLE as the entry of a segment sets it. -/
def writesAt (seg : Segment) (s : State) : Bool :=
  match s.tsq.inHand with
  | none => false
  | some h =>
    decide (h.code = .runChain) && h.fields.writeIntent && !h.stopping && !seg.reverse && seg.write && level .writeRing s

theorem writesAt_of_hand (hand : s.tsq.inHand = some h) : writesAt seg s =
    (decide (h.code = .runChain) && h.fields.writeIntent && !h.stopping && !seg.reverse && seg.write &&
      level .writeRing s) := by
  simp only [writesAt, hand]

/-- The generator, the walker and WRITE ENABLE after steps 5 to 8 of an entry (R65). -/
def segmentGiven (seg : Segment) (before : Int) (c : Nat) (last : Bool) (w : Nat) (copy : Option (Fin 32 × Segment))
    (s : State) : State :=
  { s with
    mg := s.mg.given seg before last w copy
    wk := { s.wk with g := before + seg.distance - c, approachDone := false }
    tsq := { s.tsq with writeEnable := writesAt seg s } }

theorem giveSegment_of_last (before : Int) (c : Nat) (last : handedLast seg s = true)
    (current : s.wk.current = some (k, seg)) (quiet : ApproachQuiet s seg) :
    giveSegment seg before c s = segmentGiven seg before c true 0 none s := by
  have tested (g : Mg) : testApproach { s with
      mg := g, wk := { s.wk with g := before + seg.distance - c, approachDone := false } } = { s with
      mg := g, wk := { s.wk with g := before + seg.distance - c, approachDone := false } } :=
    testApproach_of_quiet (k := k) (seg := seg) current quiet
  simp only [giveSegment, last, if_true, State.onMg, State.onWk, tested]
  rfl

theorem giveSegment_of_more (before : Int) (c : Nat) (more : handedLast seg s = false) {w : Nat}
    {copy : Option (Fin 32 × Segment)} (ahead : lookAhead seg s = (w, copy, u)) (current : u.wk.current = some (k, seg))
    (quiet : ApproachQuiet u seg) : giveSegment seg before c s = segmentGiven seg before c false w copy u := by
  have tested (g : Mg) : testApproach { u with
      mg := g, wk := { u.wk with g := before + seg.distance - c, approachDone := false } } = { u with
      mg := g, wk := { u.wk with g := before + seg.distance - c, approachDone := false } } :=
    testApproach_of_quiet (k := k) (seg := seg) current quiet
  simp only [giveSegment, more, Bool.false_eq_true, if_false, ahead, State.onMg, State.onWk, tested]
  rfl

theorem visitLimit_of_last (last : seg.last = true) : visitLimit seg s = s := by simp [visitLimit, last]

theorem visitLimit_of_few (few : s.wk.visits ≠ 32) : visitLimit seg s = s := by
  simp [visitLimit, few, Config.visitMax]

theorem handedLast_of_last (last : seg.last = true) : handedLast seg s = true := by simp [handedLast, last]

theorem handedLast_of_few (more : seg.last = false) (few : s.wk.visits ≠ 32) : handedLast seg s = false := by
  simp [handedLast, more, few, Config.visitMax]

/-- R65, step 3: the SEGMENT EMPTY report of a segment whose distance is 0. -/
def emptyReport (k : Fin 32) (s : State) : Report :=
  makeReport .segmentEmpty k.val s.wk.visits (some s.wk.seq) s

/-- The Report Unit after step 3. -/
def emptyRu (k : Fin 32) (seg : Segment) (s : State) : Ru :=
  if seg.distance = 0 then (reported (emptyReport k s) s).ru else s.ru

theorem reportEmpty_eq (said : seg.distance = 0 → s.mc.params.mask.segmentEmpty = true ∧ Room 1 s) :
    reportEmpty k seg s = { s with ru := emptyRu k seg s } := by
  unfold reportEmpty emptyRu
  by_cases empty : seg.distance = 0
  · obtain ⟨mask, room⟩ := said empty
    have room' : s.ru.pendingReports.length < 4 := by
      unfold Room at room
      exact Nat.lt_of_succ_le room
    rw [if_pos empty, if_pos empty]
    exact generate_of_room (kind := .segmentEmpty) _ _ _ mask room'
  · rw [if_neg empty, if_neg empty]

theorem emptyRu_reports (mu : t.mu = s.mu) (ru : t.ru = emptyRu k seg s) : Reports s t
    (if seg.distance = 0 then [⟨.segmentEmpty, k.val, s.wk.visits, some s.wk.seq, s.tsq.state⟩] else []) := by
  by_cases empty : seg.distance = 0
  · rw [if_pos empty]
    rw [emptyRu, if_pos empty] at ru
    exact (reported_reports .segmentEmpty k.val s.wk.visits (some s.wk.seq) s).congr rfl ru mu
  · rw [if_neg empty]
    rw [emptyRu, if_neg empty] at ru
    exact reports_nil_of_ru (due := s.ru.snapDue) (n := s.ru.snapCounter) ru

theorem emptyRu_snapshot (k : Fin 32) (seg : Segment) (s : State) :
    (emptyRu k seg s).snapDue = s.ru.snapDue ∧ (emptyRu k seg s).snapCounter = s.ru.snapCounter := by
  unfold emptyRu
  split <;> exact ⟨rfl, rfl⟩

end Sys2Proof.Machine
end

section
/-! A boundary passed into a last segment (R26, R28, R65, R68, R84). -/

namespace Sys2Proof.Machine

variable {s t u v : State} {m : Motion} {c : Nat} {g : Mg} {h : InHand} {k : Fin 32} {seg : Segment} {n : Segment}

/-- What an expiry that passes a boundary into a last segment asks of the chain. -/
structure LastAhead (k : Fin 32) (n : Segment) (s : State) : Prop where
  active : s.wk.active = true
  quiet : s.wk.approachReports = false
  running : s.mg.stopped = false
  ahead : s.mg.lookAhead = some (k, n)
  copy : s.sc.entries.get k = .valid n
  last : n.last = true
  said : n.distance = 0 → s.mc.params.mask.segmentEmpty = true ∧ Room 1 s

/-- R71: without APPROACH reports the commit moves g alone. -/
theorem walkerCommit_of_silent (active : s.wk.active = true) (quiet : s.wk.approachReports = false)
    (running : s.mg.stopped = false) : walkerCommit c s = { s with wk := { s.wk with g := s.wk.g - c } } := by
  have silent : testApproach { s with wk := { s.wk with g := s.wk.g - c } } =
      { s with wk := { s.wk with g := s.wk.g - c } } := by
    unfold testApproach
    cases current : s.wk.current with
    | none => simp [current]
    | some x => simp [current, quiet]
  rw [walkerCommit, if_pos ⟨active, by simp [running]⟩]
  exact silent

/-- The walker after the entry of segment k with this g (R65). -/
def Wk.visited (w : Wk) (k : Fin 32) (seg : Segment) (g : Int) : Wk :=
  { w with
    visits := w.visits + 1, inUse := if k ∈ w.inUse then w.inUse else k :: w.inUse, current := some (k, seg)
    awaited := none, g := g, approachDone := false, adjusted := w.adjusted || seg.adjusted }

/-- The Report Unit after an entry at this visit (R65, step 3). -/
def visitRu (k : Fin 32) (seg : Segment) (s : State) : Ru := emptyRu k seg (countVisit k seg s)

/-- The state after the last segment ahead has been entered with c counts (R26, R65). -/
def lastEntered (k : Fin 32) (n : Segment) (c : Nat) (s : State) : State :=
  { s with
    mg := s.mg.given n s.mg.r true 0 none
    wk := s.wk.visited k n (s.mg.r + n.distance - c)
    tsq := { s.tsq with writeEnable := writesAt n s }
    ru := visitRu k n s }

theorem giveSegment_of_lastAhead (quiet : s.wk.approachReports = false) (last : n.last = true) :
    giveSegment n s.mg.r c { countVisit k n s with ru := visitRu k n s } = lastEntered k n c s :=
  giveSegment_of_last (s := { countVisit k n s with ru := visitRu k n s }) (k := k) s.mg.r c (handedLast_of_last last) rfl
    (.inl quiet)

/-- R26, R28: the boundary into a last segment passed: an overrun begins where the surplus reaches its end. -/
theorem passBoundary_of_last (quiet : s.wk.approachReports = false) (la : s.mg.lookAhead = some (k, n))
    (copy : s.sc.entries.get k = .valid n) (last : n.last = true)
    (said : n.distance = 0 → s.mc.params.mask.segmentEmpty = true ∧ Room 1 s) (rounds : Nat) :
    passBoundary (rounds + 1) c s =
      if (c : Int) < s.mg.r + n.distance then lastEntered k n c s else (lastEntered k n c s).onMg Mg.beginOverrun := by
  have kept : keepLookAhead k n s = s := by
    have usable : entryOf k s = .valid n := copy
    simp [keepLookAhead, usable, CacheEntry.copy]
  have reported : reportEmpty k n (countVisit k n s) = { countVisit k n s with ru := visitRu k n s } :=
    reportEmpty_eq (s := countVisit k n s) said
  have given := giveSegment_of_lastAhead (k := k) (c := c) quiet last
  have stops : ¬ 0 < (lastEntered k n c s).mg.w := Nat.lt_irrefl 0
  unfold passBoundary
  rw [la]
  dsimp only
  rw [kept, visitLimit_of_last last, reported]
  change (if (c : Int) < (giveSegment n s.mg.r c { countVisit k n s with ru := visitRu k n s }).mg.r then
      giveSegment n s.mg.r c { countVisit k n s with ru := visitRu k n s }
    else if 0 < (giveSegment n s.mg.r c { countVisit k n s with ru := visitRu k n s }).mg.w then
      passBoundary rounds c (giveSegment n s.mg.r c { countVisit k n s with ru := visitRu k n s })
    else (giveSegment n s.mg.r c { countVisit k n s with ru := visitRu k n s }).onMg Mg.beginOverrun) = _
  rw [given, if_neg stops]
  rfl

theorem passBoundary_of_lastAhead (ahead : LastAhead k n s) (rounds : Nat) :
    passBoundary (rounds + 1) c (walkerCommit c s) =
      if (c : Int) < s.mg.r + n.distance then lastEntered k n c s else (lastEntered k n c s).onMg Mg.beginOverrun := by
  obtain ⟨active, quiet, running, la, copy, last, said⟩ := ahead
  rw [walkerCommit_of_silent active quiet running]
  exact passBoundary_of_last (s := { s with wk := { s.wk with g := s.wk.g - c } }) quiet la copy last said rounds

/-! ## The step of RUN -/

/-- R26, R27: a choice that passes the boundary ahead. -/
theorem runStep_of_pass {p : State} (clamp : applyClamp s = s) (choice : chooseSpeed s = (c, s)) (motion : s.mg.motion = some m)
    (flows : 0 < s.mg.w) (reaches : s.mg.r ≤ c) (pass : passBoundary entryRounds c (walkerCommit c s) = p) :
    runStep s = (handOnSpeed (dirSign m.forward * passCount c p.mg)
        (restAfter (passCount c p.mg) (p.onMg fun g => g.commit (passCount c p.mg))).1,
      (restAfter (passCount c p.mg) (p.onMg fun g => g.commit (passCount c p.mg))).2) := by
  have direction : dirSign (s.mg.motion.elim true Motion.forward) = dirSign m.forward := by rw [motion]; rfl
  unfold runStep
  rw [clamp]
  simp only [choice, if_pos (And.intro flows reaches), runPast, pass, direction]

/-- The generator in the last segment ahead (R26, R65), whose direction is the motion's. -/
def Mg.past (g : Mg) (m : Motion) (n : Segment) : Mg :=
  { g with
    motion := some { m with accel := n.accel, ceiling := n.vmax }, accel := n.accel, w := 0, lookAhead := none
    finalStop := true }

theorem given_eq_past (run : g.phase = .run) (motion : g.motion = some m) (along : n.reverse = !m.forward) :
    g.given n g.r true 0 none = { g.past m n with l := g.l + n.distance, r := g.r + n.distance } := by
  have forward : (!n.reverse) = m.forward := by rw [along, Bool.not_not]
  simp only [Mg.given, Mg.past, motion, Option.map_some, forward, ← run]

/-- R26: the commit within the segment entered. -/
theorem runStep_into_last (ahead : LastAhead k n s) (clamp : applyClamp s = s) (choice : chooseSpeed s = (c, s))
    (run : s.mg.phase = .run) (motion : s.mg.motion = some m) (along : n.reverse = !m.forward) (flows : 0 < s.mg.w)
    (reaches : s.mg.r ≤ c) (overrun : s.mg.overrun = none) (unsaturated : s.mg.satRun = 0)
    (within : (c : Int) < s.mg.r + n.distance) :
    runStep s = ({ lastEntered k n c s with mg := { s.mg.past m n with
      l := s.mg.l + n.distance, r := s.mg.r + n.distance }.committed (dirSign m.forward) c }, none) := by
  have given := given_eq_past (g := s.mg) (n := n) run motion along
  have pass : passBoundary entryRounds c (walkerCommit c s) = lastEntered k n c s :=
    (passBoundary_of_lastAhead ahead 32).trans (if_pos within)
  have count : passCount c (lastEntered k n c s).mg = c := by simp [passCount, lastEntered, given, Mg.past, overrun]
  have goesOn : restAfter c ((lastEntered k n c s).onMg fun g => g.commit c) =
      ((lastEntered k n c s).onMg fun g => g.commit c, none) := by
    refine if_neg ?_
    rintro ⟨-, -, spent⟩
    have left : ((lastEntered k n c s).onMg fun g => g.commit c).mg.r = s.mg.r + n.distance - c := rfl
    omega
  rw [runStep_of_pass clamp choice motion flows reaches pass, count, goesOn]
  simp [lastEntered, given, handOnSpeed, State.onMg, Mg.commit, Mg.committed, Mg.past, unsaturated]

/-- The generator in the last segment ahead with its end overrun (R28; log entries 13 and 36). -/
def Mg.pastOver (g : Mg) (m : Motion) (n : Segment) : Mg :=
  { g.past m n with
    overrun := some ⟨g.q + dirSign m.forward * (g.r + n.distance), false⟩
    l := g.d + brakingDistance n.accel 0 g.v, r := brakingDistance n.accel 0 g.v }

theorem given_beginOverrun (run : g.phase = .run) (motion : g.motion = some m) (along : n.reverse = !m.forward) :
    (g.given n g.r true 0 none).beginOverrun = g.pastOver m n := by
  rw [given_eq_past run motion along]
  rfl

theorem passBoundary_overruns (ahead : LastAhead k n s) (run : s.mg.phase = .run) (motion : s.mg.motion = some m)
    (along : n.reverse = !m.forward) (beyond : s.mg.r + n.distance ≤ c) :
    passBoundary entryRounds c (walkerCommit c s) = { lastEntered k n c s with mg := s.mg.pastOver m n } := by
  refine ((passBoundary_of_lastAhead ahead 32).trans (if_neg (Int.not_lt.mpr beyond))).trans ?_
  rw [← given_beginOverrun run motion along]
  rfl

/-- R28: the overrun of the segment entered, from a speed that the period does not take to 0. -/
theorem runStep_over_last (ahead : LastAhead k n s) (clamp : applyClamp s = s) (choice : chooseSpeed s = (c, s))
    (run : s.mg.phase = .run) (motion : s.mg.motion = some m) (along : n.reverse = !m.forward) (flows : 0 < s.mg.w)
    (reaches : s.mg.r ≤ c) (unsaturated : s.mg.satRun = 0) (beyond : s.mg.r + n.distance ≤ c) (faster : n.accel < s.mg.v) :
    runStep s = ({ lastEntered k n c s with
      mg := (s.mg.pastOver m n).committed (dirSign m.forward) (s.mg.v - n.accel) }, none) := by
  have goesOn (u : State) : restAfter (s.mg.v - n.accel) u = (u, none) := if_neg fun rest => by omega
  rw [runStep_of_pass clamp choice motion flows reaches (passBoundary_overruns ahead run motion along beyond)]
  have count : passCount c (s.mg.pastOver m n) = s.mg.v - n.accel := rfl
  simp only [count, goesOn]
  simp [handOnSpeed, State.onMg, Mg.commit, Mg.committed, Mg.pastOver, Mg.past, unsaturated]

theorem brakingDistance_of_slow {a v : Nat} (slow : v ≤ a) : brakingDistance a 0 v = 0 := by
  rcases Nat.eq_zero_or_pos a with zero | positive
  · obtain rfl : v = 0 := by omega
    rfl
  · rw [brakingDistance_eq 0 positive, if_pos (by omega)]

/-- R28: the overrun of the segment entered, from a speed that one period takes to 0: it is at rest at once. -/
theorem runStep_rests_over_last (ahead : LastAhead k n s) (clamp : applyClamp s = s) (choice : chooseSpeed s = (c, s))
    (run : s.mg.phase = .run) (motion : s.mg.motion = some m) (along : n.reverse = !m.forward) (flows : 0 < s.mg.w)
    (reaches : s.mg.r ≤ c) (unsaturated : s.mg.satRun = 0) (beyond : s.mg.r + n.distance ≤ c) (slow : s.mg.v ≤ n.accel) :
    runStep s = ({ lastEntered k n c s with mg :=
      { s.mg.past m n with l := s.mg.d, r := 0 }.settling (s.mg.q + dirSign m.forward * (s.mg.r + n.distance)) },
      some .settleStarted) := by
  have stops : s.mg.v - n.accel = 0 := by omega
  have count : passCount c (s.mg.pastOver m n) = 0 := stops
  have braked := brakingDistance_of_slow slow
  rw [runStep_of_pass clamp choice motion flows reaches (passBoundary_overruns ahead run motion along beyond)]
  simp only [count]
  have commit : (({ lastEntered k n c s with mg := s.mg.pastOver m n } : State).onMg fun g => g.commit 0) =
      { lastEntered k n c s with mg := { s.mg.pastOver m n with v := 0 } } := by simp [State.onMg, Mg.commit]
  have rests : restAfter 0 { lastEntered k n c s with mg := { s.mg.pastOver m n with v := 0 } } =
      restEnd { lastEntered k n c s with mg := { s.mg.pastOver m n with v := 0 } } := by
    refine if_pos ⟨rfl, rfl, ?_⟩
    simp [Mg.pastOver, braked]
  have ends : restEnd { lastEntered k n c s with mg := { s.mg.pastOver m n with v := 0 } } =
      (beginSettle (s.mg.q + dirSign m.forward * (s.mg.r + n.distance)) false
        { lastEntered k n c s with mg := { s.mg.pastOver m n with v := 0 } }, some .settleStarted) := by
    simp [restEnd, Mg.pastOver, Mg.past, ahead.running]
  rw [commit, rests, ends]
  simp [handOnSpeed, beginSettle, State.onMg, Mg.settling, Mg.pastOver, Mg.past, braked, unsaturated]

end Sys2Proof.Machine
end

section
/-! The expiries in RUN: which choice passes a boundary, what the whole expiry leaves, and the statement. -/

namespace Sys2Proof.Machine

variable {s t u v : State} {m : Motion} {c : Nat} {g : Mg} {h : InHand} {k : Fin 32} {n : Segment}

/-! ## The ceiling (R23) -/

theorem le_topSpeed_iff {ceiling : Nat} : c ≤ topSpeed ceiling s ↔
    c ≤ ceiling ∧ c ≤ s.mc.params.globalLimit ∧ c ≤ s.mg.reduction.getD c := by
  unfold topSpeed
  cases s.mg.reduction <;> simp

/-! ## Past the boundary into a last segment -/

/-- R22, R28: the choice of an expiry whose stretch ends in a boundary. -/
theorem chooseSpeed_of_flow (motion : s.mg.motion = some m) (flows : 0 < s.mg.w) (within : s.mg.w ≤ topSpeed m.ceiling s)
    (chosen : Fits s.mg.v s.mg.accel (topSpeed m.ceiling s) s.mg.w s.mg.r c ∨
      (NothingFits s.mg.v s.mg.accel (topSpeed m.ceiling s) s.mg.w s.mg.r ∧ c = s.mg.v - s.mg.accel)) :
    chooseSpeed s = (c, s) := by
  rcases chosen with fits | ⟨nothing, rfl⟩
  · exact chooseSpeed_of_fit motion within (fitSpeed_of_fits fits)
  · rw [chooseSpeed_of_none motion within (fitSpeed_of_nothing nothing), if_neg (Nat.ne_of_gt flows)]

/-- What a calm expiry in MOVING whose choice reaches the boundary ahead asks of the motion and its chain. -/
structure Passing (m : Motion) (k : Fin 32) (n : Segment) (c : Nat) (s : State) : Prop where
  calm : OnlyMotion s
  moving : s.tsq.state = .moving
  run : s.mg.phase = .run
  motion : s.mg.motion = some m
  ahead : LastAhead k n s
  along : n.reverse = !m.forward
  overrun : s.mg.overrun = none
  eot : s.mu.eot = none
  supply : satFlag .s s = false
  takeUp : satFlag .t s = false
  flows : 0 < s.mg.w
  within : s.mg.w ≤ topSpeed m.ceiling s
  chosen : Fits s.mg.v s.mg.accel (topSpeed m.ceiling s) s.mg.w s.mg.r c ∨
    (NothingFits s.mg.v s.mg.accel (topSpeed m.ceiling s) s.mg.w s.mg.r ∧ c = s.mg.v - s.mg.accel)
  reaches : s.mg.r ≤ c

theorem Passing.lastAhead (p : Passing m k n c s) (a : Bool) : LastAhead k n (runStart a s.mg s) := by
  obtain ⟨active, quiet, running, ahead, copy, last, said⟩ := p.ahead
  exact ⟨active, quiet, running, ahead, copy, last, said⟩

theorem Passing.choice (p : Passing m k n c s) (a : Bool) :
    chooseSpeed (runStart a s.mg s) = (c, runStart a s.mg s) :=
  chooseSpeed_of_flow (s := runStart a s.mg s) p.motion p.flows p.within p.chosen

theorem Passing.stage (p : Passing m k n c s) (a : Bool) {e : Option MotionEnd}
    (step : runStep (runStart a s.mg s) = (v, e)) : stageEnd a s = motionEnds e v := by
  have whole := generatorStep_of_moving (g := s.mg) (p.calm.quiet.no_requests a) p.moving p.run p.supply p.takeUp
  rw [stageEnd, generatorStage, whole.trans step]

theorem Passing.clamp (p : Passing m k n c s) (a : Bool) : applyClamp (runStart a s.mg s) = runStart a s.mg s :=
  applyClamp_of_none p.eot

theorem Passing.stage_into (p : Passing m k n c s) (a : Bool) (inside : (c : Int) < s.mg.r + n.distance) :
    stageEnd a s = { lastEntered k n c (stageStart a s) with mg := { s.mg.past m n with
      l := s.mg.l + n.distance, r := s.mg.r + n.distance }.committed (dirSign m.forward) c } :=
  p.stage a (runStep_into_last (s := runStart a s.mg s) (p.lastAhead a) (p.clamp a) (p.choice a) p.run p.motion p.along
    p.flows p.reaches p.overrun rfl inside)

theorem Passing.stage_over (p : Passing m k n c s) (a : Bool) (beyond : s.mg.r + n.distance ≤ c)
    (faster : n.accel < s.mg.v) :
    stageEnd a s = { lastEntered k n c (stageStart a s) with
      mg := (s.mg.pastOver m n).committed (dirSign m.forward) (s.mg.v - n.accel) } :=
  p.stage a (runStep_over_last (s := runStart a s.mg s) (p.lastAhead a) (p.clamp a) (p.choice a) p.run p.motion p.along
    p.flows p.reaches rfl beyond faster)

/-- R28, R35: the generator that the overrun of the segment entered leaves at rest at once. -/
def Mg.pastRest (g : Mg) (m : Motion) (n : Segment) : Mg :=
  { g.past m n with l := g.d, r := 0 }.settling (g.q + dirSign m.forward * (g.r + n.distance))

theorem Passing.stage_rest (p : Passing m k n c s) (a : Bool) (law : OutputLaw s) (pump : s.tsq.vacuum = true)
    (hand : s.tsq.inHand = some h) (beyond : s.mg.r + n.distance ≤ c) (slow : s.mg.v ≤ n.accel) :
    stageEnd a s = settlingTaken { lastEntered k n c (stageStart a s) with mg := s.mg.pastRest m n } := by
  have follows : Following s :=
    law.following (by simp [p.moving, TState.loops]) (by simp [p.moving, TState.capstanRuns]) pump
  have step := runStep_rests_over_last (s := runStart a s.mg s) (p.lastAhead a) (p.clamp a) (p.choice a) p.run p.motion
    p.along p.flows p.reaches rfl beyond slow
  refine (p.stage a step).trans ?_
  exact motionEnd_of_settleStarted (s := { lastEntered k n c (stageStart a s) with mg := s.mg.pastRest m n })
    (follows.congr rfl rfl rfl rfl rfl) hand

/-- R65, step 3, at the visit of this entry. -/
def visitSaid (k : Fin 32) (n : Segment) (s : State) : List Said :=
  if n.distance = 0 then [⟨.segmentEmpty, k.val, s.wk.visits + 1, some s.wk.seq, s.tsq.state⟩] else []

/-- What the expiry that enters the last segment ahead leaves, with this transport and this generator. -/
def EntersLast (k : Fin 32) (n : Segment) (c : Nat) (q : Tsq) (g : Mg) (s t : State) : Prop :=
  t.mg = g ∧ t.wk = s.wk.visited k n (s.mg.r + n.distance - c) ∧ t.tsq = q ∧ t.sc = s.sc ∧ AroundMotion s t ∧
    Reports s t (visitSaid k n s) ∧ SnapshotByExpiry s t

theorem visitRu_reports {t : State} (mu : t.mu = s.mu) (ru : t.ru = visitRu k n s) : Reports s t (visitSaid k n s) := by
  have said : Reports (countVisit k n s) t (visitSaid k n s) := emptyRu_reports (s := countVisit k n s) mu ru
  exact said.congr rfl rfl rfl

/-- A report stands when a snapshot becomes due behind it (R176). -/
theorem Reports.then_due {l : List Said} {due : Bool} (said : Reports s u l) (mu : t.mu = u.mu)
    (ru : t.ru = { u.ru with snapDue := due }) : Reports s t l := by
  have saying (id : Nat) (l : List Said) : reportsSaying t id l = reportsSaying u id l := by
    induction l generalizing id with
    | nil => rfl
    | cons x xs ih => simp [reportsSaying, ih, mu]
  obtain ⟨list, names, ring, loss, line, count⟩ := said
  constructor <;> simp only [ru, saying] <;> assumption

theorem visitRu_snapshot (k : Fin 32) (n : Segment) (s : State) :
    (visitRu k n s).snapDue = s.ru.snapDue ∧ (visitRu k n s).snapCounter = s.ru.snapCounter :=
  emptyRu_snapshot k n (countVisit k n s)

/-- A calm expiry in MOVING whose generator's stage makes one entry of segment k: the generator, the walker, the cache and
WRITE ENABLE as it leaves them (R65). -/
theorem Calm.outcome_of_visit (calm : Calm s) (o : ExpiryOrder) (moving : s.tsq.state = .moving) {w : Wk} {cache : Sc}
    {b : Bool}
    (stage : ∀ a, stageEnd a s = { stageStart a s with
      mg := g, wk := w, sc := cache, tsq := { s.tsq with writeEnable := b }, ru := visitRu k n (stageStart a s) }) :
    ∃ t, exec (.periodExpiry o) s = .next t ∧ t.mg = g ∧ t.wk = w ∧ t.tsq = { s.tsq with writeEnable := b } ∧
      t.sc = cache ∧ AroundMotion s t ∧ Reports s t (visitSaid k n s) ∧ SnapshotByExpiry s t := by
  have advances (a : Bool) : Advances (stageStart a s) { stageStart a s with
      mg := g, wk := w, sc := cache, tsq := { s.tsq with writeEnable := b }, ru := visitRu k n (stageStart a s) } := by
    obtain ⟨due, counter⟩ := visitRu_snapshot k n (stageStart a s)
    have same : (stageStart a s).tsq.state = s.tsq.state := rfl
    refine ⟨rfl, rfl, rfl, ⟨rfl, rfl⟩, rfl, rfl, ⟨⟨rfl, rfl⟩, rfl, rfl, rfl, rfl, rfl⟩, ?_, counter⟩
    simpa [same] using due
  obtain ⟨a, t, runs, motion, transport, walker, cache', -, around, said, -, snapshot⟩ :=
    calm.outcome o (by simp [moving, TState.timed]) (fun a => by rw [stage a]; exact advances a)
      fun a => by
        rw [stage a]
        exact halt_not_finds (.inl (by simp [moving]))
  rw [stage a] at motion transport walker cache' said
  have entered := visitRu_reports (k := k) (n := n) (s := stageStart a s) (t := { stageStart a s with
    mg := g, wk := w, sc := cache, tsq := { s.tsq with writeEnable := b }, ru := visitRu k n (stageStart a s) }) rfl rfl
  exact ⟨t, runs, motion, walker, transport, cache', around, said _ (entered.congr rfl rfl rfl), snapshot⟩

theorem Passing.outcome_on (p : Passing m k n c s) (o : ExpiryOrder)
    (stage : ∀ a, stageEnd a s = { lastEntered k n c (stageStart a s) with mg := g }) :
    ∃ t, exec (.periodExpiry o) s = .next t ∧
      EntersLast k n c { s.tsq with writeEnable := writesAt n s } g s t :=
  p.calm.calm.outcome_of_visit o p.moving stage

theorem Passing.outcome_rest (p : Passing m k n c s) (o : ExpiryOrder)
    (stage : ∀ a, stageEnd a s = settlingTaken { lastEntered k n c (stageStart a s) with mg := g }) :
    ∃ t, exec (.periodExpiry o) s = .next t ∧
      EntersLast k n c { s.tsq with state := .settling, writeEnable := false } g s t := by
  have advances (a : Bool) :
      Advances (stageStart a s) (settlingTaken { lastEntered k n c (stageStart a s) with mg := g }) := by
    obtain ⟨due, counter⟩ := visitRu_snapshot k n (stageStart a s)
    refine ⟨rfl, rfl, rfl, ⟨rfl, rfl⟩, rfl, rfl, ⟨⟨rfl, rfl⟩, rfl, rfl, rfl, rfl, rfl⟩, ?_, counter⟩
    exact congrArg (· || decide (TState.settling ≠ s.tsq.state)) due
  obtain ⟨a, t, runs, motion, transport, walker, cache, -, around, said, -, snapshot⟩ :=
    p.calm.calm.outcome o (by simp [p.moving, TState.timed]) (fun a => by rw [stage a]; exact advances a)
      fun a => by rw [stage a]; exact halt_not_finds (.inl nofun)
  rw [stage a] at motion transport walker cache said
  refine ⟨t, runs, motion, walker, transport, cache, around, said _ ?_, snapshot⟩
  have entered := visitRu_reports (k := k) (n := n) (s := stageStart a s)
    (t := { lastEntered k n c (stageStart a s) with mg := g }) rfl rfl
  have settled := entered.then_due (t := settlingTaken { lastEntered k n c (stageStart a s) with mg := g }) rfl rfl
  exact settled.congr rfl rfl rfl

/-- R28: the overrun of the end of this stretch. -/
theorem beginOverrun_of_stretch (motion : g.motion = some m) (stretch : g.w = 0) : g.beginOverrun = { g with
    overrun := some ⟨g.q + dirSign m.forward * g.r, !g.finalStop⟩
    l := g.d + brakingDistance g.accel 0 g.v, r := brakingDistance g.accel 0 g.v } := by
  simp [Mg.beginOverrun, motion, stretch]

/-! ## The statement -/

theorem brakingDistance_step (a w c : Nat) (positive : 1 ≤ a) :
    brakingDistance a w c = if c ≤ w + a then 0 else (c - a) + brakingDistance a w (c - a) := by
  rw [brakingDistance_eq w positive c]
  exact if_congr (by omega) rfl rfl

/-- Settles O17: an expiry in RUN by what the choice finds: a fit, nothing, a boundary, the clamp, or rest. -/
theorem runCommitsTheFittingSpeed : Obligations.RunCommitsTheFittingSpeed := by
  unfold Obligations.RunCommitsTheFittingSpeed
  refine ⟨brakingDistance_step, ?fits, ?overruns, ?passes, ?clampMet, ?clampMissed, ?rests, ?restsBeyond⟩
  case fits =>
    intro s o m c quiet due faultless arrival moving run motion stretch eot noChain noFault supply takeUp moves slowest
      fastest ceiling limit reduced distance beyond
    have only : OnlyMotion s := ⟨quiet, due, faultless.unfaulted, arrival⟩
    have fits : Fits s.mg.v s.mg.accel (topSpeed m.ceiling s) 0 s.mg.r c :=
      ⟨⟨slowest, fastest, le_topSpeed_iff.mpr ⟨ceiling, limit, reduced⟩, distance⟩, fun c' reach faster top => by
        obtain ⟨ceiling', limit', reduced'⟩ := le_topSpeed_iff.mp top
        exact beyond c' reach faster ceiling' limit' reduced'⟩
    obtain ⟨t, runs, mg, tsq, wk, sc, ⟨mu, rl, first, -, oi, cl, around⟩, reports, -⟩ :=
      only.calm.commits_of_fit o (fun a => quiet.no_requests a) moving run supply takeUp eot motion stretch (.inl noChain)
        (fitSpeed_of_fits fits) moves
    refine ⟨t, runs, mg, mu, rl, ?_, tsq, wk, sc, first.trans noFault, oi, around, reports⟩
    rw [cl, mg]
    rfl
  case overruns =>
    intro s o m only moving run motion stretch eot noChain supply takeUp faster nothing
    have outcome := overrun_outcome only o moving run motion stretch eot noChain supply takeUp faster nothing
    rw [beginOverrun_of_stretch motion stretch] at outcome
    exact outcome
  case passes =>
    intro s o m h k n c only moving run motion hand active quiet running overrun eot supply takeUp ahead copy along last
      distance flows within chosen reaches inside
    have p : Passing m k n c s :=
      ⟨only, moving, run, motion, ⟨active, quiet, running, ahead, copy, last, fun empty => absurd empty distance⟩, along,
        overrun, eot, supply, takeUp, flows, within, chosen, reaches⟩
    have silent : visitSaid k n s = [] := if_neg distance
    dsimp only
    rw [← writesAt_of_hand hand, ← silent]
    by_cases goesOn : (c : Int) < s.mg.r + n.distance
    · rw [if_pos goesOn]
      exact p.outcome_on o fun a => p.stage_into a goesOn
    · rw [if_neg goesOn]
      exact p.outcome_on o fun a => p.stage_over a (Int.not_lt.mp goesOn) (inside.resolve_left goesOn)
  case clampMet =>
    intro s o m pos c only moving run motion forward eot noChain supply takeUp ⟨nearer, ahead, meets, fit⟩ moves
    have met := clampMet_outcome only o moving run motion forward eot noChain supply takeUp nearer ahead meets fit moves
    rw [dirSign_forward forward] at met
    exact met
  case clampMissed =>
    intro s o m pos only moving run motion forward eot noChain supply takeUp positive faster ⟨nearer, misses⟩
    have missed :=
      clampMissed_outcome only o moving run motion forward eot noChain supply takeUp positive faster nearer misses
    rw [dirSign_forward forward] at missed
    exact missed
  case rests =>
    intro s o m h only law moving pump run motion settles hand stretch spent slow final running own eot noChain supply
      takeUp
    exact rest_outcome only o law moving pump run motion settles hand stretch spent slow final running own eot noChain
      supply takeUp
  case restsBeyond =>
    intro s o m h k n c only law moving pump run motion hand active quiet running overrun eot supply takeUp ahead copy
      along last flows within chosen beyond slow room mask
    have p : Passing m k n c s :=
      ⟨only, moving, run, motion, ⟨active, quiet, running, ahead, copy, last, fun _ => ⟨mask, room⟩⟩, along,
        overrun, eot, supply, takeUp, flows, within, chosen, by omega⟩
    obtain ⟨t, runs, mg, wk, tsq, sc, around, reports, snapshot⟩ :=
      p.outcome_rest o fun a => p.stage_rest a law pump hand beyond slow
    refine ⟨t, runs, ?_, wk, tsq, sc, around, ?_, snapshot⟩
    · rw [mg]
      simp [Mg.pastRest, Mg.settling, Mg.past, overrun, dirSign]
    · rw [visitSaid, moving] at reports
      exact reports

end Sys2Proof.Machine
end

section
/-! The stop word (R100, R101, R145 to R147). -/

namespace Sys2Proof.Machine

variable {s t u v : State} {m : Motion} {c : Nat} {g : Mg} {h : InHand} {data : Word} {kind : StopKind}

/-! ## The take of a stop word (log entry 3) -/

theorem carriesWrite_of_apart (apart : forwarding s = false) (off : Nat) (be : ByteEnables) (data : Word) :
    carriesWrite off be data s = false := by
  unfold forwarding at apart
  unfold carriesWrite
  cases m : s.ptp.mSide with
  | forwarded acc n => simp [m] at apart
  | free | agent _ _ | orphan _ _ => rfl

theorem exec_stopWord_of_apart (watched : watching s = true) (apart : forwarding s = false) (data : Word)
    (answered : Bool) : exec (.stopWord data answered) s = .next (conclude (takeStopWord data s)) := by
  have taken : snoop (regionWord stopOffset) fullEnables data answered s = takeStopWord data s := by
    rw [snoop, if_pos watched]
    rfl
  change Host.Outcome.next (watchedWrite stopOffset fullEnables data answered s) = _
  rw [watchedWrite, carriesWrite_of_apart apart, if_neg (by decide), taken]

theorem conclude_of_hand (hand : s.tsq.inHand = some h) (due : fetchDue s = false) : conclude s = s := by
  have waits : headMayBeTaken s = false := by simp [headMayBeTaken, hand]
  simp [conclude, serveHead_of_wait _ waits, orderFetchTest, due]

/-! ## The action of the sequencer (R100, R101) -/

/-- The transport states in which an order's motion is stopped. -/
def TState.stops : TState → Bool
  | .loadingSeek | .moving | .settling | .rewindingFast | .rewindingSearch | .rewindingReturn | .unloadingReturn => true
  | .loadingFill | .unloadingWindOff | .halting | .ready | .unloaded | .fault => false

/-- R101: a stop requested of the order in hand. -/
def stopRequested (kind : StopKind) (h : InHand) (s : State) : State :=
  { s with
    tsq := { s.tsq with inHand := some { h with stopping := true }, writeEnable := false }
    mg := { s.mg with pendStops := s.mg.pendStops ++ [kind] } }

theorem stopAction_of_motion (stops : s.tsq.state.stops = true) (hand : s.tsq.inHand = some h) :
    stopAction kind s = stopRequested kind h s := by
  have requested : requestStop kind s = stopRequested kind h s := by
    simp [requestStop, stopRequested, dropWriteEnable, State.onTsq, State.onMg, hand]
  rw [← requested, stopAction]
  cases state : s.tsq.state with
  | loadingSeek | moving | settling | rewindingFast | rewindingSearch | rewindingReturn | unloadingReturn => rfl
  | loadingFill | unloadingWindOff | halting | ready | unloaded | fault => simp [state, TState.stops] at stops

theorem stopAction_of_quiet (quiet : s.tsq.state = .ready ∨ s.tsq.state = .unloaded ∨ s.tsq.state = .fault ∨
    s.tsq.state = .halting) : stopAction kind s = s := by
  rcases quiet with state | state | state | state <;> simp [stopAction, state]

theorem stopAction_of_handling (handling : s.tsq.state = .loadingFill ∨ s.tsq.state = .unloadingWindOff) :
    stopAction kind s = endUnloaded .stopped s := by
  rcases handling with state | state <;> simp [stopAction, state]

/-! ## The end in FILL and in WIND-OFF (R79, R100) -/

/-- R79, R100: a LOAD or an UNLOAD ended by a stop word in UNLOADED. -/
def stoppedUnloaded (h : InHand) (s : State) : State :=
  clearHand (reported (makeReport .orderDone 3 0 (some h.seq) (unloadLeft s)) (unloadLeft s))

theorem endUnloaded_stopped (hand : s.tsq.inHand = some h) (code : h.code = .load ∨ h.code = .unload) (room : Room 1 s) :
    endUnloaded .stopped s = stoppedUnloaded h s := by
  have hand' : (unloadLeft s).tsq.inHand = some h := by simpa [unloadLeft_eq, outputsTaken] using hand
  have room' : (unloadLeft s).ru.pendingReports.length < 4 := by
    unfold Room at room
    simp only [unloadLeft_eq, outputsTaken, followModes_frame]
    exact Nat.lt_of_succ_le room
  have value : orderDoneValue h .stopped 0 (unloadLeft s) = 0 := by
    rcases code with code | code <;> simp [orderDoneValue, code]
  change finishOrder .stopped 0 (unloadLeft s) = _
  unfold finishOrder
  rw [hand']
  dsimp only
  rw [value, generate_of_room (s := unloadLeft s) (kind := .orderDone) _ _ _ (maskPasses_of_unmasked _ (.inl rfl)) room']
  rfl

theorem stoppedUnloaded_reports (h : InHand) (s : State) :
    Reports s (stoppedUnloaded h s) [⟨.orderDone, 3, 0, some h.seq, .unloaded⟩] := by
  have said := reported_reports .orderDone 3 0 (some h.seq) (unloadLeft s)
  have state : (unloadLeft s).tsq.state = .unloaded := by simp [unloadLeft, enter_tsq]
  rw [state] at said
  refine Reports.of_due (due := s.ru.snapDue || decide (.unloaded ≠ s.tsq.state)) (said.congr ?_ rfl rfl)
  simp only [unloadLeft_eq, outputsTaken, followModes_frame]

/-! ## The flush (R146, R147) -/

theorem discardCount_eq_discarded (s : State) : discardCount s = discarded s.oi.queue s.oi.ready := by
  rw [discardCount, readyCount_eq_discarded]
  simp [discarded]

/-- R146, R147: a flush with its report. -/
def flushed (kind : StopKind) (resume : Byte) (s : State) : State :=
  reported (makeReport .ordersFlushed kind.number (discardCount s) (some resume) (flushIntake resume s))
    (flushIntake resume s)

theorem flush_of_room (room : Room 1 s) (resume : Byte) : flush kind resume s = flushed kind resume s := by
  have room' : (flushIntake resume s).ru.pendingReports.length < 4 := by
    unfold Room at room
    exact Nat.lt_of_succ_le room
  unfold flush
  dsimp only
  rw [generate_of_room (s := flushIntake resume s) (kind := .ordersFlushed) _ _ _
    (maskPasses_of_unmasked _ (.inr (.inr (.inr rfl)))) room']
  rfl

theorem flushed_nothingDue (kind : StopKind) (resume : Byte) (s : State) : NothingDue (flushed kind resume s) := by
  refine ⟨rfl, ?_⟩
  have unset : readyFlag (expectedSlot (flushed kind resume s)) (flushed kind resume s) = false := by
    simp [readyFlag, flushed, reported, flushIntake]
  rw [fetchDue, unset, Bool.and_false]

theorem flushed_reports (kind : StopKind) (resume : Byte) (s : State) : Reports s (flushed kind resume s)
    [⟨.ordersFlushed, kind.number, (discarded s.oi.queue s.oi.ready : Nat), some resume, s.tsq.state⟩] := by
  have said := reported_reports .ordersFlushed kind.number (discardCount s) (some resume) (flushIntake resume s)
  rw [discardCount_eq_discarded] at said
  rw [flushed, discardCount_eq_discarded]
  exact said.congr rfl rfl rfl

/-! ## The whole word -/

theorem stopKind_eq (data : Word) : stopKind data = if data.getLsbD 0 then .emergency else .controlled := rfl

theorem stopKind_number (data : Word) : (stopKind data).number = if data.getLsbD 0 then 1 else 0 := by
  rw [stopKind_eq]
  split <;> rfl

theorem takeStopWord_of_stop (data : Word) (keep : data.getLsbD 1 = false) :
    takeStopWord data s = stopAction (stopKind data) s := by
  have noFlush : stopFlush data = false := keep
  rw [takeStopWord, noFlush]
  rfl

theorem takeStopWord_of_flush (flushes : data.getLsbD 1 = true) :
    takeStopWord data s = flush (stopKind data) (stopResume data) (stopAction (stopKind data) s) := by
  have flag : stopFlush data = true := flushes
  rw [takeStopWord, flag]
  rfl

end Sys2Proof.Machine
end

section
/-! A stop request at the next expiry (R29, R35), and the statement about the stop word. -/

namespace Sys2Proof.Machine

variable {s t u v : State} {m : Motion} {c : Nat} {g : Mg} {h : InHand} {data : Word} {kind : StopKind}

/-! ## The application of one held request (R29) -/

/-- The generator with its one held stop request taken off. -/
def Mg.unheld (g : Mg) : Mg := { g with pendStops := [] }

/-- What a single held stop request asks of the other requests. -/
structure OneStop (kind : StopKind) (s : State) : Prop where
  stops : s.mg.pendStops = [kind]
  markStop : s.mg.pendMarkStop = false
  reaim : s.mg.pendReaim = none
  halt : s.mg.pendHalt = false

theorem OnlyMotion.oneStop (only : OnlyMotion { s with mg := { s.mg with pendStops := [] } })
    (stops : s.mg.pendStops = [kind]) : OneStop kind s :=
  ⟨stops, only.quiet.markStop, only.quiet.reaim, only.quiet.halt⟩

theorem applyRequests_of_stop (one : OneStop kind s) {e : Option MotionEnd}
    (applied : applyStop kind { s with mg := s.mg.unheld } = ({ s with mg := g }, e)) (reaim : g.pendReaim = none) :
    applyRequests s = ({ s with mg := g }, e) := by
  obtain ⟨stops, markStop, -, halt⟩ := one
  have noMark : applyMarkStop s = s := by simp [applyMarkStop, markStop]
  have emptied : (s.onMg fun g => { g with pendStops := [] }) = { s with mg := s.mg.unheld } := rfl
  unfold applyRequests
  rw [if_neg (by simp [halt])]
  dsimp only
  rw [noMark, emptied, stops, applyStops, applied]
  cases e with
  | some e => rfl
  | none => simp [applyStops, applyReaim, reaim]

/-- R29: the acceleration at which a stop of this kind brakes. -/
def stopAccel (kind : StopKind) (s : State) : Nat :=
  if kind = .emergency then s.mc.params.emergencyAccel else s.mg.accel

/-- R29: the generator braking in RUN for a stop. -/
def Mg.braking (g : Mg) (m : Motion) (kind : StopKind) (a : Nat) : Mg :=
  { g with
    pendStops := [], motion := some { m with settles := false }, accel := a, emergency := decide (kind = .emergency)
    l := g.d + brakingDistance a 0 g.v, r := brakingDistance a 0 g.v, w := 0, stopped := true, finalStop := true
    lookAhead := none }

theorem applyStop_of_run (run : s.mg.phase = .run) (motion : s.mg.motion = some m) (running : s.mg.stopped = false)
    (calm : s.mg.emergency = false) : applyStop kind { s with mg := s.mg.unheld } =
      ({ s with mg := s.mg.braking m kind (stopAccel kind s) }, none) := by
  cases kind <;>
    simp [applyStop, Mg.unheld, run, running, calm, State.onMg, Mg.stopAt, Mg.braking, stopAccel, motion]

/-- R29: what a stop request ends in SETTLE and in HOLD. -/
theorem applyStop_of_end (still : s.mg.phase = .hold ∨ ∃ b : Bool, s.mg.phase = .settle b) :
    ∃ e : MotionEnd, e.final = true ∧
      applyStop kind { s with mg := s.mg.unheld } = ({ s with mg := s.mg.toIdle }, some e) := by
  have same : ({ s with mg := s.mg.unheld } : State).onMg Mg.toIdle = { s with mg := s.mg.toIdle } := rfl
  rcases still with hold | ⟨b, settle⟩
  · refine ⟨.stoppedAtRest, rfl, ?_⟩
    rw [← same]
    simp [applyStop, Mg.unheld, hold]
  · refine ⟨.stopped, rfl, ?_⟩
    rw [← same]
    simp [applyStop, Mg.unheld, settle]

/-! ## The stop in RUN -/

theorem stop_outcome (only : OnlyMotion { s with mg := { s.mg with pendStops := [] } }) (o : ExpiryOrder)
    (stops : s.mg.pendStops = [kind]) (moving : s.tsq.state = .moving) (run : s.mg.phase = .run)
    (motion : s.mg.motion = some m) (running : s.mg.stopped = false) (calm : s.mg.emergency = false)
    (eot : s.mu.eot = none) (supply : satFlag .s s = false) (takeUp : satFlag .t s = false)
    (positive : 1 ≤ stopAccel kind s) (faster : stopAccel kind s < s.mg.v) :
    ∃ t, exec (.periodExpiry o) s = .next t ∧
      t.mg = (s.mg.braking m kind (stopAccel kind s)).committed (dirSign m.forward) (s.mg.v - stopAccel kind s) ∧
      t.tsq = s.tsq ∧ t.wk = s.wk ∧ t.sc = s.sc ∧ AroundMotion s t ∧ Reports s t [] ∧ SnapshotByExpiry s t := by
  have calm' : Calm s := only.calm.of_mg rfl
  have one := only.oneStop stops
  have requests (a : Bool) : applyRequests (stageStart a s) =
      ({ stageStart a s with mg := s.mg.braking m kind (stopAccel kind s) }, none) :=
    applyRequests_of_stop (s := stageStart a s) ⟨one.stops, one.markStop, one.reaim, one.halt⟩
      (applyStop_of_run (s := stageStart a s) run motion running calm) one.reaim
  exact calm'.commits_of_fit o requests moving run supply takeUp eot (m := { m with settles := false }) rfl rfl (.inr rfl)
    (fitSpeed_of_braking _ positive faster) (by omega)

/-! ## The stop in SETTLE and in HOLD -/

/-- R35, R37: the generator that a stop leaves IDLE, by whether the saturation run stands. -/
def Mg.stoppedIdle (g : Mg) (moving : Bool) : Mg :=
  { g.toIdle with
    vt := 0, delta := -g.prevVt, prevVt := 0, satRun := if moving then g.satRun else 0 }

theorem handOnSpeed_stopped (s : State) : handOnSpeed 0 (reduceSpeed { s with mg := s.mg.toIdle }) =
    { s with mg := s.mg.stoppedIdle (decide (s.tsq.state = .moving)) } := by
  by_cases moving : s.tsq.state = .moving
  · have reduced := reduceSpeed_of_not_run (s := { s with mg := s.mg.toIdle }) moving nofun
    rw [reduced]
    simp [handOnSpeed, State.onMg, Mg.stoppedIdle, Mg.toIdle, moving]
  · have reduced := reduceSpeed_of_not_moving (s := { s with mg := s.mg.toIdle }) moving
    rw [reduced]
    simp [handOnSpeed, State.onMg, Mg.stoppedIdle, Mg.toIdle, moving]

/-- R29, R35, R101: a stop request ends a motion in SETTLE or in HOLD at once, STOPPED. -/
theorem stopEnd_outcome (only : OnlyMotion { s with mg := { s.mg with pendStops := [] } }) (o : ExpiryOrder)
    (law : OutputLaw s) (stops : s.mg.pendStops = [kind]) (hand : s.tsq.inHand = some h) (stopping : h.stopping = true)
    (code : h.code = .space ∨ h.code = .runChain) (state : s.tsq.state = .settling ∨ s.tsq.state = .moving)
    (still : s.mg.phase = .hold ∨ ∃ b : Bool, s.mg.phase = .settle b)
    (fresh : ∀ (i : Fin 32) (copy : Segment), s.sc.entries.get i ≠ .stale copy) (pump : s.tsq.vacuum = true)
    (room : Room 1 s) :
    ∃ t, exec (.periodExpiry o) s = .next t ∧ t.tsq = s.tsq.ended .ready s.tsq.brake s.tsq.vacuum ∧
      t.mg = s.mg.stoppedIdle (decide (s.tsq.state = .moving)) ∧ t.wk = (walkerLeft s).wk ∧ t.sc = s.sc ∧
      AroundMotion s t ∧ Reports s t [⟨.orderDone, 3, newP s - h.pAtTake, some h.seq, .ready⟩] ∧
      SnapshotByExpiry s t := by
  have calm : Calm s := only.calm.of_mg rfl
  have one := only.oneStop stops
  have looping : s.tsq.state.loops = true ∧ s.tsq.state.capstanRuns = true ∧ s.tsq.state.timed = false := by
    rcases state with state | state <;> simp [state, TState.loops, TState.capstanRuns, TState.timed]
  obtain ⟨loops, runs, untimed⟩ := looping
  have follows : Following s := law.following loops runs pump
  have stage (a : Bool) : stageEnd a s = orderEnded .stopped 0 h
      (walkerLeft { stageStart a s with mg := s.mg.stoppedIdle (decide (s.tsq.state = .moving)) }) := by
    obtain ⟨e, final, applied⟩ := applyStop_of_end (s := stageStart a s) (kind := kind) still
    have requests : applyRequests (stageStart a s) = ({ stageStart a s with mg := s.mg.toIdle }, some e) :=
      applyRequests_of_stop (s := stageStart a s) ⟨one.stops, one.markStop, one.reaim, one.halt⟩ applied rfl
    have left := handOnSpeed_stopped (stageStart a s)
    have ends := motionEnd_ends
      (s := { stageStart a s with mg := s.mg.stoppedIdle (decide (s.tsq.state = .moving)) }) final hand (.inl stopping)
      (follows.congr rfl rfl rfl rfl rfl) room (.inr fresh)
    rw [endOutcome, if_pos stopping] at ends
    rw [stageEnd, generatorStage, generatorStep, requests]
    dsimp only
    refine Eq.trans ?_ ends
    exact congrArg (motionEnd e) left
  exact calm.outcome_of_end o untimed code stage

/-! ## The word in FILL and in WIND-OFF -/

/-- R43, R53, R79: what the end in UNLOADED leaves. -/
theorem stoppedUnloaded_leaves (h : InHand) (law : OutputLaw s) :
    (stoppedUnloaded h s).tsq = s.tsq.ended .unloaded true false ∧ Braked (stoppedUnloaded h s) ∧
      (stoppedUnloaded h s).mg = s.mg ∧ (stoppedUnloaded h s).mu.p = s.mu.p ∧ (stoppedUnloaded h s).mu.eot = s.mu.eot ∧
      (stoppedUnloaded h s).fm.first = s.fm.first ∧ (stoppedUnloaded h s).sc = s.sc ∧ (stoppedUnloaded h s).wk = s.wk ∧
      (stoppedUnloaded h s).oi = s.oi ∧ SameSurroundings s (stoppedUnloaded h s) ∧
      SnapshotByState s (stoppedUnloaded h s) := by
  have braked : Braked (unloadLeft s) :=
    enter_brakes (by decide) (fun off => (law.capstanOff off).1) fun x off => (law.reelOff x off).1
  have mu := followModes_mu (outputsTaken .unloaded true false s)
  rw [← unloadLeft_eq] at mu
  have p : (unloadLeft s).mu.p = s.mu.p := by
    rw [mu]
    rfl
  have eot : (unloadLeft s).mu.eot = s.mu.eot := by
    rw [mu]
    rfl
  have tsq : (unloadLeft s).tsq = { s.tsq with state := .unloaded, brake := true, vacuum := false } := enter_tsq _ _ _ _
  have ru : (unloadLeft s).ru = { s.ru with snapDue := s.ru.snapDue || decide (.unloaded ≠ s.tsq.state) } := by
    simp only [unloadLeft_eq, outputsTaken, followModes_frame]
  have fm : (unloadLeft s).fm.first = s.fm.first := by
    rw [unloadLeft_eq, followModes_fm, followCapstan]
    split <;> rfl
  obtain ⟨oi, mg, sc, wk, around⟩ : (unloadLeft s).oi = s.oi ∧ (unloadLeft s).mg = s.mg ∧ (unloadLeft s).sc = s.sc ∧
      (unloadLeft s).wk = s.wk ∧ SameSurroundings s (unloadLeft s) := by
    simp [unloadLeft_eq, outputsTaken, SameSurroundings, SameBus, SameSetup]
  unfold stoppedUnloaded
  generalize unloadLeft s = e at *
  refine ⟨?_, braked.congr rfl rfl rfl, mg, p, eot, fm, sc, wk, oi, around, ?_, ?_⟩
  · simp [clearHand, reported, tsq, Tsq.ended]
  · simp [clearHand, reported, ru, tsq]
  · simp [clearHand, reported, ru]

/-- R100: a LOAD or an UNLOAD that a stop word ends at once. -/
theorem stopEnds_unloaded (data : Word) (answered : Bool) (watched : watching s = true) (apart : forwarding s = false)
    (due : NothingDue s) (law : OutputLaw s) (keep : data.getLsbD 1 = false) (hand : s.tsq.inHand = some h)
    (code : h.code = .load ∨ h.code = .unload)
    (state : s.tsq.state = .loadingFill ∨ s.tsq.state = .unloadingWindOff) (room : Room 1 s) :
    ∃ t, exec (.stopWord data answered) s = .next t ∧ t.tsq = s.tsq.ended .unloaded true false ∧ Braked t ∧
      t.mg = s.mg ∧ t.mu.p = s.mu.p ∧ t.mu.eot = s.mu.eot ∧ t.fm.first = s.fm.first ∧ t.sc = s.sc ∧ t.wk = s.wk ∧
      t.oi = s.oi ∧ SameSurroundings s t ∧ SnapshotByState s t ∧
      Reports s t [⟨.orderDone, 3, 0, some h.seq, .unloaded⟩] := by
  have taken : takeStopWord data s = stoppedUnloaded h s :=
    ((takeStopWord_of_stop data keep).trans (stopAction_of_handling state)).trans (endUnloaded_stopped hand code room)
  obtain ⟨tsq, braked, mg, p, eot, fm, sc, wk, oi, around, snapshot⟩ := stoppedUnloaded_leaves h law
  have runs : exec (.stopWord data answered) s = .next (stoppedUnloaded h s) := by
    rw [exec_stopWord_of_apart watched apart, taken, conclude_of_nothingDue (due.congr oi)]
  exact ⟨_, runs, tsq, braked, mg, p, eot, fm, sc, wk, oi, around, snapshot, stoppedUnloaded_reports h s⟩

/-! ## The statement -/

/-- Settles O40: the word by what it finds, and the request at the expiry that follows. -/
theorem stopWordsStopAndFlush : Obligations.StopWordsStopAndFlush := by
  unfold Obligations.StopWordsStopAndFlush
  refine ⟨?stops, ?idle, ?ends, ?flushes, ?both, ?brakes, ?atOnce⟩
  case stops =>
    intro s data answered h watched apart due keep hand state
    have stops : s.tsq.state.stops = true := by
      rcases state with state | state | state | state | state | state | state <;> simp [state, TState.stops]
    have taken : takeStopWord data s = stopRequested (stopKind data) h s :=
      (takeStopWord_of_stop data keep).trans (stopAction_of_motion stops hand)
    rw [exec_stopWord_of_apart watched apart, taken,
      conclude_of_hand (s := stopRequested (stopKind data) h s) (h := { h with stopping := true }) rfl due]
    rfl
  case idle =>
    intro s data answered ⟨watched, apart, due⟩ keep state
    rw [exec_stopWord_of_apart watched apart, takeStopWord_of_stop data keep, stopAction_of_quiet state,
      conclude_of_nothingDue due]
  case ends =>
    intro s data answered h ⟨watched, apart, due⟩ law keep hand code state room
    exact stopEnds_unloaded data answered watched apart due law keep hand code state room
  case flushes =>
    intro s data answered watched apart flushes state room
    have taken : takeStopWord data s = flushed (stopKind data) (stopResume data) s := by
      rw [takeStopWord_of_flush flushes, stopAction_of_quiet state, flush_of_room room]
    refine ⟨flushed (stopKind data) (stopResume data) s, ?_, ?_, ?_, rfl⟩
    · rw [exec_stopWord_of_apart watched apart, taken, conclude_of_nothingDue (flushed_nothingDue _ _ s)]
    · change (⟨stopResume data, 0, [], s.oi.fetch.cancel⟩ : Oi) = _
      cases s.oi.fetch <;> rfl
    · rw [← stopKind_number]
      exact flushed_reports (stopKind data) (stopResume data) s
  case both =>
    intro s data answered h watched apart flushes hand state room
    have stops : s.tsq.state.stops = true := by
      rcases state with state | state <;> simp [state, TState.stops]
    have taken : takeStopWord data s =
        flushed (stopKind data) (stopResume data) (stopRequested (stopKind data) h s) := by
      rw [takeStopWord_of_flush flushes, stopAction_of_motion stops hand]
      exact flush_of_room (s := stopRequested (stopKind data) h s) room _
    refine ⟨flushed (stopKind data) (stopResume data) (stopRequested (stopKind data) h s), ?_, rfl, rfl, rfl, rfl, rfl, rfl,
      ?_⟩
    · rw [exec_stopWord_of_apart watched apart, taken, conclude_of_nothingDue (flushed_nothingDue _ _ _)]
    · rw [← stopKind_number]
      exact (flushed_reports (stopKind data) (stopResume data) (stopRequested (stopKind data) h s)).congr rfl rfl rfl
  case brakes =>
    intro s o m kind only stops moving run motion running calm eot supply takeUp ⟨positive, faster⟩
    exact stop_outcome only o stops moving run motion running calm eot supply takeUp positive faster
  case atOnce =>
    intro s o kind h only law stops hand stopping code still fresh pump room
    have state : s.tsq.state = .settling ∨ s.tsq.state = .moving := still.imp And.left And.left
    have phase : s.mg.phase = .hold ∨ ∃ b : Bool, s.mg.phase = .settle b := still.symm.imp And.right And.right
    obtain ⟨t, runs, tsq, mg, wk, kept⟩ :=
      stopEnd_outcome only o law stops hand stopping code state phase fresh pump room
    have inactive : (walkerLeft s).wk.active = false := by
      cases active : s.wk.active <;> simp [walkerLeft, active, Wk.reset]
    exact ⟨t, runs, tsq, by rw [mg]; rfl, by rw [mg]; rfl, by rw [mg]; rfl, by rw [mg]; rfl, by rw [wk, inactive], kept⟩

end Sys2Proof.Machine
end

section
/-! The entry of a segment at rest, and the wait for one (R64, R65, R67, R68). -/

namespace Sys2Proof.Machine

variable {s t u v : State} {m : Motion} {g : Mg} {h : InHand} {k : Fin 32} {seg n : Segment} {rounds : Nat}

/-! ## The cache (R61) -/

/-- R61: entry k ordered at the head of the fetch list. -/
def Sc.ordered (c : Sc) (k : Fin 32) : Sc :=
  { c with entries := c.entries.set k.val .fetching k.isLt, fetchList := k :: c.fetchList.filter (· ≠ k) }

theorem entryOf_ordered (k : Fin 32) (s : State) : entryOf k { s with sc := s.sc.ordered k } = .fetching :=
  Vector.getElem_set_self k.isLt

theorem orderForWalker_of_invalid (invalid : s.sc.entries.get k = .invalid) :
    orderForWalker k s = { s with sc := s.sc.ordered k } := by
  have entry : entryOf k s = .invalid := invalid
  unfold orderForWalker
  rw [entry]
  rfl

/-- R61: the entry just ordered is not ordered again. -/
theorem orderForWalker_of_ordered (k : Fin 32) (s : State) :
    orderForWalker k { s with sc := s.sc.ordered k } = { s with sc := s.sc.ordered k } := by
  have head : k ∈ (s.sc.ordered k).fetchList := List.mem_cons_self
  have list : k :: (s.sc.ordered k).fetchList.filter (· ≠ k) = (s.sc.ordered k).fetchList := by
    simp [Sc.ordered]
  unfold orderForWalker
  rw [entryOf_ordered]
  dsimp only
  rw [if_pos head]
  simp only [fetchAtHead, State.onSc, list]

/-! ## The wait (R67) -/

theorem enterAtRest_of_missing (missing : (entryOf k s).copy = none) (rounds : Nat) :
    enterAtRest rounds k s = (awaitEntry k s, .waiting) := by
  cases rounds with
  | zero => rfl
  | succ rounds =>
    unfold enterAtRest
    rw [missing]

/-- R67, R84: the state waiting for entry k, which has been ordered. -/
def entryAwaited (k : Fin 32) (s : State) : State :=
  { s with
    mg := { s.mg with phase := .hold }, wk := { s.wk with awaited := some k }
    tsq := { s.tsq with writeEnable := false } }

theorem awaitEntry_eq (ordered : orderForWalker k s = u) : awaitEntry k s = entryAwaited k u := by
  unfold awaitEntry
  rw [ordered]
  rfl

/-! ## The entry (R65) -/

/-- The state in which an entry at rest hands its segment over: steps 1 to 4 of R65. -/
def atRestVisit (k : Fin 32) (seg : Segment) (s : State) : State :=
  { countVisit k seg s with mg := { s.mg with v := 0 }, ru := visitRu k seg s }

/-- What an entry at rest asks of its segment (R65, R69, R70). -/
structure Enters (k : Fin 32) (seg : Segment) (s : State) : Prop where
  copy : (entryOf k s).copy = some seg
  legal : ¬ (seg.reverse = true ∧ seg.write = true)
  noLimit : seg.last = true ∨ (seg.last = false ∧ s.wk.visits + 1 ≠ 32)
  quiet : s.wk.approachReports = false ∨ seg.approach = 0 ∨ seg.distance = 0
  said : seg.distance = 0 → s.mc.params.mask.segmentEmpty = true ∧ Room 1 s

theorem Enters.eq (e : Enters k seg s) (rounds : Nat) : enterAtRest (rounds + 1) k s =
    if seg.distance ≠ 0 then (giveSegment seg 0 0 (atRestVisit k seg s), .entered)
    else if handedLast seg (giveSegment seg 0 0 (atRestVisit k seg s)) then
      (giveSegment seg 0 0 (atRestVisit k seg s),
        .ended (if (giveSegment seg 0 0 (atRestVisit k seg s)).wk.chainLimit then .chainLimit else .complete))
    else enterAtRest rounds seg.next (giveSegment seg 0 0 (atRestVisit k seg s)) := by
  obtain ⟨copy, legal, noLimit, -, said⟩ := e
  have forward : (seg.reverse && seg.write) = false := by simpa using legal
  have stopped : ((countVisit k seg s).onMg fun g => { g with v := 0 }) =
      { countVisit k seg s with mg := { s.mg with v := 0 } } := rfl
  have unlimited : visitLimit seg { countVisit k seg s with mg := { s.mg with v := 0 } } =
      { countVisit k seg s with mg := { s.mg with v := 0 } } := by
    rcases noLimit with last | ⟨-, few⟩
    · exact visitLimit_of_last last
    · exact visitLimit_of_few few
  have reported : reportEmpty k seg { countVisit k seg s with mg := { s.mg with v := 0 } } = atRestVisit k seg s :=
    reportEmpty_eq (s := { countVisit k seg s with mg := { s.mg with v := 0 } }) said
  conv_lhs => unfold enterAtRest
  rw [copy]
  dsimp only
  rw [forward, if_neg (by decide), stopped, unlimited, reported]

/-- The state that an entry at rest leaves, from the state u behind its look-ahead (R65, steps 5 to 8). -/
def restEntered (seg : Segment) (last : Bool) (w : Nat) (copy : Option (Fin 32 × Segment)) (u : State) : State :=
  segmentGiven seg 0 0 last w copy u

theorem Enters.gives_last (e : Enters k seg s) (last : seg.last = true) :
    giveSegment seg 0 0 (atRestVisit k seg s) = restEntered seg true 0 none (atRestVisit k seg s) :=
  giveSegment_of_last (s := atRestVisit k seg s) (k := k) 0 0 (handedLast_of_last last) rfl e.quiet

/-- R65, R69: a last segment with a distance is entered at rest. -/
theorem Enters.into_last (e : Enters k seg s) (last : seg.last = true) (moves : seg.distance ≠ 0) :
    enterAtRest (rounds + 1) k s = (restEntered seg true 0 none (atRestVisit k seg s), .entered) := by
  rw [e.eq, if_pos moves, e.gives_last last]

/-- R68: an empty last segment ends the chain. -/
theorem Enters.ends (e : Enters k seg s) (last : seg.last = true) (empty : seg.distance = 0)
    (noLimit : s.wk.chainLimit = false) :
    enterAtRest (rounds + 1) k s = (restEntered seg true 0 none (atRestVisit k seg s), .ended .complete) := by
  have unlimited : (restEntered seg true 0 none (atRestVisit k seg s)).wk.chainLimit = false := noLimit
  rw [e.eq, if_neg (fun moves => moves empty), e.gives_last last, if_pos (handedLast_of_last last), unlimited]
  rfl

theorem Enters.gives_more (e : Enters k seg s) (more : seg.last = false) (few : s.wk.visits + 1 ≠ 32) {w : Nat}
    {copy : Option (Fin 32 × Segment)} {cache : Sc}
    (ahead : lookAhead seg (atRestVisit k seg s) = (w, copy, { atRestVisit k seg s with sc := cache })) :
    giveSegment seg 0 0 (atRestVisit k seg s) =
      restEntered seg false w copy { atRestVisit k seg s with sc := cache } :=
  giveSegment_of_more (s := atRestVisit k seg s) (k := k) 0 0 (handedLast_of_few more few) ahead rfl e.quiet

/-- R25, R66: a segment that flows into the next is entered at rest. -/
theorem Enters.into_flow (e : Enters k seg s) (more : seg.last = false) (few : s.wk.visits + 1 ≠ 32)
    (moves : seg.distance ≠ 0) {w : Nat} {copy : Option (Fin 32 × Segment)}
    (ahead : lookAhead seg (atRestVisit k seg s) = (w, copy, atRestVisit k seg s)) :
    enterAtRest (rounds + 1) k s = (restEntered seg false w copy (atRestVisit k seg s), .entered) := by
  rw [e.eq, if_pos moves, e.gives_more more few ahead]
  rfl

/-- R68: an empty segment is skipped. -/
theorem Enters.skips (e : Enters k seg s) (more : seg.last = false) (few : s.wk.visits + 1 ≠ 32)
    (empty : seg.distance = 0) {cache : Sc}
    (ahead : lookAhead seg (atRestVisit k seg s) = (0, none, { atRestVisit k seg s with sc := cache })) :
    enterAtRest (rounds + 1) k s =
      enterAtRest rounds seg.next (restEntered seg false 0 none { atRestVisit k seg s with sc := cache }) := by
  have goesOn : ¬ handedLast seg (restEntered seg false 0 none { atRestVisit k seg s with sc := cache }) = true := by
    rw [handedLast_of_few more few]
    decide
  rw [e.eq, if_neg (fun moves => moves empty), e.gives_more more few ahead, if_neg goesOn]

/-! ## The look-ahead (R25, R66) -/

theorem lookAhead_of_invalid (invalid : s.sc.entries.get seg.next = .invalid) :
    lookAhead seg s = (0, none, { s with sc := s.sc.ordered seg.next }) := by
  have missing : (entryOf seg.next s).copy = none := by
    rw [show entryOf seg.next s = .invalid from invalid]
    rfl
  unfold lookAhead
  rw [missing]
  dsimp only
  rw [orderForWalker_of_invalid invalid]

theorem lookAhead_of_flow (usable : s.sc.entries.get seg.next = .valid n) (flows : seg.flow = true)
    (along : n.reverse = seg.reverse) (legal : ¬ (n.reverse = true ∧ n.write = true))
    (moves : 1 ≤ min (min seg.vmax n.vmax) (effCeiling seg.vmax s)) :
    lookAhead seg s = (min (min seg.vmax n.vmax) (effCeiling seg.vmax s), some (seg.next, n), s) := by
  have copy : (entryOf seg.next s).copy = some n := by
    rw [show entryOf seg.next s = .valid n from usable]
    rfl
  have forward : (n.reverse && n.write) = false := by simpa using legal
  have goesOn : ((n.reverse && n.write) || !seg.flow || (n.reverse != seg.reverse)) = false := by
    rw [forward, flows, along]
    simp
  unfold lookAhead
  rw [copy]
  dsimp only
  rw [goesOn, if_neg (by decide), if_neg (by omega)]

end Sys2Proof.Machine
end

section
/-! RUN CHAIN at its take (R64 to R69, R82, R84). -/

namespace Sys2Proof.Machine

variable {s t u v : State} {g : Mg} {w : Wk} {c : Sc} {r : Ru} {writes : Bool} {k i : Fin 32} {seg n : Segment}
  {seq : Byte} {b : Body}

/-! ## The start of a chain (R64) -/

/-- R64: what the first entry comes to. -/
def entryOutcome : State × Entry → State
  | (s, .entered) => s
  | (s, .waiting) => s
  | (s, .ended reason) => s.onMg fun g => { g with phase := .hold, chainEnd := some reason }

theorem startChain_eq (k : Fin 32) (seq : Byte) (a : Bool) (s : State) : startChain k seq a s =
    entryOutcome (enterAtRest entryRounds k
      (s.onWk fun _ => { Wk.reset with active := true, seq := seq, approachReports := a })) := by
  unfold startChain
  dsimp only
  generalize enterAtRest entryRounds k _ = x
  obtain ⟨u, e⟩ := x
  cases e <;> rfl

/-- The motion of a chain before its first segment (R21). -/
def chainMg (s : State) : Mg := { s.mg.begin ⟨.chain, true, 0, 0, true⟩ 0 s.mu.p with finalStop := false }

/-- The walker of a chain before its first segment (R64). -/
def chainWk (seq : Byte) (b : Body) : Wk :=
  { Wk.reset with active := true, seq := seq, approachReports := b.w1.getLsbD 25 }

/-- A RUN CHAIN in hand in MOVING, its start not yet looked for. -/
def chainBegun (seq : Byte) (b : Body) (s : State) : State :=
  { stateTaken .moving (takeInHand ⟨seq, .runChain, b⟩ (orderFields b) false .chain s) with
    mg := chainMg s, wk := chainWk seq b }

theorem orderFields_start (b : Body) (h : i.val = b.w1.toNat / 65536 % 32) : (orderFields b).start = i := by
  have bits16 : bits b.w1 20 16 = b.w1.toNat / 65536 % 32 := by simp [bits, Nat.shiftRight_eq_div_pow]
  refine Fin.ext ?_
  rw [h, ← bits16]
  change bits b.w1 20 16 % 32 = bits b.w1 20 16
  rw [bits16, Nat.mod_mod]

theorem takeRunChain_of_ring (rest : ReadyAtRest s) (start : i.val = b.w1.toNat / 65536 % 32)
    (ring : b.w1.getLsbD 24 = false ∨ level .writeRing s = true) : takeRunChain ⟨seq, .runChain, b⟩ s =
      entryOutcome (enterAtRest entryRounds i (chainBegun seq b s)) := by
  have granted : ((orderFields b).writeIntent && !level .writeRing s) = false := by
    have intent : (orderFields b).writeIntent = b.w1.getLsbD 24 := rfl
    rcases ring with reads | present
    · rw [intent, reads, Bool.false_and]
    · rw [present, Bool.not_true, Bool.and_false]
  have entered : enterKeeping .moving (takeInHand ⟨seq, .runChain, b⟩ (orderFields b) false .chain s) =
      stateTaken .moving (takeInHand ⟨seq, .runChain, b⟩ (orderFields b) false .chain s) :=
    enterKeeping_of_running rfl rfl rest.brake rest.pump rest.running rest.looping
  have idle : (stateTaken .moving (takeInHand ⟨seq, .runChain, b⟩ (orderFields b) false .chain s)).mg.phase = .idle :=
    rest.idle
  unfold takeRunChain
  dsimp only
  rw [granted, if_neg (by decide), entered, startChainMotion, if_pos idle, orderFields_start b start, startChain_eq]
  rfl

theorem runChain_arrives (free : HeadFree seq s) (run : s.mc.mode = .run) (ready : s.tsq.state = .ready) :
    exec (.runChain seq b) s = .next (orderFetchTest (takeRunChain ⟨seq, .runChain, b⟩ (consumed seq s))) := by
  have taken : takeHead ⟨seq, .runChain, b⟩ (consumed seq s) = takeRunChain ⟨seq, .runChain, b⟩ (consumed seq s) :=
    takeHead_of_order rfl run (by simp [ready, Code.acceptedIn])
  rw [← taken, ← recordArrives_of_headFree free]
  rfl

/-- What lets a RUN CHAIN look for its start segment i. -/
structure ChainOrdered (seq : Byte) (b : Body) (i : Fin 32) (s : State) : Prop where
  free : HeadFree seq s
  rest : ReadyAtRest s
  run : s.mc.mode = .run
  start : i.val = b.w1.toNat / 65536 % 32
  ring : b.w1.getLsbD 24 = false ∨ level .writeRing s = true

theorem ChainOrdered.exec_eq (o : ChainOrdered seq b i s) : exec (.runChain seq b) s =
    .next (orderFetchTest (entryOutcome (enterAtRest entryRounds i (chainBegun seq b (consumed seq s))))) := by
  rw [runChain_arrives o.free o.run o.rest.ready, takeRunChain_of_ring (s := consumed seq s) (o.rest.consumed seq) o.start o.ring]

/-! ## What the take leaves -/

/-- The take of a RUN CHAIN, with what the first entry leaves of generator, walker, cache and WRITE ENABLE. -/
structure ChainTaken (seq : Byte) (b : Body) (g : Mg) (w : Wk) (c : Sc) (writes : Bool) (s t : State) : Prop where
  taken : Taken seq s t
  outputs : t.tsq = { s.tsq with
    state := .moving, inHand := some (handAtTake seq .runChain b false .chain s), timer := 0, timerOn := false
    writeEnable := writes }
  motion : t.mg = g
  walker : t.wk = w
  cache : t.sc = c
  measures : t.mu = s.mu
  capstan : t.cl = s.cl
  reels : t.rl = s.rl
  faults : t.fm = s.fm
  around : SameSurroundings s t

/-- A state in which only these parts differ from a chain begun. -/
def chainWith (seq : Byte) (b : Body) (g : Mg) (w : Wk) (c : Sc) (writes : Bool) (r : Ru) (s : State) : State :=
  { chainBegun seq b s with
    mg := g, wk := w, sc := c, tsq := { (chainBegun seq b s).tsq with writeEnable := writes }, ru := r }

theorem chainWith_taken (snapshot : r.snapDue = (chainBegun seq b s).ru.snapDue ∧ r.snapCounter = s.ru.snapCounter) :
    ChainTaken seq b g w c writes s (orderFetchTest (chainWith seq b g w c writes r (consumed seq s))) := by
  obtain ⟨due, counter⟩ := snapshot
  refine ⟨⟨orderFetchTest_of_consumed rfl, ?_, ?_⟩, ?_, ?_, ?_, ?_, ?_, ?_, ?_, ?_, ?_⟩
  all_goals simp only [SameSurroundings, SameBus, SameSetup, orderFetchTest_frame]
  case refine_1 => exact due
  case refine_2 => exact counter
  case refine_11 => exact ⟨⟨rfl, rfl⟩, rfl, rfl, rfl, rfl, rfl⟩
  all_goals rfl

/-- The generator behind an entry at rest (R65). -/
def Mg.enteredAtRest (g : Mg) (seg : Segment) (last : Bool) (w : Nat) (copy : Option (Fin 32 × Segment)) : Mg :=
  { g with v := 0 }.given seg 0 last w copy

/-- R84 at the start of a chain. -/
def chainWrites (seg : Segment) (b : Body) (s : State) : Bool := b.w1.getLsbD 24 && seg.write && level .writeRing s

theorem writesAt_chainBegun (legal : ¬ (seg.reverse = true ∧ seg.write = true)) :
    writesAt seg (chainBegun seq b s) = chainWrites seg b s := by
  have hand : (chainBegun seq b s).tsq.inHand = some (handAtTake seq .runChain b false .chain s) := rfl
  rw [writesAt_of_hand hand]
  have ring : level .writeRing (chainBegun seq b s) = level .writeRing s := rfl
  have intent : (handAtTake seq .runChain b false .chain s).fields.writeIntent = b.w1.getLsbD 24 := rfl
  have forward : (!seg.reverse && seg.write) = seg.write := by
    cases write : seg.write with
    | false => rw [Bool.and_false]
    | true => simpa [write] using legal
  rw [ring, intent, chainWrites]
  simp only [handAtTake, decide_true, Bool.true_and, Bool.not_false, Bool.and_true]
  rw [Bool.and_assoc (b.w1.getLsbD 24), forward]

/-- The state behind an entry at the start of a chain. -/
theorem restEntered_chain (legal : ¬ (seg.reverse = true ∧ seg.write = true)) (last : Bool) (w : Nat)
    (copy : Option (Fin 32 × Segment)) : restEntered seg last w copy (atRestVisit i seg (chainBegun seq b s)) =
      chainWith seq b ((chainMg s).enteredAtRest seg last w copy) ((chainWk seq b).visited i seg seg.distance) s.sc
        (chainWrites seg b s) (visitRu i seg (chainBegun seq b s)) s := by
  have writes : writesAt seg (atRestVisit i seg (chainBegun seq b s)) = chainWrites seg b s :=
    writesAt_chainBegun legal
  have counts : (0 : Int) + seg.distance - (0 : Nat) = seg.distance := by omega
  unfold restEntered segmentGiven
  rw [writes, counts]
  rfl

theorem chain_reports (mu : t.mu = s.mu) (ru : t.ru = visitRu i seg (chainBegun seq b (consumed seq s))) : Reports s t
    (if seg.distance = 0 then [⟨.segmentEmpty, i.val, 1, some seq, .moving⟩] else []) := by
  have said := visitRu_reports (k := i) (n := seg) (s := chainBegun seq b (consumed seq s)) (t := t) mu ru
  exact Reports.of_due (due := s.ru.snapDue || decide (.moving ≠ s.tsq.state)) (said.congr rfl rfl rfl)

end Sys2Proof.Machine
end

section
/-! The start segment of a chain: entered, flowing, awaited, and empty (R25, R64 to R68). -/

namespace Sys2Proof.Machine

variable {s t u v : State} {i : Fin 32} {seg n : Segment} {seq : Byte} {b : Body}

/-! ## The start segment -/

/-- What the start segment of a chain gives its entry. -/
structure ChainStart (i : Fin 32) (seg : Segment) (s : State) : Prop where
  copy : s.sc.entries.get i = .valid seg
  legal : ¬ (seg.reverse = true ∧ seg.write = true)
  quiet : seg.approach = 0 ∨ seg.distance = 0
  said : seg.distance = 0 → s.mc.params.mask.segmentEmpty = true ∧ Room 1 s

theorem first_visit_few : (chainBegun seq b s).wk.visits + 1 ≠ 32 := by
  change 0 + 1 ≠ 32
  decide

theorem ChainStart.enters (start : ChainStart i seg s) (seq : Byte) (b : Body) :
    Enters i seg (chainBegun seq b (consumed seq s)) := by
  obtain ⟨copy, legal, quiet, said⟩ := start
  have usable : entryOf i (chainBegun seq b (consumed seq s)) = .valid seg := copy
  have first : (chainBegun seq b (consumed seq s)).wk.visits + 1 ≠ 32 := first_visit_few
  refine ⟨by rw [usable]; rfl, legal, ?_, .inr quiet, said⟩
  cases last : seg.last with
  | true => exact .inl rfl
  | false => exact .inr ⟨rfl, first⟩

/-- The take that enters its start segment, from the outcome of that entry. -/
theorem ChainOrdered.enters (o : ChainOrdered seq b i s) (start : ChainStart i seg s) {last : Bool} {w : Nat}
    {copy : Option (Fin 32 × Segment)} {answer : Entry}
    (entry : enterAtRest entryRounds i (chainBegun seq b (consumed seq s)) =
      (restEntered seg last w copy (atRestVisit i seg (chainBegun seq b (consumed seq s))), answer))
    {f : Mg → Mg} (outcome : ∀ u : State, entryOutcome (u, answer) = u.onMg f) :
    ∃ t, exec (.runChain seq b) s = .next t ∧
      ChainTaken seq b (f ((chainMg s).enteredAtRest seg last w copy)) ((chainWk seq b).visited i seg seg.distance) s.sc (chainWrites seg b s) s t ∧
      Reports s t (if seg.distance = 0 then [⟨.segmentEmpty, i.val, 1, some seq, .moving⟩] else []) := by
  have runs := o.exec_eq
  rw [entry, restEntered_chain start.legal, outcome] at runs
  refine ⟨_, runs, chainWith_taken (visitRu_snapshot i seg (chainBegun seq b (consumed seq s))), ?_⟩
  exact chain_reports (by simp only [orderFetchTest_frame]; rfl) (by simp only [orderFetchTest_frame]; rfl)

/-- R64, R65: the start segment is the last one. -/
theorem chain_enters_last (o : ChainOrdered seq b i s) (start : ChainStart i seg s) (last : seg.last = true)
    (moves : seg.distance ≠ 0) :
    ∃ t, exec (.runChain seq b) s = .next t ∧
      ChainTaken seq b ((chainMg s).enteredAtRest seg true 0 none) ((chainWk seq b).visited i seg seg.distance) s.sc
        (chainWrites seg b s) s t ∧ Reports s t [] := by
  obtain ⟨t, runs, taken, reports⟩ :=
    o.enters start ((start.enters seq b).into_last (rounds := 32) last moves) (f := fun g => g) fun _ => rfl
  rw [if_neg moves] at reports
  exact ⟨t, runs, taken, reports⟩

/-- R25, R66: the start segment flows into the next one. -/
theorem chain_flows (o : ChainOrdered seq b i s) (start : ChainStart i seg s) (more : seg.last = false)
    (moves : seg.distance ≠ 0) (usable : s.sc.entries.get seg.next = .valid n) (flows : seg.flow = true)
    (along : n.reverse = seg.reverse) (legal : ¬ (n.reverse = true ∧ n.write = true))
    (speeds : 1 ≤ min (min seg.vmax n.vmax) s.mc.params.globalLimit) :
    ∃ t, exec (.runChain seq b) s = .next t ∧
      ChainTaken seq b ((chainMg s).enteredAtRest seg false (min (min seg.vmax n.vmax) s.mc.params.globalLimit)
        (some (seg.next, n))) ((chainWk seq b).visited i seg seg.distance) s.sc (chainWrites seg b s) s t ∧
      Reports s t [] := by
  have ceiling : effCeiling seg.vmax (atRestVisit i seg (chainBegun seq b (consumed seq s))) =
      min seg.vmax s.mc.params.globalLimit := rfl
  have slowest : min (min seg.vmax n.vmax) (min seg.vmax s.mc.params.globalLimit) =
      min (min seg.vmax n.vmax) s.mc.params.globalLimit := by omega
  have ahead := lookAhead_of_flow (s := atRestVisit i seg (chainBegun seq b (consumed seq s))) usable flows along legal
    (by rw [ceiling, slowest]; exact speeds)
  rw [ceiling, slowest] at ahead
  obtain ⟨t, runs, taken, reports⟩ :=
    o.enters start ((start.enters seq b).into_flow (rounds := 32) more first_visit_few moves ahead) (f := fun g => g) fun _ => rfl
  rw [if_neg moves] at reports
  exact ⟨t, runs, taken, reports⟩

/-- R68: the start segment is empty and last: the chain's end waits in HOLD for the first expiry. -/
theorem chain_ends_at_start (o : ChainOrdered seq b i s) (start : ChainStart i seg s) (last : seg.last = true)
    (empty : seg.distance = 0) :
    ∃ t, exec (.runChain seq b) s = .next t ∧
      ChainTaken seq b
        { (chainMg s).enteredAtRest seg true 0 none with phase := .hold, chainEnd := some .complete }
        ((chainWk seq b).visited i seg seg.distance) s.sc (chainWrites seg b s) s t ∧
      Reports s t [⟨.segmentEmpty, i.val, 1, some seq, .moving⟩] := by
  obtain ⟨t, runs, taken, reports⟩ :=
    o.enters start ((start.enters seq b).ends (rounds := 32) last empty rfl) (f := fun g => { g with phase := .hold, chainEnd := some .complete })
      fun _ => rfl
  rw [if_pos empty] at reports
  exact ⟨t, runs, taken, reports⟩

/-- R61, R67: an INVALID start is ordered and awaited. -/
theorem chain_awaits_start (o : ChainOrdered seq b i s) (invalid : s.sc.entries.get i = .invalid) :
    ∃ t, exec (.runChain seq b) s = .next t ∧
      ChainTaken seq b { chainMg s with phase := .hold } { chainWk seq b with awaited := some i } (s.sc.ordered i) false
        s t ∧ Reports s t [] := by
  have missing : (entryOf i (chainBegun seq b (consumed seq s))).copy = none := by
    rw [show entryOf i (chainBegun seq b (consumed seq s)) = .invalid from invalid]
    rfl
  have ordered := awaitEntry_eq (orderForWalker_of_invalid (s := chainBegun seq b (consumed seq s)) invalid)
  have runs := o.exec_eq
  rw [enterAtRest_of_missing missing, ordered] at runs
  have taken := chainWith_taken (seq := seq) (b := b) (g := { chainMg s with phase := .hold })
    (w := { chainWk seq b with awaited := some i }) (c := s.sc.ordered i) (writes := false)
    (r := (chainBegun seq b (consumed seq s)).ru) (s := s) ⟨rfl, rfl⟩
  refine ⟨_, runs, taken, ?_⟩
  refine reports_nil_of_ru (due := s.ru.snapDue || decide (.moving ≠ s.tsq.state)) (n := s.ru.snapCounter) ?_
  simp only [orderFetchTest_frame]
  rfl

end Sys2Proof.Machine
end

section
/-! Expiries in HOLD (R27, R67, R68, R83), and the statement about RUN CHAIN. -/

namespace Sys2Proof.Machine

variable {s t u v : State} {m : Motion} {i k : Fin 32} {seg n : Segment} {seq : Byte} {b : Body} {h : InHand} {o : ExpiryOrder}

/-! ## The step of HOLD -/

/-- R20: the generator after an expiry that hands on v_t = 0. -/
def Mg.handedRest (g : Mg) : Mg := { g with vt := 0, delta := -g.prevVt, prevVt := 0 }

theorem handOnSpeed_zero (s : State) : handOnSpeed 0 s = { s with mg := s.mg.handedRest } := by
  simp [handOnSpeed, State.onMg, Mg.handedRest]

theorem holdStep_of_ready (noEnd : s.mg.chainEnd = none) : holdStep s =
    ({ (enterAwaited s).1 with mg := (enterAwaited s).1.mg.handedRest }, (enterAwaited s).2) := by
  rw [holdStep, holdTake, noEnd, ← handOnSpeed_zero]

/-- R67: an awaited entry without a copy is waited for. -/
theorem enterAwaited_of_missing (awaited : s.wk.awaited = some i) (missing : (entryOf i s).copy = none) :
    enterAwaited s = (s, none) := by
  unfold enterAwaited
  rw [awaited]
  simp [missing]

/-- R27, R67: an awaited entry that is entered, or that leads to another wait. -/
theorem enterAwaited_of_copy {answer : Entry} (awaited : s.wk.awaited = some i) (copy : (entryOf i s).copy = some seg)
    (entry : enterAtRest entryRounds i s = (u, answer)) (goesOn : answer = .entered ∨ answer = .waiting) :
    enterAwaited s = (u, none) := by
  unfold enterAwaited
  rw [awaited]
  dsimp only
  rw [copy, Option.isSome_some, if_pos rfl, entry]
  rcases goesOn with rfl | rfl <;> rfl

theorem stageEnd_of_hold (only : OnlyMotion s) (moving : s.tsq.state = .moving) (hold : s.mg.phase = .hold) (a : Bool) :
    stageEnd a s = motionEnds (holdStep (stageStart a s)).2 (holdStep (stageStart a s)).1 := by
  have still : (stageStart a s).mg.phase ≠ .run := by
    change s.mg.phase ≠ .run
    simp [hold]
  have reduced : reduceSpeed (stageStart a s) = stageStart a s := reduceSpeed_of_not_run moving still
  have phase : (stageStart a s).mg.phase = .hold := hold
  rw [stageEnd, generatorStage, generatorStep, only.quiet.no_requests a]
  dsimp only
  rw [reduced, phaseStep, phase]

theorem stageEnd_of_awaited (only : OnlyMotion s) (moving : s.tsq.state = .moving) (hold : s.mg.phase = .hold)
    (noEnd : s.mg.chainEnd = none) {a : Bool} (step : enterAwaited (stageStart a s) = (u, none)) :
    stageEnd a s = { u with mg := u.mg.handedRest } := by
  rw [stageEnd_of_hold only moving hold, holdStep_of_ready (s := stageStart a s) noEnd, step]
  rfl

theorem copy_of_usable (usable : s.sc.entries.get i = .valid seg ∨ s.sc.entries.get i = .stale seg) :
    (entryOf i s).copy = some seg := by
  unfold entryOf
  rcases usable with valid | stale
  · rw [valid]
    rfl
  · rw [stale]
    rfl

theorem missing_of_unusable (unusable : s.sc.entries.get i = .invalid ∨ s.sc.entries.get i = .fetching) :
    (entryOf i s).copy = none := by
  unfold entryOf
  rcases unusable with invalid | fetching
  · rw [invalid]
    rfl
  · rw [fetching]
    rfl

/-! ## The expiries -/

/-- R67: the awaited entry is not usable yet. -/
theorem waits_outcome (only : OnlyMotion s) (o : ExpiryOrder) (moving : s.tsq.state = .moving) (hold : s.mg.phase = .hold)
    (noEnd : s.mg.chainEnd = none) (awaited : s.wk.awaited = some i)
    (unusable : s.sc.entries.get i = .invalid ∨ s.sc.entries.get i = .fetching) :
    ∃ t, exec (.periodExpiry o) s = .next t ∧ t.mg = s.mg.handedRest ∧ t.tsq = s.tsq ∧ t.wk = s.wk ∧ t.sc = s.sc ∧
      AroundMotion s t ∧ Reports s t [] ∧ SnapshotByExpiry s t := by
  have stage (a : Bool) : stageEnd a s = { stageStart a s with mg := s.mg.handedRest } :=
    stageEnd_of_awaited only moving hold noEnd
      (enterAwaited_of_missing (s := stageStart a s) awaited (missing_of_unusable (s := stageStart a s) unusable))
  obtain ⟨t, runs, mg, -, kept⟩ :=
    only.calm.outcome_of_mg o (by simp [moving, TState.timed]) stage (.inl (by simp [moving]))
  exact ⟨t, runs, mg, kept⟩

/-- The awaited segment as its entry at an expiry finds it. -/
structure Awaits (i : Fin 32) (seg : Segment) (s : State) : Prop where
  only : OnlyMotion s
  moving : s.tsq.state = .moving
  hold : s.mg.phase = .hold
  noEnd : s.mg.chainEnd = none
  awaited : s.wk.awaited = some i
  enters : Enters i seg s

theorem Awaits.entersAt (w : Awaits i seg s) (a : Bool) : Enters i seg (stageStart a s) := by
  obtain ⟨copy, legal, noLimit, quiet, said⟩ := w.enters
  exact ⟨copy, legal, noLimit, quiet, said⟩

theorem Awaits.stage (w : Awaits i seg s) {a : Bool} {answer : Entry}
    (entry : enterAtRest entryRounds i (stageStart a s) = (u, answer)) (goesOn : answer = .entered ∨ answer = .waiting) :
    stageEnd a s = { u with mg := u.mg.handedRest } :=
  stageEnd_of_awaited w.only w.moving w.hold w.noEnd
    (enterAwaited_of_copy (s := stageStart a s) w.awaited w.enters.copy entry goesOn)

/-- R65: the walker behind an entry at rest, whose surplus is 0. -/
theorem restEntered_wk (last : Bool) (x : Nat) (copy : Option (Fin 32 × Segment)) (s : State) :
    (restEntered seg last x copy (atRestVisit i seg s)).wk = s.wk.visited i seg seg.distance := by
  have counts : (0 : Int) + seg.distance - (0 : Nat) = seg.distance := by omega
  unfold restEntered segmentGiven
  rw [counts]
  rfl

/-- R27, R65, R67: the awaited segment is entered as the last one. -/
theorem Awaits.enters_last (w : Awaits i seg s) (o : ExpiryOrder) (last : seg.last = true) (moves : seg.distance ≠ 0) :
    ∃ t, exec (.periodExpiry o) s = .next t ∧ t.mg = (s.mg.enteredAtRest seg true 0 none).handedRest ∧
      t.wk = s.wk.visited i seg seg.distance ∧ t.tsq = { s.tsq with writeEnable := writesAt seg s } ∧ t.sc = s.sc ∧
      AroundMotion s t ∧ Reports s t [] ∧ SnapshotByExpiry s t := by
  have stage (a : Bool) : stageEnd a s = { stageStart a s with
      mg := (s.mg.enteredAtRest seg true 0 none).handedRest, wk := s.wk.visited i seg seg.distance, sc := s.sc
      tsq := { s.tsq with writeEnable := writesAt seg s }, ru := visitRu i seg (stageStart a s) } := by
    rw [w.stage ((w.entersAt a).into_last (rounds := 32) last moves) (.inl rfl)]
    have walker : s.wk.visited i seg seg.distance = _ := (restEntered_wk true 0 none (stageStart a s)).symm
    rw [walker]
    rfl
  have silent : visitSaid i seg s = [] := if_neg moves
  rw [← silent]
  exact w.only.calm.outcome_of_visit o w.moving stage

/-- R68: the awaited segment is empty, and leads to its next entry, which is ordered and awaited in its turn. -/
theorem Awaits.skips (w : Awaits i seg s) (o : ExpiryOrder) (more : seg.last = false) (few : s.wk.visits + 1 ≠ 32)
    (empty : seg.distance = 0) (invalid : s.sc.entries.get seg.next = .invalid) :
    ∃ t, exec (.periodExpiry o) s = .next t ∧
      t.mg = { s.mg.enteredAtRest seg false 0 none with phase := .hold }.handedRest ∧
      t.wk = { s.wk.visited i seg seg.distance with awaited := some seg.next } ∧
      t.tsq = { s.tsq with writeEnable := false } ∧ t.sc = s.sc.ordered seg.next ∧ AroundMotion s t ∧
      Reports s t (visitSaid i seg s) ∧ SnapshotByExpiry s t := by
  have stage (a : Bool) : stageEnd a s = { stageStart a s with
      mg := { s.mg.enteredAtRest seg false 0 none with phase := .hold }.handedRest
      wk := { s.wk.visited i seg seg.distance with awaited := some seg.next }, sc := s.sc.ordered seg.next
      tsq := { s.tsq with writeEnable := false }, ru := visitRu i seg (stageStart a s) } := by
    have ahead := lookAhead_of_invalid (s := atRestVisit i seg (stageStart a s)) (seg := seg) invalid
    have skipped := (w.entersAt a).skips (rounds := 32) more few empty ahead
    have missing : (entryOf seg.next (restEntered seg false 0 none { atRestVisit i seg (stageStart a s) with
        sc := s.sc.ordered seg.next })).copy = none := by
      rw [show entryOf seg.next (restEntered seg false 0 none { atRestVisit i seg (stageStart a s) with
        sc := s.sc.ordered seg.next }) = .fetching from entryOf_ordered seg.next s]
      rfl
    have stays := orderForWalker_of_ordered seg.next (restEntered seg false 0 none (atRestVisit i seg (stageStart a s)))
    have waits := (enterAtRest_of_missing missing 32).trans (congrArg (·, Entry.waiting) (awaitEntry_eq stays))
    rw [w.stage (skipped.trans waits) (.inr rfl)]
    have walker : s.wk.visited i seg seg.distance = _ := (restEntered_wk false 0 none (stageStart a s)).symm
    rw [walker]
    rfl
  exact w.only.calm.outcome_of_visit o w.moving stage

/-- R67, R83: a chain whose fetch has failed ends where the expiry finds it in HOLD. -/
theorem unavailable_outcome (only : OnlyMotion s) (o : ExpiryOrder) (law : OutputLaw s) (moving : s.tsq.state = .moving)
    (pump : s.tsq.vacuum = true) (hold : s.mg.phase = .hold) (failed : s.mg.chainEnd = some .segmentUnavailable)
    (hand : s.tsq.inHand = some h) (leg : h.leg = .chain) (code : h.code = .runChain) (running : h.stopping = false)
    (fresh : ∀ (k : Fin 32) (copy : Segment), s.sc.entries.get k ≠ .stale copy) (room : Room 1 s) :
    ∃ t, exec (.periodExpiry o) s = .next t ∧ t.tsq = s.tsq.ended .ready s.tsq.brake s.tsq.vacuum ∧
      t.mg = s.mg.toIdle.handedRest ∧ t.wk = (walkerLeft s).wk ∧ t.sc = s.sc ∧ AroundMotion s t ∧
      Reports s t [⟨.orderDone, 7, newP s - h.pAtTake, some h.seq, .ready⟩] ∧ SnapshotByExpiry s t := by
  have follows : Following s := law.following (by simp [moving, TState.loops]) (by simp [moving, TState.capstanRuns]) pump
  have outcome (marks : ChainMarks) :
      endOutcome h marks (.chainEnded .segmentUnavailable) = (.segmentUnavailable, 0) := by
    rw [endOutcome, running]
    rfl
  have stage (a : Bool) : stageEnd a s = orderEnded .segmentUnavailable 0 h
      (walkerLeft { stageStart a s with mg := s.mg.toIdle.handedRest }) := by
    have taken : holdTake (stageStart a s) =
        ((stageStart a s).onMg Mg.toIdle, some (.chainEnded .segmentUnavailable)) := by
      have failed' : (stageStart a s).mg.chainEnd = some .segmentUnavailable := failed
      rw [holdTake, failed']
    have step : holdStep (stageStart a s) = ({ stageStart a s with mg := s.mg.toIdle.handedRest },
        some (.chainEnded .segmentUnavailable)) := by
      rw [holdStep, taken]
      dsimp only
      rw [handOnSpeed_zero]
      rfl
    have ends := motionEnd_ends (e := .chainEnded .segmentUnavailable)
      (s := { stageStart a s with mg := s.mg.toIdle.handedRest }) rfl hand (.inr (.inr leg))
      (follows.congr rfl rfl rfl rfl rfl) room (.inr fresh)
    rw [outcome] at ends
    rw [stageEnd_of_hold only moving hold, step]
    exact ends
  exact only.calm.outcome_of_end o (by simp [moving, TState.timed]) (.inr code) stage

/-! ## The statement -/

/-- Settles O43: the take by what it finds at the start, then the expiries in HOLD. -/
theorem runChainEntersItsStart : Obligations.RunChainEntersItsStart := by
  unfold Obligations.RunChainEntersItsStart
  refine ⟨?last, ?flows, ?awaits, ?noRing, ?enters, ?waits, ?fails, ?emptyLast, ?skips⟩
  case last =>
    intro s seq b i seg free rest run start copy moves silent legal last ring
    obtain ⟨t, runs, taken, reports⟩ := chain_enters_last ⟨free, rest, run, start, ring⟩
      ⟨copy, legal, .inl silent, fun empty => absurd empty moves⟩ last moves
    have mg := taken.motion
    have q : t.mg.q = t.mu.p := by
      rw [mg, taken.measures]
      rfl
    refine ⟨t, runs, taken.taken, taken.outputs, ?_, by rw [mg]; rfl, ?_, taken.measures, taken.capstan, taken.reels,
      taken.cache, taken.faults, taken.around, reports⟩
    · constructor <;> simp [mg, ← q, Mg.enteredAtRest, chainMg, Mg.begin, Mg.reset, Mg.given]
    · rw [taken.walker]
      simp [Wk.visited, chainWk, Wk.reset]
  case flows =>
    intro s seq b i seg n free rest run start copy moves silent legal more flows usable along legal' segSpeed nextSpeed
      limit ring
    obtain ⟨t, runs, taken, reports⟩ := chain_flows ⟨free, rest, run, start, ring⟩
      ⟨copy, legal, .inl silent, fun empty => absurd empty moves⟩ more moves usable flows along legal' (by omega)
    have mg := taken.motion
    have length : t.mg.r = seg.distance ∧ t.mg.l = seg.distance := by
      simp [mg, Mg.enteredAtRest, chainMg, Mg.begin, Mg.given]
    exact ⟨t, runs, taken.taken, by rw [mg]; rfl, length.1, length.2, by rw [mg]; rfl, by rw [mg]; rfl, by rw [mg]; rfl,
      by rw [taken.walker]; rfl, by rw [taken.walker]; rfl, by rw [taken.outputs], by rw [taken.outputs]; rfl,
      taken.cache, taken.around, reports⟩
  case awaits =>
    intro s seq b i free rest run start invalid ring
    obtain ⟨t, runs, taken, reports⟩ := chain_awaits_start ⟨free, rest, run, start, ring⟩ invalid
    have mg := taken.motion
    have wk := taken.walker
    exact ⟨t, runs, taken.taken, by rw [mg], by rw [mg]; rfl, by rw [wk]; rfl, by rw [wk], by rw [wk]; rfl, by rw [wk]; rfl,
      by rw [wk]; rfl, taken.cache, taken.outputs, taken.measures, taken.capstan, taken.reels, taken.faults, taken.around,
      reports⟩
  case noRing =>
    intro s seq b free run ready writes absent room
    have refused : takeRunChain ⟨seq, .runChain, b⟩ (consumed seq s) = refuse .noWriteRing 0 seq (consumed seq s) := by
      have intent : ((orderFields b).writeIntent && !level .writeRing (consumed seq s)) = true := by
        have reads : level .writeRing (consumed seq s) = false := absent
        rw [reads, show (orderFields b).writeIntent = true from writes]
        rfl
      unfold takeRunChain
      dsimp only
      rw [intent, if_pos rfl]
    refine ⟨_, runChain_arrives free run ready, ?_⟩
    rw [refused]
    exact refused_of_take room
  case enters =>
    intro s o m h i seg only moving hold noEnd motion hand active awaited silent usable moves legal last
    have w : Awaits i seg s := ⟨only, moving, hold, noEnd, awaited, copy_of_usable usable, legal, .inl last, .inl silent,
      fun empty => absurd empty moves⟩
    obtain ⟨t, runs, mg, kept⟩ := w.enters_last o last moves
    rw [writesAt_of_hand hand] at kept
    refine ⟨t, runs, ?_, kept⟩
    rw [mg]
    simp [Mg.handedRest, Mg.enteredAtRest, Mg.given, motion]
  case waits =>
    intro s o i only moving hold noEnd awaited unusable
    exact waits_outcome only o moving hold noEnd awaited unusable
  case fails =>
    intro s o h only law moving pump hold failed hand leg code running active fresh room
    obtain ⟨t, runs, tsq, mg, wk, kept⟩ :=
      unavailable_outcome only o law moving pump hold failed hand leg code running fresh room
    rw [walkerLeft, active, if_pos rfl] at wk
    exact ⟨t, runs, tsq, by rw [mg]; rfl, by rw [mg]; rfl, by rw [mg]; rfl, by rw [wk]; rfl, by rw [wk]; rfl, by rw [wk]; rfl,
      kept⟩
  case emptyLast =>
    intro s seq b i seg free rest run start copy empty legal last room mask ring
    obtain ⟨t, runs, taken, reports⟩ := chain_ends_at_start ⟨free, rest, run, start, ring⟩
      ⟨copy, legal, .inr empty, fun _ => ⟨mask, room⟩⟩ last empty
    have mg := taken.motion
    have length : t.mg.l = 0 ∧ t.mg.r = 0 := by
      simp [mg, Mg.enteredAtRest, chainMg, Mg.begin, Mg.given, empty]
    refine ⟨t, runs, taken.taken, by rw [mg], by rw [mg], length.1, length.2, by rw [mg]; rfl, ?_, taken.outputs,
      taken.measures, taken.capstan, taken.reels, taken.cache, taken.faults, taken.around, reports⟩
    rw [taken.walker]
    simp [Wk.visited, chainWk, Wk.reset, empty]
  case skips =>
    intro s o m i seg only moving hold noEnd motion active awaited usable empty legal more few invalid room mask
    have w : Awaits i seg s := ⟨only, moving, hold, noEnd, awaited, copy_of_usable usable, legal, .inr ⟨more, few⟩,
      .inr (.inr empty), fun _ => ⟨mask, room⟩⟩
    obtain ⟨t, runs, mg, wk, tsq, sc, around, reports, snapshot⟩ := w.skips o more few empty invalid
    rw [visitSaid, if_pos empty, moving] at reports
    refine ⟨t, runs, ?_, ?_, tsq, sc, around, reports, snapshot⟩
    · rw [mg]
      simp [Mg.handedRest, Mg.enteredAtRest, Mg.given, motion, empty]
    · rw [wk]
      simp [Wk.visited, empty]

end Sys2Proof.Machine
end

section
/-! What the stage of RUN leaves of the reduction ceiling, the saturation run and the reports, whatever the chain does
(R23, R37, R169). -/

namespace Sys2Proof.Machine

variable {s t u v : State} {k : Fin 32} {seg : Segment} {kind : ReportKind}

/-! ## Reports of the motion -/

/-- From s to t routine reports may have been generated, none a SENSE CHANGE, and WRITE ENABLE may have moved: reports
join the list or are dropped, and displace none (R169). -/
structure Routine (s t : State) : Prop where
  lines : t.slu = s.slu
  list : s.ru.pendingReports <+: t.ru.pendingReports
  due : t.ru.snapDue = s.ru.snapDue
  counter : t.ru.snapCounter = s.ru.snapCounter
  outputs : ∃ b, t.tsq = { s.tsq with writeEnable := b }

theorem Routine.of_same {writes : Bool} (slu : t.slu = s.slu) (ru : t.ru = s.ru)
    (tsq : t.tsq = { s.tsq with writeEnable := writes }) : Routine s t :=
  ⟨slu, by rw [ru], by rw [ru], by rw [ru], writes, tsq⟩

theorem Routine.refl (s : State) : Routine s s := .of_same (writes := s.tsq.writeEnable) rfl rfl rfl

theorem Routine.trans (h : Routine s t) (h' : Routine t u) : Routine s u := by
  obtain ⟨lines, list, due, counter, writes, tsq⟩ := h
  obtain ⟨lines', list', due', counter', writes', tsq'⟩ := h'
  exact ⟨lines'.trans lines, list.trans list', due'.trans due, counter'.trans counter, writes', by rw [tsq', tsq]⟩

/-- R169: a routine report joins the pending list, or is dropped. -/
theorem enterPending_routine {r : Report} (routine : r.kind.urgent = false) (other : r.kind ≠ .senseChange) :
    Routine s (enterPending r s) := by
  unfold enterPending
  by_cases room : s.ru.pendingReports.length < Config.pendingMax
  · rw [if_pos room]
    exact ⟨rfl, List.prefix_append _ _, rfl, rfl, s.tsq.writeEnable, rfl⟩
  · rw [if_neg room, routine, if_neg (by decide), dropReport, if_neg other]
    exact ⟨rfl, List.prefix_rfl, rfl, rfl, s.tsq.writeEnable, rfl⟩

theorem generate_routine (routine : kind.urgent = false) (other : kind ≠ .senseChange) (code : Nat) (value : Int)
    (seq : Option Byte) (s : State) : Routine s (generate kind code value seq s) := by
  have named : Routine s (s.onRu fun u => { u with nextId := u.nextId + 1 }) :=
    ⟨rfl, List.prefix_rfl, rfl, rfl, s.tsq.writeEnable, rfl⟩
  unfold generate
  dsimp only
  split
  · exact named.trans (enterPending_routine routine other)
  · exact named

/-! ## The motion goes on -/

/-- From s to t only routine reports were generated, the saturation run and the reduction ceiling stand, and a motion that
was not IDLE is not. -/
structure Onward (s t : State) : Prop where
  routine : Routine s t
  satRun : t.mg.satRun = s.mg.satRun
  reduction : t.mg.reduction = s.mg.reduction
  going : s.mg.phase ≠ .idle → t.mg.phase ≠ .idle

theorem Onward.refl (s : State) : Onward s s := ⟨.refl s, rfl, rfl, id⟩

theorem Onward.trans (h : Onward s t) (h' : Onward t u) : Onward s u :=
  ⟨h.routine.trans h'.routine, h'.satRun.trans h.satRun, h'.reduction.trans h.reduction, h'.going ∘ h.going⟩

theorem Onward.of_mg (routine : Routine s t) (mg : t.mg = s.mg) : Onward s t := by
  refine ⟨routine, ?_, ?_, ?_⟩ <;> rw [mg]
  exact id

/-- A change of the generator alone. -/
theorem Onward.onMg {f : Mg → Mg} (satRun : (f s.mg).satRun = s.mg.satRun) (reduction : (f s.mg).reduction = s.mg.reduction)
    (going : s.mg.phase ≠ .idle → (f s.mg).phase ≠ .idle) : Onward s (s.onMg f) :=
  ⟨.of_same (writes := s.tsq.writeEnable) rfl rfl rfl, satRun, reduction, going⟩

/-- A change that touches neither the generator nor the reports. -/
theorem Onward.of_frame (mg : t.mg = s.mg) (slu : t.slu = s.slu) (ru : t.ru = s.ru) (tsq : t.tsq = s.tsq) : Onward s t :=
  .of_mg (.of_same (writes := s.tsq.writeEnable) slu ru tsq) mg

theorem generate_onward (routine : kind.urgent = false) (other : kind ≠ .senseChange) (code : Nat) (value : Int)
    (seq : Option Byte) (s : State) : Onward s (generate kind code value seq s) :=
  .of_mg (generate_routine routine other code value seq s) (by simp)

theorem onWk_onward (f : Wk → Wk) (s : State) : Onward s (s.onWk f) := .of_frame rfl rfl rfl rfl

/-! ## The steps of an entry (R65) -/

theorem testApproach_onward (s : State) : Onward s (testApproach s) := by
  unfold testApproach
  split
  · exact .refl s
  · split
    · exact (onWk_onward _ s).trans (generate_onward (kind := .approach) rfl (by decide) _ _ _ _)
    · exact .refl s

theorem writeEnableAtEntry_onward (seg : Segment) (s : State) : Onward s (writeEnableAtEntry seg s) :=
  .of_mg (.of_same (by simp) (by simp) rfl) (by simp)

theorem giveSegment_onward (seg : Segment) (before : Int) (c : Nat) (s : State) : Onward s (giveSegment seg before c s) := by
  have given (w : Nat) (copy : Option (Fin 32 × Segment)) (u : State) (b : Bool) :
      Onward u ((u.onMg fun g => g.given seg before b w copy).onWk fun w =>
        { w with g := before + seg.distance - c, approachDone := false }) :=
    ⟨.of_same (writes := u.tsq.writeEnable) rfl rfl rfl, rfl, rfl, fun _ => nofun⟩
  have ends (u : State) : Onward u (writeEnableAtEntry seg (testApproach u)) :=
    (testApproach_onward u).trans (writeEnableAtEntry_onward seg _)
  unfold giveSegment
  dsimp only
  cases last : handedLast seg s with
  | true => exact (given 0 none s true).trans (ends _)
  | false =>
    have looked : Onward s (lookAhead seg s).2.2 := .of_frame (by simp) (by simp) (by simp) (by simp)
    exact (looked.trans (given (lookAhead seg s).1 (lookAhead seg s).2.1 _ false)).trans (ends _)

theorem reportEmpty_onward (k : Fin 32) (seg : Segment) (s : State) : Onward s (reportEmpty k seg s) := by
  unfold reportEmpty
  split
  · exact generate_onward rfl (by decide) _ _ _ _
  · exact .refl s

theorem visitLimit_onward (seg : Segment) (s : State) : Onward s (visitLimit seg s) := by
  unfold visitLimit
  split <;> exact .of_frame rfl rfl rfl rfl

theorem countVisit_onward (k : Fin 32) (seg : Segment) (s : State) : Onward s (countVisit k seg s) :=
  .of_frame rfl rfl rfl rfl

theorem awaitEntry_onward (k : Fin 32) (s : State) : Onward s (awaitEntry k s) := by
  have ordered : Onward s (orderForWalker k s) := .of_frame (by simp) (by simp) (by simp) (by simp)
  have waits : Onward (orderForWalker k s) (entryAwaited k (orderForWalker k s)) :=
    ⟨.of_same (writes := false) rfl rfl rfl, rfl, rfl, fun _ => nofun⟩
  rw [awaitEntry_eq rfl]
  exact ordered.trans waits

theorem enterAtRest_onward (n : Nat) (k : Fin 32) (s : State) : Onward s (enterAtRest n k s).1 := by
  induction n generalizing k s with
  | zero => exact awaitEntry_onward k s
  | succ n ih =>
    unfold enterAtRest
    split
    · exact awaitEntry_onward k s
    · rename_i seg _
      have counted := countVisit_onward k seg s
      dsimp only
      split
      · have dropped : Onward (countVisit k seg s) (dropWriteEnable (countVisit k seg s)) :=
          .of_mg (.of_same (writes := false) rfl rfl rfl) rfl
        exact counted.trans dropped
      · have still : Onward (countVisit k seg s) ((countVisit k seg s).onMg fun g => { g with v := 0 }) :=
          .onMg rfl rfl id
        have given := ((counted.trans still).trans (visitLimit_onward seg _)).trans
          ((reportEmpty_onward k seg _).trans (giveSegment_onward seg 0 0 _))
        split
        · exact given
        · split
          · exact given
          · exact given.trans (ih _ _)

theorem passBoundary_onward (n c : Nat) (s : State) : Onward s (passBoundary n c s) := by
  induction n generalizing s with
  | zero => exact .refl s
  | succ n ih =>
    unfold passBoundary
    split
    · exact .refl s
    · rename_i k seg _
      have kept : Onward s (keepLookAhead k seg s) := .of_frame (by simp) (by simp) (by simp) (by simp)
      have visited := (kept.trans (countVisit_onward k seg _)).trans
        ((visitLimit_onward seg _).trans (reportEmpty_onward k seg _))
      dsimp only
      generalize reportEmpty k seg (visitLimit seg (countVisit k seg (keepLookAhead k seg s))) = v at visited ⊢
      have given := visited.trans (giveSegment_onward seg v.mg.r c v)
      split
      · exact given
      · split
        · exact given.trans (ih _)
        · exact given.trans (.onMg rfl rfl id)

/-! ## The step of RUN -/

theorem walkerCommit_onward (c : Nat) (s : State) : Onward s (walkerCommit c s) := by
  unfold walkerCommit
  split
  · exact (onWk_onward _ s).trans (testApproach_onward _)
  · exact .refl s

/-- R32: what the clamp leaves alone. -/
theorem applyClamp_keeps (s : State) : (applyClamp s).mg.v = s.mg.v ∧ (applyClamp s).mg.accel = s.mg.accel ∧
    (applyClamp s).mg.satRun = s.mg.satRun ∧ (applyClamp s).mg.reduction = s.mg.reduction ∧
    (applyClamp s).mg.phase = s.mg.phase ∧ (s.mg.w = 0 → (applyClamp s).mg.w = 0) := by
  unfold applyClamp
  split
  · exact ⟨rfl, rfl, rfl, rfl, rfl, id⟩
  · dsimp only [State.onMg]
    split
    · exact ⟨rfl, rfl, rfl, rfl, rfl, fun _ => rfl⟩
    · split <;> exact ⟨rfl, rfl, rfl, rfl, rfl, fun _ => rfl⟩

theorem applyClamp_onward (s : State) : Onward s (applyClamp s) := by
  obtain ⟨-, -, satRun, reduction, phase, -⟩ := applyClamp_keeps s
  exact ⟨.of_same (writes := s.tsq.writeEnable) (by simp) (by simp) (by simp), satRun, reduction, by rw [phase]; exact id⟩

theorem chooseSpeed_onward (s : State) : Onward s (chooseSpeed s).2 := by
  have lowered : Onward s (s.onMg fun g => g.lowerEndSpeed (ceilingNow s)) := .onMg rfl rfl id
  unfold chooseSpeed
  dsimp only
  split
  · exact lowered
  · split
    · exact lowered.trans (.onMg rfl rfl id)
    · exact lowered

theorem commit_onward (c : Nat) (s : State) : Onward s (s.onMg fun g => g.commit c) := .onMg rfl rfl id

theorem runOn_onward (c : Nat) (s : State) : Onward s (runOn c s) := (commit_onward c s).trans (walkerCommit_onward c _)

theorem runPast_onward (c : Nat) (s : State) : Onward s (runPast c s).2 :=
  ((walkerCommit_onward c s).trans (passBoundary_onward entryRounds c _)).trans (commit_onward _ _)

/-! ## The end of the motion -/

/-- As Onward, from a motion at work; or the motion is IDLE, and its reduction ceiling is gone (R83). -/
structure Comes (s t : State) : Prop where
  routine : Routine s t
  satRun : t.mg.satRun = s.mg.satRun
  reduction : (t.mg.phase ≠ .idle ∧ t.mg.reduction = s.mg.reduction) ∨ (t.mg.phase = .idle ∧ t.mg.reduction = none)

theorem Onward.comes (h : Onward s t) (going : s.mg.phase ≠ .idle) : Comes s t :=
  ⟨h.routine, h.satRun, .inl ⟨h.going going, h.reduction⟩⟩

theorem Onward.then_comes (h : Onward s t) (h' : Comes t u) : Comes s u := by
  obtain ⟨routine, satRun, reduction⟩ := h'
  rw [h.reduction] at reduction
  exact ⟨h.routine.trans routine, satRun.trans h.satRun, reduction⟩

theorem comes_toIdle (s : State) : Comes s (s.onMg Mg.toIdle) :=
  ⟨.of_same (writes := s.tsq.writeEnable) rfl rfl rfl, rfl, .inr ⟨rfl, rfl⟩⟩

theorem nextSegment_comes (going : s.mg.phase ≠ .idle) : Comes s (nextSegment s).1 := by
  unfold nextSegment
  split
  · exact comes_toIdle s
  · rename_i seg _
    have entered := enterAtRest_onward entryRounds seg.next s
    split <;> rename_i e <;> rw [e] at entered
    · exact entered.comes going
    · exact entered.comes going
    · exact entered.then_comes (comes_toIdle _)

theorem restEnd_comes (going : s.mg.phase ≠ .idle) : Comes s (restEnd s).1 := by
  have settles (target : Int) (b : Bool) : Comes s (beginSettle target b s) := by
    have begun : Onward s (beginSettle target b s) := .onMg rfl rfl fun _ => nofun
    exact begun.comes going
  unfold restEnd
  split
  · exact comes_toIdle s
  · split
    · exact settles _ _
    · split
      · split
        · exact settles _ _
        · exact comes_toIdle s
      · exact nextSegment_comes going

theorem restAfter_comes (c : Nat) (going : s.mg.phase ≠ .idle) : Comes s (restAfter c s).1 := by
  unfold restAfter
  split
  · exact restEnd_comes going
  · exact (Onward.refl s).comes going

theorem Comes.handOnSpeed (h : Comes s t) (vt : Int) : Comes s (handOnSpeed vt t) :=
  ⟨h.routine.trans (.of_same (writes := t.tsq.writeEnable) rfl rfl rfl), h.satRun, h.reduction⟩

/-- The choice of an expiry in RUN, behind the clamp. -/
def chosen (s : State) : Nat × State := chooseSpeed (applyClamp s)

/-- The commit of an expiry in RUN: the counts, and the state behind them. -/
def committing (s : State) : Nat × State :=
  if 0 < (chosen s).2.mg.w ∧ (chosen s).2.mg.r ≤ (chosen s).1 then runPast (chosen s).1 (chosen s).2
  else ((chosen s).1, runOn (chosen s).1 (chosen s).2)

theorem runStep_eq (s : State) : runStep s =
    (handOnSpeed (dirSign ((applyClamp s).mg.motion.elim true Motion.forward) * (committing s).1)
      (restAfter (committing s).1 (committing s).2).1, (restAfter (committing s).1 (committing s).2).2) := rfl

theorem runStep_comes (going : s.mg.phase ≠ .idle) : Comes s (runStep s).1 := by
  have chose : Onward s (chosen s).2 := (applyClamp_onward s).trans (chooseSpeed_onward _)
  have commits : Onward s (committing s).2 := by
    unfold committing
    split
    · exact chose.trans (runPast_onward _ _)
    · exact chose.trans (runOn_onward _ _)
  rw [runStep_eq]
  exact (commits.then_comes (restAfter_comes _ (commits.going going))).handOnSpeed _

/-! ## The speed chosen (R22, R23) -/

theorem chooseSpeed_bounded (s : State) : (chooseSpeed s).1 ≤ max (ceilingNow s) (s.mg.v - s.mg.accel) := by
  unfold chooseSpeed
  dsimp only
  split
  · rename_i c fit
    unfold fitSpeed at fit
    obtain ⟨-, below, -, -⟩ := (largest_eq_some_iff _ _ _ _).mp fit
    simp only [State.onMg_mg, Mg.lowerEndSpeed] at below
    omega
  · exact Nat.le_max_right _ _

theorem chooseSpeed_stretch_end (stretch : s.mg.w = 0) : (chooseSpeed s).2.mg.w = 0 := by
  unfold chooseSpeed
  dsimp only
  split
  · simp [Mg.lowerEndSpeed, stretch]
  · split <;> simp [Mg.lowerEndSpeed, Mg.beginOverrun, stretch]

theorem ceilingNow_le_reduction {c : Nat} (reduced : s.mg.reduction = some c) : ceilingNow s ≤ c := by
  simp only [ceilingNow, effCeiling, reduced]
  exact Nat.min_le_right _ _

/-- R23: within its stretch the motion keeps to the reduction ceiling, as far as the acceleration allows. -/
theorem runStep_vt_le {c : Nat} (stretch : s.mg.w = 0) (reduced : s.mg.reduction = some c) :
    (runStep s).1.mg.vt.natAbs ≤ max c (s.mg.v - s.mg.accel) := by
  obtain ⟨v, accel, -, -, -, still⟩ := applyClamp_keeps s
  have bound := chooseSpeed_bounded (applyClamp s)
  have ceiling := ceilingNow_le_reduction ((applyClamp_onward s).reduction.trans reduced)
  rw [v, accel] at bound
  have noPass : (chosen s).2.mg.w = 0 := chooseSpeed_stretch_end (still stretch)
  have counts : (committing s).1 = (chosen s).1 := by
    rw [committing, if_neg (by simp [noPass])]
  have speed : (runStep s).1.mg.vt = dirSign ((applyClamp s).mg.motion.elim true Motion.forward) * (chosen s).1 := by
    rw [runStep_eq, counts]
    rfl
  rw [speed, natAbs_dirSign_mul]
  unfold chosen
  omega

end Sys2Proof.Machine
end

section
/-! SPEED_REDUCED (R37): the sequencer's take of what the motion hands on, and the statement. -/

namespace Sys2Proof.Machine

variable {s t u v : State} {h : InHand} {m : Motion} {o : ExpiryOrder}

/-! ## The end that the sequencer takes (R35, R79, R83) -/

/-- From u to v the sequencer has taken an end of the motion, or none: the generator is as it was, and reports have only
joined. -/
structure EndTaken (u v : State) : Prop where
  advances : Advances u v
  generator : v.mg = u.mg
  list : u.ru.pendingReports <+: v.ru.pendingReports
  state : v.tsq.state ≠ .halting

theorem Advances.refl (s : State) : Advances s s :=
  ⟨rfl, rfl, rfl, ⟨rfl, rfl⟩, rfl, rfl, ⟨⟨rfl, rfl⟩, rfl, rfl, rfl, rfl, rfl⟩, by simp [SnapshotByState]⟩

/-- The state changes in the second step alone, so that a snapshot becomes due once (R176). -/
theorem Advances.trans (h : Advances s u) (state : u.tsq.state = s.tsq.state) (h' : Advances u v) : Advances s v := by
  obtain ⟨mu, rl, cl, ⟨first, later⟩, runs, oi, ⟨⟨ptp, ma⟩, slu, mc, freeCount, inputs, pending⟩, due, counter⟩ := h
  obtain ⟨mu', rl', cl', ⟨first', later'⟩, runs', oi', ⟨⟨ptp', ma'⟩, slu', mc', freeCount', inputs', pending'⟩, due',
    counter'⟩ := h'
  refine ⟨mu'.trans mu, rl'.trans rl, cl'.trans cl, ⟨first'.trans first, later'.trans later⟩, runs'.trans runs,
    oi'.trans oi, ⟨⟨ptp'.trans ptp, ma'.trans ma⟩, slu'.trans slu, mc'.trans mc, freeCount'.trans freeCount,
    inputs'.trans inputs, pending'.trans pending⟩, ?_, counter'.trans counter⟩
  rw [due', due, state]
  simp

theorem endChain_outputs (s : State) : ∃ b, (endChain s).tsq = { s.tsq with writeEnable := b } := by
  by_cases active : s.wk.active = true
  · refine ⟨false, ?_⟩
    rw [endChain, if_pos active]
    simp only [dropWriteEnable, State.onTsq_tsq, State.onWk_tsq, refreshEntries_tsq]
  · exact ⟨s.tsq.writeEnable, by rw [endChain, if_neg active]⟩

/-- R79, R83: the order ends in READY; its ORDER DONE joins the list or is dropped. -/
theorem endReady_taken {outcome : OrderOutcome} {pe : Int} (follows : Following u) (hand : u.tsq.inHand = some h) :
    EndTaken u (endReady outcome pe (endChain u)) := by
  obtain ⟨writes, outputs⟩ := endChain_outputs u
  have follows' : Following (endChain u) :=
    follows.congr (by rw [outputs]) (by rw [outputs]) (by rw [outputs]) (by simp) (by simp)
  have state : (endChain u).tsq.state = u.tsq.state := by rw [outputs]
  have hand' : (stateTaken .ready (endChain u)).tsq.inHand = some h := (endChain_inHand u).trans hand
  have ru : (endChain u).ru = u.ru := by simp
  have ends : endReady outcome pe (endChain u) = clearHand (generate .orderDone outcome.number
      (orderDoneValue h outcome pe (stateTaken .ready (endChain u))) (some h.seq) (stateTaken .ready (endChain u))) := by
    unfold endReady finishOrder
    rw [enterKeeping_of_following follows' rfl rfl, hand']
  rw [ends]
  generalize orderDoneValue h outcome pe (stateTaken .ready (endChain u)) = value
  obtain ⟨lines, list, due, counter, -⟩ := generate_routine (kind := .orderDone) rfl (by decide) outcome.number value
    (some h.seq) (stateTaken .ready (endChain u))
  have taken : (stateTaken .ready (endChain u)).ru =
      { u.ru with snapDue := u.ru.snapDue || decide (.ready ≠ u.tsq.state) } := by rw [← state, ← ru]; rfl
  rw [taken] at list due counter
  constructor
  case list => exact list
  case generator => simp [clearHand, stateTaken]
  case state => simp [clearHand, stateTaken]
  case advances =>
    constructor
    case due =>
      refine ⟨due.trans ?_, counter⟩
      simp [clearHand, stateTaken]
    case around =>
      refine ⟨⟨?_, ?_⟩, lines.trans ?_, ?_, ?_, ?_, ?_⟩ <;> simp [clearHand, stateTaken]
    all_goals simp [clearHand, stateTaken]

theorem settlingTaken_taken (u : State) : EndTaken u (settlingTaken u) :=
  ⟨⟨rfl, rfl, rfl, ⟨rfl, rfl⟩, rfl, rfl, ⟨⟨rfl, rfl⟩, rfl, rfl, rfl, rfl, rfl⟩, rfl, rfl⟩, rfl, List.prefix_rfl, nofun⟩

/-- R35, R83: whatever the motion of a SPACE or of a chain hands on. -/
theorem motionEnds_taken (follows : Following u) (moving : u.tsq.state = .moving) (hand : u.tsq.inHand = some h)
    (leg : h.leg = .space ∨ h.leg = .chain) (e : Option MotionEnd) : EndTaken u (motionEnds e u) := by
  have none : EndTaken u u := ⟨.refl u, rfl, List.prefix_rfl, by simp [moving]⟩
  cases e with
  | none => exact none
  | some e =>
    change EndTaken u (motionEnd e u)
    cases final : e.final with
    | true =>
      rw [motionEnd_of_final final hand (.inr leg)]
      exact endReady_taken follows hand
    | false =>
      cases e with
      | settleStarted =>
        rw [motionEnd_of_settleStarted follows hand]
        exact settlingTaken_taken u
      | rampDone =>
        have stays : motionEnd .rampDone u = u := if_neg (by simp [moving])
        rw [stays]
        exact none
      | atRest _ | stoppedAtRest | settled _ | unsettled _ | stopped | chainEnded _ => cases final

/-! ## The reduction (R37) -/

/-- What an expiry that reduces the speed finds. -/
structure Reducing (m : Motion) (h : InHand) (s : State) : Prop where
  only : OnlyMotion s
  law : OutputLaw s
  moving : s.tsq.state = .moving
  run : s.mg.phase = .run
  motion : s.mg.motion = some m
  hand : s.tsq.inHand = some h
  leg : h.leg = .space ∨ h.leg = .chain
  saturated : satFlag .s s = true ∨ satFlag .t s = true
  count : 39 ≤ s.mg.satRun

theorem Reducing.due (r : Reducing m h s) (a : Bool) : reductionDue (stageStart a s) = true := by
  have either : (satFlag .s (stageStart a s) || satFlag .t (stageStart a s)) = true := by
    change (satFlag .s s || satFlag .t s) = true
    rcases r.saturated with on | on <;> simp [on]
  have reached : decide (Config.satRunLimit ≤ s.mg.satRun + 1) = true := decide_eq_true (Nat.succ_le_succ r.count)
  have state : (stageStart a s).tsq.state = .moving := r.moving
  have phase : (stageStart a s).mg.phase = .run := r.run
  have run : (stageStart a s).mg.satRun = s.mg.satRun := rfl
  rw [reductionDue, either, state, phase, run, reached]
  rfl

/-- R37: the state in which the reduction leaves the expiry to the step of RUN. -/
def reducedStart (a : Bool) (s : State) : State :=
  generate .speedReduced (reducedCode s) (halved s) (handSeq s)
    { stageStart a s with mg := { s.mg with reduction := some (halved s), satRun := 0 } }

theorem Reducing.step (r : Reducing m h s) (a : Bool) :
    generatorStep (stageStart a s) = runStep (reducedStart a s) := by
  have reduced : reduceSpeed (stageStart a s) = reducedStart a s := if_pos (r.due a)
  have phase : (reducedStart a s).mg.phase = .run := by
    rw [reducedStart]
    simpa using r.run
  rw [generatorStep, r.only.quiet.no_requests a]
  dsimp only
  rw [reduced, phaseStep, phase]

theorem halved_of_none (motion : s.mg.motion = some m) (absent : s.mg.reduction = none) :
    halved s = max 1 (min m.ceiling s.mc.params.globalLimit / 2) := by
  simp [halved, effCeiling, motion, absent]

theorem halved_of_some {c : Nat} (present : s.mg.reduction = some c) : halved s = max 1 (c / 2) := by
  simp [halved, present]

theorem reducedCode_eq (s : State) :
    reducedCode s = (if satFlag .s s then 1 else 0) + if satFlag .t s then 2 else 0 := by
  unfold reducedCode flagBit
  cases satFlag .t s <;> rfl

/-- A saturated reel loops, so that the brake is off and the vacuum on (R43, R47). -/
theorem Reducing.following (r : Reducing m h s) : Following s := by
  have pump : s.tsq.vacuum = true := by
    have loops (x : Reel) (on : satFlag x s = true) : reelModeFor x s = .loop := by
      rw [← r.law.reel x]
      exact (r.law.reelRecord x).1 (by simpa [satFlag] using on)
    have some_loops : ∃ x, reelModeFor x s = .loop := by
      rcases r.saturated with on | on
      · exact ⟨.s, loops .s on⟩
      · exact ⟨.t, loops .t on⟩
    obtain ⟨x, loop⟩ := some_loops
    cases vacuum : s.tsq.vacuum with
    | true => rfl
    | false => cases brake : s.tsq.brake <;> simp [reelModeFor, brake, r.moving, vacuum] at loop
  exact r.law.following (by simp [r.moving, TState.loops]) (by simp [r.moving, TState.capstanRuns]) pump

/-- The report of the reduction (R37). -/
def reductionReport (s : State) : Report :=
  ⟨s.ru.nextId, .speedReduced, s.tsq.state, newP s, s.mu.periodCount + 1, reducedCode s,
    clampI (-8388608) 8388607 (halved s), handSeq s⟩

theorem stageStart_reads (a : Bool) (notices : s.mu.notices = []) :
    (stageStart a s).mu.p = newP s ∧ (stageStart a s).mu.periodCount = s.mu.periodCount + 1 := by
  have mu := stageStart_mu a notices
  exact ⟨congrArg Mu.p mu, congrArg Mu.periodCount mu⟩

theorem reducedStart_list (a : Bool) (notices : s.mu.notices = []) (mask : s.mc.params.mask.speedReduced = true)
    (room : Room 1 s) : (reducedStart a s).ru.pendingReports = s.ru.pendingReports ++ [reductionReport s] := by
  obtain ⟨p, count⟩ := stageStart_reads a notices
  have room' : s.ru.pendingReports.length < 4 := by
    unfold Room at room
    exact Nat.lt_of_succ_le room
  have told := generate_of_room
    (s := { stageStart a s with mg := { s.mg with reduction := some (halved s), satRun := 0 } }) (kind := .speedReduced)
    (reducedCode s) (halved s) (handSeq s) mask room'
  have report : makeReport .speedReduced (reducedCode s) (halved s) (handSeq s)
      { stageStart a s with mg := { s.mg with reduction := some (halved s), satRun := 0 } } = reductionReport s := by
    unfold makeReport reductionReport
    rw [← p, ← count]
    rfl
  rw [reducedStart, told, report]
  rfl

/-- What the stage of an expiry that reduces the speed leaves, from u behind the step of RUN. -/
theorem Reducing.stage (r : Reducing m h s) (a : Bool) :
    EndTaken (runStep (reducedStart a s)).1 (stageEnd a s) ∧
      Advances (stageStart a s) (stageEnd a s) ∧
      Comes (reducedStart a s) (runStep (reducedStart a s)).1 := by
  have going : (reducedStart a s).mg.phase ≠ .idle := by
    rw [reducedStart]
    simp [r.run]
  have comes := runStep_comes going
  have told : Routine { stageStart a s with mg := { s.mg with reduction := some (halved s), satRun := 0 } }
      (reducedStart a s) := generate_routine rfl (by decide) _ _ _ _
  obtain ⟨lines, list, due, counter, writes, outputs⟩ := told.trans comes.routine
  have step := congrArg Prod.fst (r.step a)
  have frame := generatorStep_frame (s := stageStart a s)
  rw [step] at frame
  obtain ⟨mu, cl, rl, fm, oi, ptp, ma, mc, freeCount, inputs, pending⟩ := frame
  have state : (runStep (reducedStart a s)).1.tsq.state = s.tsq.state := by rw [outputs]; rfl
  have advances : Advances (stageStart a s) (runStep (reducedStart a s)).1 := by
    refine ⟨mu, rl, cl, ⟨by rw [fm], by rw [fm]⟩, by rw [fm], oi, ⟨⟨ptp, ma⟩, lines, mc, freeCount, inputs, pending⟩, ?_,
      counter⟩
    rw [due, state]
    simp [stageStart, withArrival]
  have follows : Following (runStep (reducedStart a s)).1 :=
    r.following.congr state (by rw [outputs]; rfl) (by rw [outputs]; rfl) cl rl
  have taken := motionEnds_taken follows (state.trans r.moving) (h := h) (by rw [outputs]; exact r.hand) r.leg
    (runStep (reducedStart a s)).2
  have stage : stageEnd a s = motionEnds (runStep (reducedStart a s)).2 (runStep (reducedStart a s)).1 := by
    rw [stageEnd, generatorStage, r.step a]
  rw [stage]
  exact ⟨taken, advances.trans state taken.advances, comes⟩

/-- The expiry of the reduction, its ceiling, code and report as the unit computes them. -/
theorem Reducing.outcome (r : Reducing m h s) (o : ExpiryOrder) :
    ∃ t, exec (.speedReduced o) s = .next t ∧ exec (.periodExpiry o) s = .next t ∧ t.mg.satRun = 0 ∧
      (s.mg.w = 0 → t.mg.vt.natAbs ≤ max (halved s) (s.mg.v - s.mg.accel)) ∧
      (t.mg.phase ≠ .idle → t.mg.reduction = some (halved s)) ∧ (t.mg.phase = .idle → t.mg.reduction = none) ∧
      t.mu.p = newP s ∧ t.mu.m = newM s ∧ SameSurroundings s t ∧
      (s.mc.params.mask.speedReduced = true → Room 1 s →
        s.ru.pendingReports ++ [reductionReport s] <+: t.ru.pendingReports) := by
  have untimed : s.tsq.state.timed = false := by simp [r.moving, TState.timed]
  have notices := r.only.quiet.notices
  have advances (a : Bool) : Advances (stageStart a s) (stageEnd a s) :=
    (r.stage a).2.1
  obtain ⟨a, t, runs, motion, -, -, -, -, ⟨mu, -, -, -, -, -, around⟩, -, pending, -⟩ :=
    r.only.calm.outcome o untimed advances fun a => halt_not_finds (.inl (r.stage a).1.state)
  obtain ⟨taken, -, comes⟩ := r.stage a
  have named : ExpiryEvent.speedReduced ∈ (expiryRun o s).events :=
    mem_events_of_generator o r.only.pair untimed notices fun run a start => speedReduced_named (by
      rw [start, speedReducedComes, r.only.quiet.no_requests a]
      exact r.due a)
  have generator : (reducedStart a s).mg = { s.mg with reduction := some (halved s), satRun := 0 } := by
    rw [reducedStart]
    simp
  have after : t.mg = (runStep (reducedStart a s)).1.mg := motion.trans taken.generator
  refine ⟨t, (next_namedExpiry r.only.quiet.watching named).trans runs, runs, ?_, fun stretch => ?_, fun going => ?_,
    fun idle => ?_, by rw [mu]; rfl, by rw [mu]; rfl, around, fun mask room => ?_⟩
  · rw [after, comes.satRun, generator]
  · have bound := runStep_vt_le (s := reducedStart a s) (c := halved s) (by rw [generator]; exact stretch)
      (by rw [generator])
    rw [generator] at bound
    rw [after]
    exact bound
  · rw [after] at going ⊢
    rcases comes.reduction with ⟨-, stands⟩ | ⟨idle, -⟩
    · rw [stands, generator]
    · exact absurd idle going
  · rw [after] at idle ⊢
    rcases comes.reduction with ⟨going, -⟩ | ⟨-, gone⟩
    · exact absurd idle going
    · exact gone
  · rw [pending, ← reducedStart_list a notices mask room]
    exact comes.routine.list.trans taken.list

/-- Settles O20: the step of RUN and the sequencer keep what the reduction sets, whatever the chain does. -/
theorem saturationReducesSpeed : Obligations.SaturationReducesSpeed := by
  unfold Obligations.SaturationReducesSpeed
  intro s o m h only law moving run motion hand leg saturated count
  have r : Reducing m h s := ⟨only, law, moving, run, motion, hand, leg, saturated, count⟩
  have seq : handSeq s = some h.seq := by rw [handSeq, hand]; rfl
  have outcome := r.outcome o
  rw [reductionReport, seq, moving] at outcome
  dsimp only
  rw [← reducedCode_eq]
  cases present : s.mg.reduction with
  | none =>
    dsimp only
    rw [← halved_of_none motion present]
    exact outcome
  | some c =>
    dsimp only
    rw [← halved_of_some present]
    exact outcome

end Sys2Proof.Machine
end

section
/-! What `OutputLaw` asks of each loop by itself, and what the loops' own operations keep of it: the drives and the
records of a computation (R41, R47, R54), the entry of a mode (R39, R43), a presentation (R44, R50) and a miss (R48). -/

namespace Sys2Proof.Machine

variable {s t : State} {c : Cl} {l : ReelLoop} {x : Reel}

/-! ## One loop by itself -/

/-- R39, R41, R53, R54: the capstan loop in OFF has its values at 0; its drive is in range, and at the end of it that the
record names. -/
structure CapstanLaw (c : Cl) : Prop where
  off : c.run = false → c.dc = 0 ∧ c.ic = 0 ∧ c.sat = .none
  drive : -2047 ≤ c.dc ∧ c.dc ≤ 2047
  record : (c.sat = .positive → c.dc = 2047) ∧ (c.sat = .negative → c.dc = -2047)

/-- R43, R47, R53, R54: as CapstanLaw, of a reel loop, which has a record in LOOP alone. -/
structure ReelLaw (l : ReelLoop) : Prop where
  off : l.mode = .off → l.d = 0 ∧ l.a = 0 ∧ l.sat = .none
  drive : -2047 ≤ l.d ∧ l.d ≤ 2047
  record : (l.sat ≠ .none → l.mode = .loop) ∧ (l.sat = .positive → l.d = 2047) ∧ (l.sat = .negative → l.d = -2047)

theorem OutputLaw.capstanLaw (law : OutputLaw s) : CapstanLaw s.cl := ⟨law.capstanOff, law.capstanDrive, law.capstanRecord⟩

theorem OutputLaw.reelLaw (law : OutputLaw s) (x : Reel) : ReelLaw (s.rl.get x) :=
  ⟨law.reelOff x, law.reelDrive x, law.reelRecord x⟩

/-- The output law is each loop's own law, and each loop in the mode that the state and the outputs call for. -/
theorem OutputLaw.of_loops (params : ParameterLaw s.mc.params)
    (unloaded : s.tsq.state = .unloaded → s.tsq.brake = true ∧ s.tsq.vacuum = false) (run : s.cl.run = capstanToRun s)
    (mode : ∀ x, (s.rl.get x).mode = reelModeFor x s) (capstan : CapstanLaw s.cl) (reels : ∀ x, ReelLaw (s.rl.get x)) :
    OutputLaw s where
  params := params
  unloaded := unloaded
  capstan := run
  capstanOff := capstan.off
  reel := mode
  reelOff x := (reels x).off
  capstanDrive := capstan.drive
  reelDrive x := (reels x).drive
  capstanRecord := capstan.record
  reelRecord x := (reels x).record

/-! ## Computations (R41, R47) -/

/-- A drive of 0 is in the range of R54. -/
theorem zero_drive_range : (-2047 : Int) ≤ 0 ∧ (0 : Int) ≤ 2047 := by decide

theorem driveOf_range (sum : Int) : -2047 ≤ driveOf sum ∧ driveOf sum ≤ 2047 := clampI_bounds (by decide) sum

/-- R41, R47: a saturation record is of the end of the range at which the drive is. -/
theorem satOf_names_the_end (sum : Int) :
    (satOf sum = .positive → driveOf sum = 2047) ∧ (satOf sum = .negative → driveOf sum = -2047) := by
  unfold satOf driveOf
  rw [clampI_eq_max_min (by decide), Config.driveMax]
  constructor <;> (intro h; split at h)
  · omega
  · split at h <;> cases h
  · cases h
  · split at h
    · omega
    · cases h

theorem CapstanLaw.computed (running : c.run = true) (sum ic : Int) :
    CapstanLaw { c with dc := driveOf sum, ic := ic, sat := satOf sum } :=
  ⟨fun off => absurd (running.symm.trans off) (by decide), driveOf_range sum, satOf_names_the_end sum⟩

theorem ReelLaw.computed (looping : l.mode = .loop) (sum a : Int) :
    ReelLaw { l with d := driveOf sum, a := a, sat := satOf sum } :=
  ⟨fun off => absurd (looping.symm.trans off) (by decide), driveOf_range sum, fun _ => looping, satOf_names_the_end sum⟩

/-- A reel that is not in OFF, with no saturation record. -/
theorem ReelLaw.unsaturated (on : l.mode ≠ .off) (sat : l.sat = .none) (drive : -2047 ≤ l.d ∧ l.d ≤ 2047) : ReelLaw l :=
  ⟨fun off => absurd off on, drive, fun h => absurd sat h, fun h => by simp [sat] at h, fun h => by simp [sat] at h⟩

/-- R47: only a reel in LOOP has a saturation record. -/
theorem ReelLaw.sat_of_fill (law : ReelLaw l) (fill : l.mode = .fill) : l.sat = .none := by
  obtain ⟨loops, -⟩ := law.record
  by_contra some
  exact absurd (fill.symm.trans (loops some)) (by decide)

/-! ## The modes followed (R39, R43) -/

/-- R43, R49, R52: what a reel takes on entry to a mode. -/
theorem reelEntry_law (params : ParameterLaw s.mc.params) (mode : ReelMode) (l : ReelLoop) :
    ReelLaw (reelEntry mode s l) := by
  obtain ⟨fill, unload⟩ := params.drives
  cases mode with
  | off => exact ⟨fun _ => ⟨rfl, rfl, rfl⟩, zero_drive_range, fun h => absurd rfl h, nofun, nofun⟩
  | loop => exact .unsaturated nofun rfl zero_drive_range
  | wind => exact .unsaturated nofun rfl ⟨by simp only [reelEntry]; omega, by simp only [reelEntry]; omega⟩
  | fill =>
    refine .unsaturated nofun rfl ?_
    simp only [reelEntry]
    split <;> omega

theorem followCapstan_law (law : CapstanLaw s.cl) : CapstanLaw (followCapstan s).cl := by
  unfold followCapstan
  dsimp only
  split
  · exact law
  · exact ⟨fun _ => ⟨rfl, rfl, rfl⟩, zero_drive_range, nofun, nofun⟩

theorem followedLoop_law (params : ParameterLaw s.mc.params) (law : ReelLaw (s.rl.get x)) : ReelLaw (followedLoop x s) := by
  unfold followedLoop
  split
  · exact law
  · exact reelEntry_law params _ _

theorem followedLoop_mode (x : Reel) (s : State) : (followedLoop x s).mode = reelModeFor x s := by
  unfold followedLoop
  split
  · rename_i same
    exact same.symm
  · cases reelModeFor x s <;> rfl

/-- R43, R49: a reel is called to FILL in LOADING FILL with the brake off, the vacuum on and its band-entered flag
clear. -/
theorem reelModeFor_eq_fill_iff : reelModeFor x s = .fill ↔
    s.tsq.brake = false ∧ s.tsq.state = .loadingFill ∧ s.tsq.vacuum = true ∧ (s.rl.get x).band = false := by
  unfold reelModeFor
  cases s.tsq.brake <;> cases s.tsq.state <;> cases s.tsq.vacuum <;> cases (s.rl.get x).band <;> cases x <;> simp

/-- Following keeps the band-entered flag: the entry to FILL, which clears it, is called for where it is clear. -/
theorem followedLoop_band (x : Reel) (s : State) : (followedLoop x s).band = (s.rl.get x).band := by
  unfold followedLoop
  split
  · rfl
  · cases mode : reelModeFor x s with
    | fill =>
      obtain ⟨-, -, -, clear⟩ := reelModeFor_eq_fill_iff.mp mode
      exact clear.symm
    | off | loop | wind => rfl

/-- The mode of a reel turns on the state, the outputs and its band-entered flag. -/
theorem reelModeFor_of_band (state : t.tsq.state = s.tsq.state) (brake : t.tsq.brake = s.tsq.brake)
    (vacuum : t.tsq.vacuum = s.tsq.vacuum) (band : (t.rl.get x).band = (s.rl.get x).band) :
    reelModeFor x t = reelModeFor x s := by
  simp only [reelModeFor, state, brake, vacuum, band]

/-- R39, R43, R53: after the modes follow, the loops are as the state and the outputs call for. -/
theorem followModes_outputLaw (params : ParameterLaw s.mc.params)
    (unloaded : s.tsq.state = .unloaded → s.tsq.brake = true ∧ s.tsq.vacuum = false) (capstan : CapstanLaw s.cl)
    (reels : ∀ x, ReelLaw (s.rl.get x)) : OutputLaw (followModes s) := by
  refine .of_loops (by simpa using params) (by simpa using unloaded) ?_ (fun x => ?_) ?_ fun x => ?_
  · rw [followModes_cl, followCapstan_run]
    simp [capstanToRun]
  · rw [followModes_rl_get, followedLoop_mode]
    refine (reelModeFor_of_band (by simp) (by simp) (by simp) ?_).symm
    rw [followModes_rl_get, followedLoop_band]
  · rw [followModes_cl]
    exact followCapstan_law capstan
  · rw [followModes_rl_get]
    exact followedLoop_law params (reels x)

theorem ReelLaw.withBand (law : ReelLaw l) (b : Bool) : ReelLaw { l with band := b } := ⟨law.off, law.drive, law.record⟩

theorem clearBandsAt_law (st : TState) (law : ∀ x, ReelLaw (s.rl.get x)) (x : Reel) :
    ReelLaw ((clearBandsAt st s).rl.get x) := by
  unfold clearBandsAt
  split
  · cases x
    · exact (law .s).withBand false
    · exact (law .t).withBand false
  · exact law x

/-- R53, R73, R74: a transport state taken with its outputs. -/
theorem enter_outputLaw {st : TState} {brake vacuum : Bool} (law : OutputLaw s)
    (unloaded : st = .unloaded → brake = true ∧ vacuum = false) : OutputLaw (enter st brake vacuum s) := by
  unfold enter
  dsimp only
  apply followModes_outputLaw
  case unloaded => exact unloaded
  all_goals simp only [State.onTsq_mc, State.onTsq_cl, State.onTsq_rl, State.onFm_mc, State.onFm_cl, State.onFm_rl]
  all_goals split
  case params.isTrue | params.isFalse => simpa using law.params
  case capstan.isTrue | capstan.isFalse => simpa using law.capstanLaw
  all_goals exact clearBandsAt_law st law.reelLaw

/-- R53: only UNLOADED asks for outputs of its own. -/
theorem enter_loaded_outputLaw {st : TState} {brake vacuum : Bool} (law : OutputLaw s) (loaded : st ≠ .unloaded) :
    OutputLaw (enter st brake vacuum s) := enter_outputLaw law fun h => absurd h loaded

theorem enterKeeping_outputLaw {st : TState} (law : OutputLaw s) (loaded : st ≠ .unloaded) :
    OutputLaw (enterKeeping st s) := enter_loaded_outputLaw law loaded

/-! ## What leaves the outputs and the loops as they are -/

namespace OutputLaw

theorem of_same (law : OutputLaw s) (params : ParameterLaw t.mc.params) (state : t.tsq.state = s.tsq.state)
    (brake : t.tsq.brake = s.tsq.brake) (vacuum : t.tsq.vacuum = s.tsq.vacuum) (cl : t.cl = s.cl) (rl : t.rl = s.rl) :
    OutputLaw t := by
  refine .of_loops params ?_ ?_ (fun x => ?_) ?_ fun x => ?_
  · rw [state, brake, vacuum]
    exact law.unloaded
  · simpa only [capstanToRun, state, brake, cl] using law.capstan
  · rw [reelModeFor_of_band state brake vacuum (by rw [rl]), rl]
    exact law.reel x
  · rw [cl]
    exact law.capstanLaw
  · rw [rl]
    exact law.reelLaw x

/-- An operation that touches neither the sequencer nor the loops nor the parameters. -/
theorem elsewhere (law : OutputLaw s) (tsq : t.tsq = s.tsq) (cl : t.cl = s.cl) (rl : t.rl = s.rl) (mc : t.mc = s.mc) :
    OutputLaw t := law.of_same (mc ▸ law.params) (by rw [tsq]) (by rw [tsq]) (by rw [tsq]) cl rl

/-- An operation that keeps the state and the outputs, such as one that moves WRITE ENABLE. -/
theorem onTsq {f : Tsq → Tsq} (law : OutputLaw s) (state : (f s.tsq).state = s.tsq.state)
    (brake : (f s.tsq).brake = s.tsq.brake) (vacuum : (f s.tsq).vacuum = s.tsq.vacuum) : OutputLaw (s.onTsq f) :=
  law.of_same law.params state brake vacuum rfl rfl

theorem onFm {f : Fm → Fm} (law : OutputLaw s) : OutputLaw (s.onFm f) := law.elsewhere rfl rfl rfl rfl

theorem onMg {f : Mg → Mg} (law : OutputLaw s) : OutputLaw (s.onMg f) := law.elsewhere rfl rfl rfl rfl

theorem onMu {f : Mu → Mu} (law : OutputLaw s) : OutputLaw (s.onMu f) := law.elsewhere rfl rfl rfl rfl

theorem onOi {f : Oi → Oi} (law : OutputLaw s) : OutputLaw (s.onOi f) := law.elsewhere rfl rfl rfl rfl

theorem onRu {f : Ru → Ru} (law : OutputLaw s) : OutputLaw (s.onRu f) := law.elsewhere rfl rfl rfl rfl

theorem onSlu {f : Slu → Slu} (law : OutputLaw s) : OutputLaw (s.onSlu f) := law.elsewhere rfl rfl rfl rfl

/-- The parameters and the part mode set anew. -/
theorem onMc {f : Mc → Mc} (law : OutputLaw s) (params : ParameterLaw (f s.mc).params) : OutputLaw (s.onMc f) :=
  law.of_same params rfl rfl rfl rfl rfl

theorem ite {p : Prop} [Decidable p] (law : OutputLaw s) (law' : OutputLaw t) : OutputLaw (if p then s else t) := by
  split
  · exact law
  · exact law'

/-- One reel's loop moved, to the mode that its band-entered flag then calls for. -/
theorem onReel {f : ReelLoop → ReelLoop} (law : OutputLaw s) (reel : ReelLaw (f (s.rl.get x)))
    (mode : (f (s.rl.get x)).mode = reelModeFor x (s.onRl x f)) : OutputLaw (s.onRl x f) := by
  have loops (y : Reel) : (s.onRl x f).rl.get y = if y = x then f (s.rl.get x) else s.rl.get y := PerReel.get_set _ _ _ _
  refine .of_loops law.params law.unloaded law.capstan (fun y => ?_) law.capstanLaw fun y => ?_
  · by_cases own : y = x
    · rw [loops, if_pos own, mode, own]
    · have same : (s.onRl x f).rl.get y = s.rl.get y := (loops y).trans (if_neg own)
      rw [same, reelModeFor_of_band (s := s) (t := s.onRl x f) rfl rfl rfl (congrArg ReelLoop.band same)]
      exact law.reel y
  · rw [loops]
    split
    · exact reel
    · exact law.reelLaw y

/-- One reel's loop moved, its mode and its band-entered flag kept. -/
theorem onReel_of_same {f : ReelLoop → ReelLoop} (law : OutputLaw s) (reel : ReelLaw (f (s.rl.get x)))
    (mode : (f (s.rl.get x)).mode = (s.rl.get x).mode) (band : (f (s.rl.get x)).band = (s.rl.get x).band) :
    OutputLaw (s.onRl x f) := by
  have flag : ((s.onRl x f).rl.get x).band = (s.rl.get x).band := by rw [State.onRl_rl, PerReel.get_set_self, band]
  refine law.onReel reel ?_
  rw [mode, law.reel x, reelModeFor_of_band (s := s) (t := s.onRl x f) rfl rfl rfl flag]

end OutputLaw

/-! ## The loops at work -/

theorem computeCapstan_outputLaw (law : OutputLaw s) : OutputLaw (computeCapstan s) := by
  unfold computeCapstan
  split
  · rename_i running
    exact .of_loops law.params law.unloaded law.capstan law.reel (.computed running _ _) law.reelLaw
  · exact law

theorem computeReel_outputLaw {n : Nat} (law : OutputLaw s) (looping : (s.rl.get x).mode = .loop) :
    OutputLaw (computeReel x n s) := by
  unfold computeReel
  exact law.onReel_of_same (.computed looping _ _) rfl rfl

/-- R50: a reel in FILL inside the ready band is in LOOP from then on. -/
theorem leaveFill_outputLaw (law : OutputLaw s) (fill : (s.rl.get x).mode = .fill) :
    OutputLaw (s.onRl x fun l => { l with mode := .loop, band := true, a := 0, sat := .none }) := by
  obtain ⟨brake, state, vacuum, -⟩ := reelModeFor_eq_fill_iff.mp ((law.reel x).symm.trans fill)
  refine law.onReel (.unsaturated nofun rfl (law.reelDrive x)) ?_
  cases x <;> simp [reelModeFor, brake, state, vacuum]

/-- R44, R50: a reel takes a presentation. -/
theorem presentReel_outputLaw {n : Nat} (law : OutputLaw s) : OutputLaw (presentReel x n s) := by
  unfold presentReel
  cases mode : (s.rl.get x).mode with
  | off | wind => exact law
  | loop => exact computeReel_outputLaw law mode
  | fill =>
    dsimp only
    split
    · exact computeReel_outputLaw (leaveFill_outputLaw law mode) (by cases x <;> rfl)
    · obtain ⟨drive, -⟩ := law.params.drives
      refine law.onReel_of_same (.unsaturated (by simp [mode]) ((law.reelLaw x).sat_of_fill mode) ?_) rfl rfl
      dsimp only
      omega

theorem presentPair_outputLaw {p : PerReel (BitVec 10)} (law : OutputLaw s) : OutputLaw (presentPair p s) :=
  presentReel_outputLaw (presentReel_outputLaw law)

/-- R48: a reel without samples has its drive at 0. -/
theorem starveReel_outputLaw (law : OutputLaw s) : OutputLaw (starveReel x s) := by
  unfold starveReel
  cases mode : (s.rl.get x).mode with
  | off | wind => exact law
  | loop => exact law.onReel_of_same (.unsaturated (by simp [mode]) rfl zero_drive_range) rfl rfl
  | fill =>
    have starved : ReelLaw { s.rl.get x with d := 0 } :=
      .unsaturated (by simp [mode]) ((law.reelLaw x).sat_of_fill mode) zero_drive_range
    exact law.onReel_of_same starved rfl rfl

end Sys2Proof.Machine
end

section
/-! The output law through the Fault Monitor, the generator, the sequencer, the sense lines and the expiry: each changes
the state and the outputs by taking a transport state, and otherwise moves WRITE ENABLE at most. -/

namespace Sys2Proof.Machine

variable {s t u : State}

/-! ## WRITE ENABLE alone (R84) -/

/-- From s to t the sequencer's part has kept all but WRITE ENABLE. -/
def WritesOnly (s t : State) : Prop := ∃ b, t.tsq = { s.tsq with writeEnable := b }

theorem WritesOnly.of_tsq (h : t.tsq = s.tsq) : WritesOnly s t := ⟨s.tsq.writeEnable, h⟩

theorem WritesOnly.trans (h : WritesOnly s t) (h' : WritesOnly t u) : WritesOnly s u := by
  obtain ⟨_, tsq⟩ := h
  obtain ⟨b, tsq'⟩ := h'
  exact ⟨b, by rw [tsq', tsq]⟩

/-- The law is kept where only WRITE ENABLE has moved. -/
theorem OutputLaw.writes (law : OutputLaw s) (h : WritesOnly s t) (cl : t.cl = s.cl) (rl : t.rl = s.rl)
    (mc : t.mc = s.mc) : OutputLaw t := by
  obtain ⟨b, tsq⟩ := h
  exact law.of_same (mc ▸ law.params) (by rw [tsq]) (by rw [tsq]) (by rw [tsq]) cl rl

theorem dropWriteEnable_outputLaw (law : OutputLaw s) : OutputLaw (dropWriteEnable s) := law.onTsq rfl rfl rfl

theorem endChain_outputLaw (law : OutputLaw s) : OutputLaw (endChain s) :=
  law.writes (endChain_outputs s) (by simp) (by simp) (by simp)

/-! ## The generator (R20) -/

theorem Onward.writesOnly (h : Onward s t) : WritesOnly s t := h.routine.outputs

theorem nextSegment_writesOnly (s : State) : WritesOnly s (nextSegment s).1 := by
  unfold nextSegment
  split
  · exact .of_tsq rfl
  · rename_i seg _
    have entered := (enterAtRest_onward entryRounds seg.next s).writesOnly
    split <;> rename_i e <;> rw [e] at entered
    · exact entered
    · exact entered
    · exact entered.trans (.of_tsq rfl)

theorem holdTake_writesOnly (s : State) : WritesOnly s (holdTake s).1 := by
  unfold holdTake enterAwaited
  split
  · exact .of_tsq rfl
  · split
    · exact .of_tsq rfl
    · rename_i k _
      have entered := (enterAtRest_onward entryRounds k s).writesOnly
      split
      · split <;> rename_i e <;> rw [e] at entered
        · exact entered
        · exact entered
        · exact entered.trans (.of_tsq rfl)
      · exact .of_tsq rfl

theorem settleStep_writesOnly (b : Bool) (s : State) : WritesOnly s (settleStep b s).1 := by
  have handed (v : Int) {t : State} (h : WritesOnly s t) : WritesOnly s (handOnSpeed v t) := h.trans (.of_tsq rfl)
  unfold settleStep
  dsimp only
  apply handed
  split
  · split
    · exact nextSegment_writesOnly (s.onMg fun g => { g with q := g.settle.target })
    · exact .of_tsq rfl
  · split <;> exact .of_tsq rfl

theorem phaseStep_writesOnly (s : State) : WritesOnly s (phaseStep s).1 := by
  unfold phaseStep
  cases phase : s.mg.phase with
  | idle => exact .of_tsq rfl
  | hold => exact (holdTake_writesOnly s).trans (.of_tsq rfl)
  | run => exact (runStep_comes (by simp [phase])).routine.outputs
  | settle b => exact settleStep_writesOnly b s
  | ramp => exact .of_tsq (by simp)

theorem generatorStep_writesOnly (s : State) : WritesOnly s (generatorStep s).1 := by
  have requested : WritesOnly s (reduceSpeed (applyRequests s).1) := .of_tsq (by simp)
  unfold generatorStep
  split <;> rename_i e <;> rw [e] at requested
  · exact requested.trans (.of_tsq rfl)
  · exact requested.trans (phaseStep_writesOnly _)

theorem generatorStep_outputLaw (law : OutputLaw s) : OutputLaw (generatorStep s).1 :=
  law.writes (generatorStep_writesOnly s) (by simp) (by simp) (by simp)

theorem startMotion_outputLaw {m : Motion} {d : Int} (law : OutputLaw s) : OutputLaw (startMotion m d s) :=
  law.elsewhere (by simp) (by simp) (by simp) (by simp)

/-- R64: the start of a chain. -/
theorem startChainMotion_outputLaw {k : Fin 32} {seq : Byte} {b : Bool} (law : OutputLaw s) :
    OutputLaw (startChainMotion k seq b s) := by
  refine law.writes ?_ (by simp) (by simp) (by simp)
  unfold startChainMotion startChain
  split
  · dsimp only
    generalize started : State.onWk _ _ = u
    have begun : WritesOnly s u := .of_tsq (by rw [← started]; rfl)
    have entered := begun.trans (enterAtRest_onward entryRounds k u).writesOnly
    split <;> rename_i e <;> rw [e] at entered
    · exact entered
    · exact entered
    · exact entered.trans (.of_tsq rfl)
  · exact .of_tsq rfl

/-! ## Reports and ends of orders -/

theorem generate_outputLaw {kind : ReportKind} {code : Nat} {value : Int} {seq : Option Byte} (law : OutputLaw s) :
    OutputLaw (generate kind code value seq s) := law.elsewhere (by simp) (by simp) (by simp) (by simp)

theorem refuse_outputLaw {reason : Reason} {value : Int} {seq : Byte} (law : OutputLaw s) :
    OutputLaw (refuse reason value seq s) := generate_outputLaw law

theorem doneAtTake_outputLaw {o : OrderOutcome} {value : Int} {seq : Byte} (law : OutputLaw s) :
    OutputLaw (doneAtTake o value seq s) := generate_outputLaw law

theorem finishOrder_outputLaw {o : OrderOutcome} {pe : Int} (law : OutputLaw s) : OutputLaw (finishOrder o pe s) := by
  unfold finishOrder
  split
  · exact law
  · exact (generate_outputLaw law).onTsq rfl rfl rfl

theorem endReady_outputLaw {o : OrderOutcome} {pe : Int} (law : OutputLaw s) : OutputLaw (endReady o pe s) :=
  finishOrder_outputLaw (enterKeeping_outputLaw law (by decide))

theorem endUnloaded_outputLaw {o : OrderOutcome} (law : OutputLaw s) : OutputLaw (endUnloaded o s) :=
  finishOrder_outputLaw (enter_outputLaw law fun _ => ⟨rfl, rfl⟩)

/-! ## The Fault Monitor -/

theorem haltResponse_outputLaw (law : OutputLaw s) : OutputLaw (haltResponse s) := by
  unfold haltResponse
  exact (dropWriteEnable_outputLaw (endChain_outputLaw (enterKeeping_outputLaw law (by decide)))).onFm.onMg

theorem brakeResponse_outputLaw {k : FaultKind} (law : OutputLaw s) : OutputLaw (brakeResponse k s) := by
  have braked : OutputLaw (brakeGenerator s) := law.onMg
  exact dropWriteEnable_outputLaw (endChain_outputLaw (enter_loaded_outputLaw braked (by decide)).onFm)

/-- R115: VACUUM PUMP goes off in the state that stands; in UNLOADED it is off. -/
theorem vacuumEffect_outputLaw {k : FaultKind} (law : OutputLaw s) : OutputLaw (vacuumEffect k s) := by
  have off : OutputLaw (enter s.tsq.state s.tsq.brake false s) :=
    enter_outputLaw law fun unloaded => ⟨(law.unloaded unloaded).1, rfl⟩
  exact off.ite law

theorem laterFault_outputLaw {k : FaultKind} {value : Int} (law : OutputLaw s) : OutputLaw (laterFault k value s) := by
  have recorded : OutputLaw (recordLater k s) := law.onFm
  unfold laterFault
  split
  · exact ((vacuumEffect_outputLaw law).ite (brakeResponse_outputLaw law)).ite law
  · exact finishOrder_outputLaw (generate_outputLaw
      (((brakeResponse_outputLaw recorded).ite (vacuumEffect_outputLaw recorded)).ite recorded))

theorem attendLimitsLater_outputLaw {x : Reel} (law : OutputLaw s) : OutputLaw (attendLimitsLater x s) := by
  have look (upper : Bool) (t : State) (law : OutputLaw t) :
      OutputLaw (if attended (.columnLimit x upper) t && level (.limit x upper) t then
        laterFault (.columnLimit x upper) (limitValue x t) t else t) := (laterFault_outputLaw law).ite law
  exact look false _ (look true _ law)

theorem takeFault_outputLaw {k : FaultKind} {value : Int} (law : OutputLaw s) : OutputLaw (takeFault k value s) := by
  have first : OutputLaw (s.onFm fun f => { f with first := some k }) := law.onFm
  have watch (x : Reel) (b : Bool) (t : State) (law : OutputLaw t) : OutputLaw (if b then attendLimitsLater x t else t) :=
    (attendLimitsLater_outputLaw law).ite law
  unfold takeFault
  split
  · split
    · exact laterFault_outputLaw law
    · exact watch .t _ _ (watch .s _ _ (finishOrder_outputLaw (generate_outputLaw
        ((brakeResponse_outputLaw first).ite (haltResponse_outputLaw first)))))
  · exact law

theorem limitCondition_outputLaw {x : Reel} {upper : Bool} (law : OutputLaw s) : OutputLaw (limitCondition x upper s) :=
  (takeFault_outputLaw law).ite law

theorem attendLimits_outputLaw {x : Reel} (law : OutputLaw s) : OutputLaw (attendLimits x s) :=
  limitCondition_outputLaw (limitCondition_outputLaw law)

theorem evaluateDoor_outputLaw (law : OutputLaw s) : OutputLaw (evaluateDoor s) :=
  (takeFault_outputLaw law.onFm).ite law.onFm

/-! ## The sequencer -/

theorem startSearch_outputLaw {forward : Bool} (law : OutputLaw s) : OutputLaw (startSearch forward s) := by
  have leg : OutputLaw (setLeg (if forward then .searchForward else .searchReverse) s) := law.onTsq rfl rfl rfl
  exact startMotion_outputLaw leg

theorem startFast_outputLaw (law : OutputLaw s) : OutputLaw (startFast s) := by
  have leg : OutputLaw (setLeg .fast s) := law.onTsq rfl rfl rfl
  exact startMotion_outputLaw leg

theorem rebase_outputLaw {pos : Int} (law : OutputLaw s) : OutputLaw (rebase pos s) := by
  have rebased (f : Mu → Mu) : OutputLaw ((s.onMu f).onTsq fun t => { t with referenced := true }) :=
    law.onMu.onTsq rfl rfl rfl
  exact (takeFault_outputLaw (rebased _)).ite (rebased _)

theorem botCrossing_outputLaw {forward : Bool} {pos : Int} (law : OutputLaw s) : OutputLaw (botCrossing forward pos s) := by
  have seen : OutputLaw (setCrossingSeen s) := law.onTsq rfl rfl rfl
  unfold botCrossing
  split
  · exact law
  · split
    · exact law
    · split
      · exact law.ite seen
      · exact law.ite seen.onMg
      · exact law.ite (rebase_outputLaw seen).onMg
      all_goals exact law

theorem takeCrossings_outputLaw (cs : List Crossing) (law : OutputLaw s) : OutputLaw (takeCrossings cs s) := by
  have each (l : List Crossing) (t : State) (law : OutputLaw t) :
      OutputLaw (l.foldl (fun s c => handOnCrossing c s) t) := by
    induction l generalizing t with
    | nil => exact law
    | cons c l ih => exact ih _ (generate_outputLaw ((botCrossing_outputLaw law).ite law))
  exact each cs _ law.onMu

theorem fillTest_outputLaw (law : OutputLaw s) : OutputLaw (fillTest s) := by
  have stopped : OutputLaw ((zeroPosition s).onTsq fun t => { t with timerOn := false }) := law.onMu.onTsq rfl rfl rfl
  exact (startSearch_outputLaw (enterKeeping_outputLaw stopped (by decide))).ite law

theorem present_outputLaw {p : PerReel (BitVec 10)} (law : OutputLaw s) : OutputLaw (present p s) := by
  have watch (x : Reel) (b : Bool) (t : State) (law : OutputLaw t) : OutputLaw (if b then attendLimits x t else t) :=
    (attendLimits_outputLaw law).ite law
  exact fillTest_outputLaw (watch .t _ _ (watch .s _ _ (presentPair_outputLaw law)))

theorem enterWindOff_outputLaw (law : OutputLaw s) : OutputLaw (enterWindOff s) := by
  have leg : OutputLaw (setLeg .none s) := law.onTsq rfl rfl rfl
  have entered : OutputLaw ((enter .unloadingWindOff (setLeg .none s).tsq.brake false (setLeg .none s)).onTsq
      fun q => { q with referenced := false, timer := 0, timerOn := true }) :=
    (enter_loaded_outputLaw leg (by decide)).onTsq rfl rfl rfl
  exact entered.ite (endUnloaded_outputLaw entered)

theorem windOffTapeLoss_outputLaw (law : OutputLaw s) : OutputLaw (windOffTapeLoss s) := (endUnloaded_outputLaw law).ite law

theorem phaseTimer_outputLaw (law : OutputLaw s) : OutputLaw (phaseTimer s) :=
  ((endUnloaded_outputLaw law).ite ((endUnloaded_outputLaw law).ite (law.onTsq rfl rfl rfl))).ite law

theorem afterFast_outputLaw {h : InHand} (law : OutputLaw s) : OutputLaw (afterFast h s) := by
  have search (st : TState) (loaded : st ≠ .unloaded) (b : Bool) : OutputLaw (startSearch b (enterKeeping st s)) :=
    startSearch_outputLaw (enterKeeping_outputLaw law loaded)
  exact ((enterWindOff_outputLaw law).ite (startSearch_outputLaw law)).ite
    ((search _ (by decide) _).ite (search _ (by decide) _))

theorem afterSearchReverse_outputLaw {h : InHand} (law : OutputLaw s) : OutputLaw (afterSearchReverse h s) :=
  (endReady_outputLaw law).ite ((enterWindOff_outputLaw law).ite
    ((startSearch_outputLaw (enterKeeping_outputLaw law (by decide))).ite (startSearch_outputLaw law)))

theorem legEnd_outputLaw {e : MotionEnd} {m : ChainMarks} {h : InHand} (law : OutputLaw s) : OutputLaw (legEnd e m h s) := by
  unfold legEnd
  split
  · exact afterFast_outputLaw law
  · exact afterSearchReverse_outputLaw law
  all_goals exact endReady_outputLaw law

theorem motionEnd_outputLaw {e : MotionEnd} (law : OutputLaw s) : OutputLaw (motionEnd e s) := by
  unfold motionEnd
  split
  · exact law.onFm.ite law
  · exact (dropWriteEnable_outputLaw (enterKeeping_outputLaw law (by decide))).ite law
  · dsimp only
    split
    · exact endChain_outputLaw law
    · exact (endReady_outputLaw (endChain_outputLaw law)).ite (legEnd_outputLaw (endChain_outputLaw law))

theorem generatorStage_outputLaw (law : OutputLaw s) : OutputLaw (generatorStage s) := by
  have ends (e : Option MotionEnd) (t : State) (law : OutputLaw t) : OutputLaw (motionEnds e t) := by
    cases e with
    | none => exact law
    | some e => exact motionEnd_outputLaw law
  exact ends _ _ (generatorStep_outputLaw law)

theorem requestStop_outputLaw {kind : StopKind} (law : OutputLaw s) : OutputLaw (requestStop kind s) := by
  have marked (f : InHand → InHand) : OutputLaw (s.onTsq fun t => { t with inHand := t.inHand.map f }) :=
    law.onTsq rfl rfl rfl
  unfold requestStop
  exact (dropWriteEnable_outputLaw (marked _)).onMg

theorem stopAction_outputLaw {kind : StopKind} (law : OutputLaw s) : OutputLaw (stopAction kind s) := by
  unfold stopAction
  cases s.tsq.state with
  | loadingFill | unloadingWindOff => exact endUnloaded_outputLaw law
  | halting | ready | unloaded | fault => exact law
  | loadingSeek | moving | settling | rewindingFast | rewindingSearch | rewindingReturn | unloadingReturn =>
    exact requestStop_outputLaw law

theorem takeStopWord_outputLaw {w : Word} (law : OutputLaw s) : OutputLaw (takeStopWord w s) := by
  have flushed (t : State) (law : OutputLaw t) : OutputLaw (flush (stopKind w) (stopResume w) t) := by
    have emptied : OutputLaw (flushIntake (stopResume w) t) := law.onOi
    unfold flush
    exact generate_outputLaw emptied
  exact (flushed _ (stopAction_outputLaw law)).ite (stopAction_outputLaw law)

/-! ## The sense lines -/

theorem ringLost_outputLaw (law : OutputLaw s) : OutputLaw (ringLost s) := by
  have drawn (n : Nat) : OutputLaw { s with freeCount := n } := law.elsewhere rfl rfl rfl rfl
  exact (generate_outputLaw (dropWriteEnable_outputLaw (drawn _))).ite law

theorem handOnLevel_outputLaw {f : Func} (law : OutputLaw s) : OutputLaw (handOnLevel f s) := by
  cases f with
  | vacuumOk => exact law.ite (takeFault_outputLaw law)
  | tapeInPath => exact law.ite (windOffTapeLoss_outputLaw (takeFault_outputLaw law))
  | doorClosed => exact evaluateDoor_outputLaw law
  | writeRing => exact law.ite (ringLost_outputLaw law)
  | none | limit | botMark | eotMark => exact law

theorem freeFunction_outputLaw {k : Fin 12} {f : Func} (law : OutputLaw s) : OutputLaw (freeFunction k f s) :=
  law.ite (law.onSlu.ite (handOnLevel_outputLaw law.onSlu))

theorem applySenseLine_outputLaw {k : Fin 12} {f : Func} {m : LineMode} {i : Bool} {e : BitVec 3} (law : OutputLaw s) :
    OutputLaw (applySenseLine k f m i e s) := by
  have seen : OutputLaw (seeInputs s) := law.elsewhere rfl rfl rfl rfl
  exact (freeFunction_outputLaw seen).onSlu.ite (handOnLevel_outputLaw (freeFunction_outputLaw seen).onSlu)

theorem notice_outputLaw {k : Fin 12} (law : OutputLaw s) : OutputLaw (notice k s) := by
  have acted (f : Func) : OutputLaw (noticeAction f s) := by
    cases f with
    | limit x upper => exact limitCondition_outputLaw law
    | botMark | eotMark => exact law.elsewhere rfl rfl rfl rfl
    | none | vacuumOk | doorClosed | tapeInPath | writeRing => exact law
  unfold notice
  exact (acted _).onSlu.onSlu

theorem acceptChange_outputLaw {k : Fin 12} (law : OutputLaw s) : OutputLaw (acceptChange k s) := by
  have handed (f : Func) (g : Line → Line) : OutputLaw (handOnLevel f (onLine k g s)) := handOnLevel_outputLaw law.onSlu
  exact (notice_outputLaw (handed _ _)).ite (handed _ _)

theorem tickLine_outputLaw {raw : BitVec 12} {k : Fin 12} (law : OutputLaw s) : OutputLaw (tickLine raw k s) := by
  have levelled (t : State) (law : OutputLaw t) : OutputLaw (levelNotice k t) := (notice_outputLaw law).ite law
  exact law.ite (levelled _ (law.onSlu.ite ((acceptChange_outputLaw law).ite law.onSlu)))

theorem tick_outputLaw (raw : BitVec 12) (order : List (Fin 12)) (law : OutputLaw s) : OutputLaw (tick raw order s) := by
  have lines (l : List (Fin 12)) (t : State) (law : OutputLaw t) :
      OutputLaw (l.foldl (fun s k => tickLine raw k s) t) := by
    induction l generalizing t with
    | nil => exact law
    | cons k l ih => exact ih _ (tickLine_outputLaw law)
  exact lines _ _ law.onSlu

/-! ## The expiry -/

theorem missStage_outputLaw (law : OutputLaw s) : OutputLaw (missStage s) := by
  have held (t : State) (law : OutputLaw t) : OutputLaw (presentHeld t) := by
    unfold presentHeld
    split
    · exact present_outputLaw law
    · exact law
  have starved (f : Mu → Mu) : OutputLaw (starveReel .t (starveReel .s (s.onMu f))) :=
    starveReel_outputLaw (starveReel_outputLaw law.onMu)
  exact ((held _ law.onMu).ite ((takeFault_outputLaw (starved _).onMu).ite (starved _))).ite law.onMu

theorem timerStage_outputLaw {c : Context} (law : OutputLaw s) : OutputLaw (timerStage c s) :=
  (phaseTimer_outputLaw law).ite law

theorem haltCheck_outputLaw {c : Context} (law : OutputLaw s) : OutputLaw (haltCheck c s) := by
  have ended (b : Bool) : OutputLaw (endHalt b s) := by
    unfold endHalt
    exact (enter_loaded_outputLaw law (by decide)).onFm
  unfold haltCheck
  split
  · split
    · exact law
    · exact (ended _).ite ((ended _).ite law.onFm)
  · exact law

theorem checkStage_outputLaw {c : Context} {k : ExpiryCheck} (law : OutputLaw s) : OutputLaw (checkStage c k s) := by
  cases k with
  | position => exact (takeFault_outputLaw law).ite law
  | vacuum | stall | runaway => exact (takeFault_outputLaw law.onFm).ite law.onFm
  | door => exact evaluateDoor_outputLaw law
  | halt => exact haltCheck_outputLaw law

theorem checked_outputLaw {o : ExpiryOrder} (u : State) (law : OutputLaw s) : OutputLaw (checked o u s) := by
  unfold checked
  generalize checkOrder o = l
  induction l generalizing s with
  | nil => exact law
  | cons k l ih => exact ih (checkStage_outputLaw law)

theorem whenever_outputLaw {r : Run} {f : Run → Run} (b : Bool) (law : OutputLaw r.state)
    (stage : OutputLaw r.state → OutputLaw (f r).state) : OutputLaw (r.whenever b f).state := by
  cases b
  · exact law
  · exact stage law

theorem servoRun_outputLaw (o : ExpiryOrder) (law : OutputLaw s) : OutputLaw (servoRun o s).state := by
  have crossings {r : Run} (b : Bool) (law : OutputLaw r.state) :
      OutputLaw (r.whenever b (Run.crossings (contextOf s))).state := whenever_outputLaw b law (takeCrossings_outputLaw _)
  have timer {r : Run} (b : Bool) (law : OutputLaw r.state) :
      OutputLaw (r.whenever b (Run.timer (contextOf s))).state :=
    whenever_outputLaw b law fun law => by rw [Run.timer_state]; exact timerStage_outputLaw law
  have miss {r : Run} (b : Bool) (law : OutputLaw r.state) : OutputLaw (r.whenever b Run.miss).state :=
    whenever_outputLaw b law fun law => by rw [Run.miss_state]; exact missStage_outputLaw law
  have generator {r : Run} (law : OutputLaw r.state) : OutputLaw (r.generator.andThen computeCapstan).state := by
    rw [Run.andThen_state, Run.generator_state]
    exact computeCapstan_outputLaw (generatorStage_outputLaw law)
  exact timer _ (miss _ (timer _ (crossings _ (generator (miss _ (timer _ (crossings _ law.onMu)))))))

end Sys2Proof.Machine
end

section
/-! The output law through the records at the queue head, the port, the resets and every command. -/

namespace Sys2Proof.Machine

variable {s t : State}

/-! ## Setup records -/

/-- R183: a record sets parameters that are in range. -/
theorem setParams_outputLaw {p : Params} (law : OutputLaw s) (params : ParameterLaw p) : OutputLaw (setParams p s) :=
  law.onMc params

theorem setupApplied_outputLaw {c : Code} {b : Bool} {seq : Byte} (law : OutputLaw s) :
    OutputLaw (setupApplied c b seq s) := generate_outputLaw law

theorem applyReporting_outputLaw {b : Body} (law : OutputLaw s) : OutputLaw (applyReporting b s) := by
  have set : OutputLaw (setParams (withReporting s.mc.params b) s) := setParams_outputLaw law (law.params.withReporting b)
  exact set.elsewhere (by simp [applyReporting]) (by simp [applyReporting]) (by simp [applyReporting])
    (by simp [applyReporting])

theorem takeSenseLine_outputLaw {r : Record} (law : OutputLaw s) : OutputLaw (takeSenseLine r s) := by
  unfold takeSenseLine
  dsimp only
  split
  · exact refuse_outputLaw law
  · exact refuse_outputLaw law
  · exact setupApplied_outputLaw (applySenseLine_outputLaw law)

theorem takeColumns_outputLaw {r : Record} (law : OutputLaw s) : OutputLaw (takeColumns r s) := by
  unfold takeColumns
  dsimp only
  split
  · rename_i fits
    exact setupApplied_outputLaw (setParams_outputLaw law (law.params.withColumns r.body fits))
  · exact refuse_outputLaw law

theorem applySetup_outputLaw {r : Record} (law : OutputLaw s) : OutputLaw (applySetup r s) := by
  have set {p : Params} (params : ParameterLaw p) (c : Code) (b : Bool) :
      OutputLaw (setupApplied c b r.seq (setParams p s)) := setupApplied_outputLaw (setParams_outputLaw law params)
  unfold applySetup
  dsimp only
  cases r.code with
  | setReelGains => exact set (law.params.withReelGains r.body) _ _
  | setCapstanGains => exact set (law.params.withCapstanGains r.body) _ _
  | setColumns => exact takeColumns_outputLaw law
  | setSpeeds => exact set (law.params.withSpeeds r.body) _ _
  | setLimits => exact set (law.params.withLimits r.body) _ _
  | setSenseLine => exact takeSenseLine_outputLaw law
  | setReporting => exact setupApplied_outputLaw (applyReporting_outputLaw law)
  | setDefaultCircumference => exact set (law.params.withDefaultCirc r.body) _ _
  | enterRun => exact setupApplied_outputLaw (law.onMc law.params)
  | load | unload | rewind | runChain | space | marker | clearFault | returnToSetup | transportReset => exact law

/-! ## Orders -/

/-- R75: the take of an order in hand keeps the state and the outputs. -/
theorem takeInHand_outputLaw {r : Record} {f : OrderFields} {b : Bool} {leg : Leg} (law : OutputLaw s) :
    OutputLaw (takeInHand r f b leg s) := law.onTsq rfl rfl rfl

theorem dropReferenced_outputLaw (law : OutputLaw s) : OutputLaw (dropReferenced s) := law.onTsq rfl rfl rfl

theorem takeLoad_outputLaw {r : Record} (law : OutputLaw s) : OutputLaw (takeLoad r s) := by
  have forgotten : OutputLaw (forgetCircumferences (dropReferenced s)) := (dropReferenced_outputLaw law).onMu
  exact (refuse_outputLaw law).ite ((refuse_outputLaw law).ite
    ((enter_loaded_outputLaw (takeInHand_outputLaw forgotten) (by decide)).onTsq rfl rfl rfl))

theorem takeRewind_outputLaw {r : Record} (law : OutputLaw s) : OutputLaw (takeRewind r s) := by
  have entered (st : TState) (loaded : st ≠ .unloaded) :
      OutputLaw (enterKeeping st (takeInHand r (orderFields r.body) false .none s)) :=
    enterKeeping_outputLaw (takeInHand_outputLaw law) loaded
  exact (startFast_outputLaw (entered _ (by decide))).ite (startSearch_outputLaw (entered _ (by decide)))

theorem takeUnload_outputLaw {r : Record} (law : OutputLaw s) : OutputLaw (takeUnload r s) := by
  have unloaded : OutputLaw (enter .unloaded true false s) := enter_outputLaw law fun _ => ⟨rfl, rfl⟩
  have entered : OutputLaw (enterKeeping .unloadingReturn (takeInHand r (orderFields r.body) false .none s)) :=
    enterKeeping_outputLaw (takeInHand_outputLaw law) (by decide)
  exact (doneAtTake_outputLaw (dropReferenced_outputLaw unloaded).onFm).ite
    ((startFast_outputLaw entered).ite (startSearch_outputLaw entered))

theorem takeRunChain_outputLaw {r : Record} (law : OutputLaw s) : OutputLaw (takeRunChain r s) :=
  (refuse_outputLaw law).ite
    (startChainMotion_outputLaw (enterKeeping_outputLaw (takeInHand_outputLaw law) (by decide)))

theorem takeSpace_outputLaw {r : Record} (law : OutputLaw s) : OutputLaw (takeSpace r s) :=
  (doneAtTake_outputLaw law).ite
    (startMotion_outputLaw (enterKeeping_outputLaw (takeInHand_outputLaw law) (by decide)))

theorem takeClearFault_outputLaw {r : Record} (law : OutputLaw s) : OutputLaw (takeClearFault r s) := by
  have cleared (code : Nat) (value : Int) (seq : Option Byte) :
      OutputLaw (clearRecord (generate .faultCleared code value seq s)) := (generate_outputLaw law).onFm
  have ready (t : State) (law : OutputLaw t) : OutputLaw (enter .ready false true t) :=
    enter_loaded_outputLaw law (by decide)
  have unloaded (t : State) (law : OutputLaw t) : OutputLaw (enter .unloaded true false t) :=
    enter_outputLaw law fun _ => ⟨rfl, rfl⟩
  unfold takeClearFault
  split
  · exact refuse_outputLaw law
  · exact doneAtTake_outputLaw ((ready _ (cleared _ _ _)).ite (unloaded _ (cleared _ _ _)))

/-- R53, R56, R99: TRANSPORT RESET leaves the loops in OFF, in UNLOADED with the brake on. -/
theorem afresh_outputLaw (law : OutputLaw s) (unloaded : s.tsq.state = .unloaded) : OutputLaw (afresh s) := by
  obtain ⟨brake, vacuum⟩ := law.unloaded unloaded
  have quiet (l : ReelLoop) : ReelLaw l.transportReset :=
    ⟨fun _ => ⟨rfl, rfl, rfl⟩, zero_drive_range, fun h => absurd rfl h, nofun, nofun⟩
  refine .of_loops law.params (fun _ => ⟨brake, vacuum⟩) ?_ (fun x => ?_) ?_ fun x => ?_
  · simp [afresh, capstanToRun, unloaded, TState.capstanRuns, Cl.reset]
  · rw [reelModeFor_of_brake x (s := afresh s) brake]
    cases x <;> rfl
  · exact ⟨fun _ => ⟨rfl, rfl, rfl⟩, zero_drive_range, nofun, nofun⟩
  · cases x <;> exact quiet _

theorem takeTransportReset_outputLaw {r : Record} (law : OutputLaw s) : OutputLaw (takeTransportReset r s) := by
  have unloaded : OutputLaw (enter .unloaded true false ((endChain s).onMg fun _ => Mg.reset)) :=
    enter_outputLaw (endChain_outputLaw law).onMg fun _ => ⟨rfl, rfl⟩
  have reset := afresh_outputLaw unloaded (by rw [enter_tsq])
  unfold takeTransportReset
  dsimp only
  generalize enter .unloaded true false ((endChain s).onMg fun _ => Mg.reset) = entered at reset
  exact doneAtTake_outputLaw reset.onOi

theorem carryOut_outputLaw {r : Record} (law : OutputLaw s) : OutputLaw (carryOut r s) := by
  unfold carryOut
  cases r.code with
  | load => exact takeLoad_outputLaw law
  | unload => exact takeUnload_outputLaw law
  | rewind => exact takeRewind_outputLaw law
  | runChain => exact takeRunChain_outputLaw law
  | space => exact takeSpace_outputLaw law
  | marker => exact doneAtTake_outputLaw law
  | clearFault => exact takeClearFault_outputLaw law
  | returnToSetup => exact doneAtTake_outputLaw (law.onMc law.params)
  | transportReset => exact takeTransportReset_outputLaw law
  | setReelGains | setCapstanGains | setColumns | setSpeeds | setLimits | setSenseLine | setReporting
    | setDefaultCircumference | enterRun => exact law

theorem takeHead_outputLaw {r : Record} (law : OutputLaw s) : OutputLaw (takeHead r s) :=
  ((applySetup_outputLaw law).ite (refuse_outputLaw law)).ite
    (((doneAtTake_outputLaw law).ite (refuse_outputLaw law)).ite ((carryOut_outputLaw law).ite (refuse_outputLaw law)))

theorem conclude_outputLaw (law : OutputLaw s) : OutputLaw (conclude s) := by
  have served (n : Nat) (t : State) (law : OutputLaw t) : OutputLaw (serveHead n t) := by
    induction n generalizing t with
    | zero => exact law
    | succ n ih =>
      unfold serveHead
      split
      · exact law
      · exact (ih _ (takeHead_outputLaw law.onOi)).ite law
  have due (t : State) (law : OutputLaw t) : OutputLaw (orderFetchTest t) := law.onOi.ite law
  exact due _ (served _ s law)

/-! ## The port and the Memory Agent -/

theorem snoop_outputLaw {w : RegionWord} {be : ByteEnables} {data : Word} {answered : Bool} (law : OutputLaw s) :
    OutputLaw (snoop w be data answered s) := by
  have word : OutputLaw (snoopWord w be data answered s) := by
    cases w with
    | slotWord j k => exact law.elsewhere (t := storeWord _ _ _ _ s) (by simp) (by simp) (by simp) (by simp)
    | entryWord i k => exact law.elsewhere (t := storeWord _ _ _ _ s) (by simp) (by simp) (by simp) (by simp)
    | postWord j =>
      change OutputLaw (postWordEnds j be data answered s)
      unfold postWordEnds
      split <;> exact law.elsewhere (by simp) (by simp) (by simp) (by simp)
    | entryClosing i =>
      change OutputLaw (entryClosingEnds i be data answered s)
      unfold entryClosingEnds
      dsimp only
      split <;> exact law.elsewhere (by simp) (by simp) (by simp) (by simp)
    | release => exact (law.elsewhere (t := takeRelease data s) (by simp) (by simp) (by simp) (by simp)).ite law
    | stop => exact (takeStopWord_outputLaw law).ite law
    | unwatched => exact law
  exact word.ite law

theorem beginJob_outputLaw {k : AgentJob} (law : OutputLaw s) : OutputLaw (beginJob k s) := by
  cases k with
  | reportWrite => exact law.elsewhere (t := startReportWrite s) (by simp) (by simp) (by simp) (by simp)
  | orderFetch => exact law.elsewhere (t := startOrderFetch s) (by simp) (by simp) (by simp) (by simp)
  | segmentFetch => exact law.elsewhere (t := startSegmentFetch s) (by simp) (by simp) (by simp) (by simp)
  | snapshotWrite => exact law.elsewhere (t := startSnapshotWrite s) (by simp) (by simp) (by simp) (by simp)

theorem takeStart_outputLaw {k : AgentJob} (law : OutputLaw s) : OutputLaw (takeStart k s) := by
  rw [takeStart_eq]
  have kept (p : Option AgentJob) : OutputLaw (s.onPtp fun q => { q with starting := p }) := law.elsewhere rfl rfl rfl rfl
  exact (beginJob_outputLaw law).ite ((kept _).ite law)

theorem takeKept_outputLaw {kept : Option AgentJob} (law : OutputLaw s) : OutputLaw (takeKept kept s) := by
  cases kept with
  | none => exact law
  | some k =>
    have taken : OutputLaw (s.onPtp fun p => { p with starting := none }) := law.elsewhere rfl rfl rfl rfl
    exact (beginJob_outputLaw taken).ite taken

theorem arbitrate_outputLaw (law : OutputLaw s) : OutputLaw (arbitrate s) :=
  law.elsewhere (by simp) (by simp) (by simp) (by simp)

theorem endForwarded_outputLaw {answered : Bool} {data : Word} (law : OutputLaw s) :
    OutputLaw (endForwarded answered data s) := by
  have completed (t : State) (law : OutputLaw t) (busError : Bool) (data : Option Word) :
      OutputLaw (takeComing (completeU busError data t)) := law.elsewhere (by simp) (by simp) (by simp) (by simp)
  unfold endForwarded
  split
  · unfold forwardedEnds
    exact arbitrate_outputLaw (takeKept_outputLaw (conclude_outputLaw
      (completed _ ((snoop_outputLaw law).ite law) _ _)))
  all_goals exact law

theorem watchedWrite_outputLaw {off : Nat} {be : ByteEnables} {data : Word} {answered : Bool} (law : OutputLaw s) :
    OutputLaw (watchedWrite off be data answered s) :=
  (endForwarded_outputLaw law).ite (conclude_outputLaw (snoop_outputLaw law))

theorem endAgentWord_outputLaw {f : Job → State → State} (told : ∀ j t, OutputLaw t → OutputLaw (f j t))
    (law : OutputLaw s) : OutputLaw (endAgentWord f s) := by
  have freed : OutputLaw (freeMSide s) := law.elsewhere rfl rfl rfl rfl
  have chosen (t : State) (law : OutputLaw t) : OutputLaw (chooseJob t) :=
    law.elsewhere (by simp) (by simp) (by simp) (by simp)
  unfold endAgentWord
  split
  · dsimp only
    split
    · exact arbitrate_outputLaw (chosen _ (conclude_outputLaw (told _ _ freed)))
    · exact arbitrate_outputLaw freed
  · exact arbitrate_outputLaw freed
  all_goals exact law

/-! ## Every command -/

/-- R56, R103: after a reset every loop is in OFF, in UNLOADED with the brake on and the vacuum off. -/
theorem powerOnReset_outputLaw (straps : Straps) (levels : TachLevels) (s : State) :
    OutputLaw (powerOnReset straps levels s) :=
  outputLaw_reset.of_same (.defaults straps) rfl rfl rfl rfl rfl

theorem lineReset_outputLaw (levels : TachLevels) (s : State) : OutputLaw (lineReset levels s) := by
  have reset := powerOnReset_outputLaw s.mc.straps levels s
  exact arbitrate_outputLaw (reset.of_same reset.params rfl rfl rfl rfl rfl)

theorem expiryRun_outputLaw (o : ExpiryOrder) (law : OutputLaw s) : OutputLaw (expiryRun o s).state := by
  have closed (t : State) (law : OutputLaw t) : OutputLaw (intervalStage (senseChange t)) :=
    law.elsewhere (by simp) (by simp) (by simp) (by simp)
  rw [expiryRun_state]
  exact conclude_outputLaw (closed _ (checked_outputLaw s (servoRun_outputLaw o law)))

theorem recordArrives_outputLaw {c : Code} {seq : Byte} {b : Body} (law : OutputLaw s) :
    OutputLaw (recordArrives c seq b s) :=
  (conclude_outputLaw (law.elsewhere (by simp) (by simp) (by simp) (by simp))).ite law

theorem sampleFrame_outputLaw (bits : List Bool) (law : OutputLaw s) (h : execSampleFrame bits s = .next t) :
    OutputLaw t := by
  unfold execSampleFrame at h
  obtain rfl := Host.Outcome.next.inj h
  split
  · exact law
  · split
    · exact law.onMu
    · cases framePair bits with
      | none => exact law
      | some p => exact present_outputLaw law.onMu

theorem exec_outputLaw {c : Instr} (law : OutputLaw s) (h : exec c s = .next t) : OutputLaw t := by
  cases c
  case sampleFrame bits => exact sampleFrame_outputLaw bits law h
  all_goals obtain rfl := Host.Outcome.next.inj h
  case powerOnReset straps levels => exact powerOnReset_outputLaw straps levels s
  case lineReset levels => exact lineReset_outputLaw levels s
  case resetRelease => exact (law.onMc law.params).ite law
  case initialisationEnd => exact (law.onMc law.params).onRu.onMu.ite law
  case periodExpiry o => exact (expiryRun_outputLaw o law).ite law
  case sampleLoss o | settleComplete o | settleTimeout o | speedReduced o | haltWaitLimit o | capstanRunaway o
    | vacuumSettled o | loadTimeout o | unloadTimeout o | snapshotInterval o => exact (expiryRun_outputLaw o law).ite law
  case reelStall x o => exact (expiryRun_outputLaw o law).ite law
  case capstanTachCount ph => exact law.elsewhere (by simp) (by simp) (by simp) (by simp)
  case reelTachCount x ph => exact law.elsewhere (by simp) (by simp) (by simp) (by simp)
  case windowComplete x ph => exact (law.elsewhere (by simp) (by simp) (by simp) (by simp)).ite law
  case debounceTick raw order => exact conclude_outputLaw (tick_outputLaw raw order law)
  case acceptedChange k raw order => exact (conclude_outputLaw (tick_outputLaw raw order law)).ite law
  case uSideAccess acc =>
    unfold presentAccess
    split <;> exact law.elsewhere (by simp) (by simp) (by simp) (by simp)
  case forwardedAccessEnd data => exact endForwarded_outputLaw law
  case memoryResponseTimeout => exact endForwarded_outputLaw law
  case orderSlotWordWrite | orderPostWordWrite | segmentWordWrite | segmentClosingWrite | releaseWord | stopWord =>
    exact watchedWrite_outputLaw law
  case reportWriteStart | orderFetchStart | segmentFetchStart | snapshotWriteStart => exact takeStart_outputLaw law
  case agentWordEnd data =>
    exact endAgentWord_outputLaw (fun j t law => law.elsewhere (by simp) (by simp) (by simp) (by simp)) law
  case agentWordTimeout =>
    exact endAgentWord_outputLaw (fun j t law => law.elsewhere (by simp) (by simp) (by simp) (by simp)) law
  case attentionPulseEnd => exact law.onRu.ite law
  case convertPulseEnd => exact law.onMu
  case bothPhasesChange tach => exact law.elsewhere (by simp) (by simp) (by simp) (by simp)
  all_goals exact recordArrives_outputLaw law

/-- Settles O11: every command keeps the law, and neither the queue nor an idle step touches what it speaks of. -/
theorem outputsFollowState : Obligations.OutputsFollowState := by
  unfold Obligations.OutputsFollowState
  intro s t law h
  unfold step at h
  split at h
  · obtain rfl := Host.Outcome.next.inj h
    exact law
  · rename_i c rest _
    have taken : OutputLaw { s with pending := rest } := law.elsewhere rfl rfl rfl rfl
    exact exec_outputLaw taken h

end Sys2Proof.Machine
end

section
/-! CLEAR FAULT at its take (R97, R117, R118). -/

namespace Sys2Proof.Machine

variable {s t u : State} {seq : Byte} {b : Body} {f k : FaultKind} {st : TState} {brake vacuum : Bool}

/-! ## One report behind others -/

theorem reportsSaying_append (t : State) (id : Nat) (l m : List Said) :
    reportsSaying t id (l ++ m) = reportsSaying t id l ++ reportsSaying t (id + l.length) m := by
  induction l generalizing id with
  | nil => rfl
  | cons x l ih =>
    have next : id + 1 + l.length = id + (l.length + 1) := by omega
    simp [reportsSaying, ih, next]

/-- What a report says of the measurements is P and the period count (R167). -/
theorem reportsSaying_congr (p : u.mu.p = t.mu.p) (count : u.mu.periodCount = t.mu.periodCount) (id : Nat)
    (l : List Said) : reportsSaying u id l = reportsSaying t id l := by
  induction l generalizing id with
  | nil => rfl
  | cons x l ih => simp [reportsSaying, ih, p, count]

/-- Reports generated behind others in one step, P and the period count standing between them. -/
theorem Reports.append {l m : List Said} (h : Reports s t l) (h' : Reports t u m) (p : u.mu.p = t.mu.p)
    (count : u.mu.periodCount = t.mu.periodCount) : Reports s u (l ++ m) where
  list := by
    simp only [h'.list, h.list, h.names, reportsSaying_append, reportsSaying_congr p count, List.append_assoc]
  names := by
    rw [h'.names, h.names, List.length_append]
    omega
  ring := by
    obtain ⟨write, read, next, slots⟩ := h.ring
    obtain ⟨write', read', next', slots'⟩ := h'.ring
    exact ⟨write'.trans write, read'.trans read, next'.trans next, slots'.trans slots⟩
  loss := h'.loss.trans h.loss
  line := ⟨h'.line.1.trans h.line.1, h'.line.2.trans h.line.2⟩
  count := h'.count.trans h.count

/-! ## The causes (R117) -/

theorem persists_congr (slu : t.slu = s.slu) (k : FaultKind) : persists t k = persists s k := by
  cases k <;> simp [persists, level_of_slu slu]

theorem causes_of_first (first : s.fm.first = some f) : causes s = f :: s.fm.later := by simp [causes, first]

/-- R97: the first cause of the record that persists refuses the order. -/
theorem find_persisting {before after : List FaultKind} (record : causes s = before ++ k :: after)
    (none : ∀ x ∈ before, persists s x = false) (persisting : persists s k = true) :
    (causes s).find? (persists s) = some k := by
  rw [record]
  exact List.find?_eq_some_iff_append.mpr ⟨persisting, before, after, rfl, fun x mem => by simp [none x mem]⟩

/-! ## The take (R118) -/

/-- R118: the record has been reported and is empty. -/
def recordCleared (f : FaultKind) (seq : Byte) (s : State) : State :=
  clearRecord (reported
    (makeReport .faultCleared f.number (1 + s.fm.later.length + s.fm.further : Nat) (some seq) s) s)

theorem takeClearFault_of_clear (first : s.fm.first = some f) (none : ∀ k ∈ f :: s.fm.later, persists s k = false)
    (room : Room 2 s) :
    takeClearFault ⟨seq, .clearFault, b⟩ s = doneAtTake .complete 0 seq
      (if readyAfterClear s then enter .ready false true (recordCleared f seq s)
        else enter .unloaded true false (recordCleared f seq s)) := by
  have clear : (causes s).find? (persists s) = .none := by
    rw [causes_of_first first]
    exact List.find?_eq_none.mpr fun k mem => by simp [none k mem]
  have count : causeCount s = 1 + s.fm.later.length + s.fm.further := by
    rw [causeCount, causes_of_first first, List.length_cons]
    omega
  have room' : s.ru.pendingReports.length < 4 := by
    unfold Room at room
    omega
  have told : clearRecord (generate .faultCleared f.number (causeCount s) (some seq) s) = recordCleared f seq s := by
    rw [generate_of_room _ _ _ rfl room', count]
    rfl
  unfold takeClearFault
  rw [clear]
  dsimp only
  rw [first, Option.elim_some, told]
  rfl

/-- R97: the state that a passed CLEAR FAULT chooses. -/
theorem readyAfterClear_iff : readyAfterClear s = true ↔ s.tsq.vacuum = true ∧ ∃ p : PerReel (BitVec 10),
    s.mu.pair = some p ∧ s.mu.missCount < 3 ∧ ∀ x : Reel, InBand x (p.get x).toNat s := by
  have reels (p : PerReel (BitVec 10)) : (∀ x : Reel, bandHolds x (p.get x).toNat s = true) ↔
      bandHolds .s p.s.toNat s = true ∧ bandHolds .t p.t.toNat s = true :=
    ⟨fun h => ⟨h .s, h .t⟩, fun h x => by cases x; exacts [h.1, h.2]⟩
  unfold readyAfterClear inBand live sample
  cases s.mu.pair with
  | none => simp
  | some p =>
    simp only [Option.some.injEq, exists_eq_left', ← bandHolds_iff, reels]
    simp
    tauto

/-- What a passed CLEAR FAULT leaves where it chooses this state and these outputs. -/
structure ClearAnswered (st : TState) (brake vacuum : Bool) (f : FaultKind) (seq : Byte) (s t : State) : Prop where
  taken : Taken seq s t
  outputs : t.tsq = { s.tsq with state := st, brake := brake, vacuum := vacuum }
  record : t.fm.first = none ∧ t.fm.later = [] ∧ t.fm.further = 0
  counts : t.fm.haltWait = none ∧ t.fm.runaway = 0
  runs : t.fm.highRun = if brake && !s.tsq.brake then ⟨0, 0⟩ else s.fm.highRun
  settling : t.fm.vacTimer = if vacuum != s.tsq.vacuum then 0 else s.fm.vacTimer
  position : t.mu.p = s.mu.p
  motion : t.mg = s.mg
  capstan : t.cl = (enter st brake vacuum (recordCleared f seq (consumed seq s))).cl
  reels : t.rl = (enter st brake vacuum (recordCleared f seq (consumed seq s))).rl
  chain : t.sc = s.sc ∧ t.wk = s.wk
  around : SameSurroundings s t
  reports : Reports s t
    [⟨.faultCleared, f.number, (1 + s.fm.later.length + s.fm.further : Nat), some seq, s.tsq.state⟩,
     ⟨.orderDone, 0, 0, some seq, st⟩]

/-- R118: the record has been emptied and reported, the state taken, and the order answered. -/
theorem clearAnswered (fill : st ≠ .loadingFill) (room : Room 2 s) :
    ClearAnswered st brake vacuum f seq s
      (orderFetchTest (doneAtTake .complete 0 seq (enter st brake vacuum (recordCleared f seq (consumed seq s))))) := by
  have cleared : Reports s (recordCleared f seq (consumed seq s))
      [⟨.faultCleared, f.number, (1 + s.fm.later.length + s.fm.further : Nat), some seq, s.tsq.state⟩] :=
    (reported_reports .faultCleared f.number _ (some seq) (consumed seq s)).congr rfl rfl rfl
  have room' : Room 1 (recordCleared f seq (consumed seq s)) := by
    unfold Room at room ⊢
    rw [cleared.list, List.length_append]
    exact room
  have entered := enter_eq fill brake vacuum (recordCleared f seq (consumed seq s))
  have tsq : (enter st brake vacuum (recordCleared f seq (consumed seq s))).tsq =
      { s.tsq with state := st, brake := brake, vacuum := vacuum } := enter_tsq _ _ _ _
  have fm : (enter st brake vacuum (recordCleared f seq (consumed seq s))).fm =
      { (outputsTaken st brake vacuum (recordCleared f seq (consumed seq s))).fm with runaway := 0 } := by
    have none : (outputsTaken st brake vacuum (recordCleared f seq (consumed seq s))).fm.runaway = 0 := rfl
    rw [entered, followModes_fm, followCapstan_fm, none, ite_self]
  have mu := followModes_mu (outputsTaken st brake vacuum (recordCleared f seq (consumed seq s)))
  rw [← entered] at mu
  have position : (enter st brake vacuum (recordCleared f seq (consumed seq s))).mu.p = s.mu.p := by
    rw [mu]
    rfl
  have count : (enter st brake vacuum (recordCleared f seq (consumed seq s))).mu.periodCount = s.mu.periodCount := by
    rw [mu]
    rfl
  have ru : (enter st brake vacuum (recordCleared f seq (consumed seq s))).ru =
      { (recordCleared f seq (consumed seq s)).ru with snapDue := s.ru.snapDue || decide (st ≠ s.tsq.state) } := by
    simp only [entered, followModes_frame]
    rfl
  have frame := enter_frame (recordCleared f seq (consumed seq s)) st brake vacuum
  clear entered mu
  generalize eq : enter st brake vacuum (recordCleared f seq (consumed seq s)) = e at *
  obtain ⟨mg, sc, wk, slu, oi, ptp, ma, mc, freeCount, inputs, pending⟩ := frame
  obtain ⟨reports, due, counter, lines⟩ := doneAtTake_reports (o := .complete) (value := 0) (seq := seq) room' ru
  have said := cleared.append reports ((by simp : (doneAtTake .complete 0 seq e).mu.p = e.mu.p).trans position)
    ((by simp : (doneAtTake .complete 0 seq e).mu.periodCount = e.mu.periodCount).trans count)
  rw [tsq] at said
  constructor
  case taken =>
    refine ⟨orderFetchTest_of_consumed ((by simp : (doneAtTake .complete 0 seq e).oi = e.oi).trans oi), ?_, ?_⟩
    · simpa [tsq] using due
    · simp only [orderFetchTest_frame]
      exact counter
  case reports => exact said.congr rfl (by simp) (by simp)
  all_goals simp only [SameSurroundings, SameBus, SameSetup, orderFetchTest_frame, doneAtTake_frame]
  case outputs => exact tsq
  case record | counts | runs | settling => simp only [fm]; simp [outputsTaken, recordCleared, clearRecord, reported]
  case position => exact position
  case motion => exact mg
  case chain => exact ⟨sc, wk⟩
  case capstan | reels => rw [eq]
  case around => exact ⟨⟨ptp, ma⟩, lines.trans slu, mc, freeCount, inputs, pending⟩

/-- R39, R43: READY with the vacuum on has the capstan loop running and both reels in LOOP. -/
theorem enter_ready_loops (s : State) :
    (enter .ready false true s).cl.run = true ∧ ∀ x : Reel, ((enter .ready false true s).rl.get x).mode = .loop := by
  rw [enter_eq (by decide)]
  refine ⟨?_, fun x => ?_⟩
  · rw [followModes_cl, followCapstan_run]
    rfl
  · rw [followModes_rl_get, followedLoop_mode]
    exact reelModeFor_of_loops x rfl rfl rfl

theorem clearFault_arrives (free : HeadFree seq s) (run : s.mc.mode = .run) (fault : s.tsq.state = .fault) :
    exec (.clearFault seq b) s =
      .next (orderFetchTest (takeClearFault ⟨seq, .clearFault, b⟩ (consumed seq s))) := by
  have taken : takeHead ⟨seq, .clearFault, b⟩ (consumed seq s) = takeClearFault ⟨seq, .clearFault, b⟩ (consumed seq s) :=
    takeHead_of_order rfl run (by simp [fault, Code.acceptedIn])
  rw [← taken, ← recordArrives_of_headFree free]
  rfl

/-- Settles O46: with no cause left the record is emptied and the state chosen by what reads; a cause that persists
refuses the order. -/
theorem clearFaultChoosesTheState : Obligations.ClearFaultChoosesTheState := by
  unfold Obligations.ClearFaultChoosesTheState
  have clear {s : State} (seq : Byte) (b : Body) {f : FaultKind} (free : HeadFree seq s) (run : s.mc.mode = .run)
      (fault : s.tsq.state = .fault) (first : s.fm.first = some f)
      (none : ∀ k ∈ f :: s.fm.later, persists s k = false) (room : Room 2 s) :
      exec (.clearFault seq b) s = .next (orderFetchTest (doneAtTake .complete 0 seq
        (if readyAfterClear s then enter .ready false true (recordCleared f seq (consumed seq s))
          else enter .unloaded true false (recordCleared f seq (consumed seq s))))) := by
    rw [clearFault_arrives free run fault, takeClearFault_of_clear (s := consumed seq s) first ?_ room]
    · rfl
    · exact fun k mem => (persists_congr rfl k).trans (none k mem)
  refine ⟨?ready, ?unloaded, ?refused⟩
  case ready =>
    intro s seq b f p free run fault first none vacuum pair misses bands room
    have chosen : readyAfterClear s = true := readyAfterClear_iff.mpr ⟨vacuum, p, pair, misses, bands⟩
    have runs := clear seq b free run fault first none room
    rw [if_pos chosen] at runs
    obtain ⟨taken, outputs, ⟨noFirst, later, further⟩, ⟨wait, runaway⟩, high, settling, position, motion, capstan, reels,
      ⟨cache, walker⟩, around, reports⟩ :=
      clearAnswered (st := .ready) (brake := false) (vacuum := true) (f := f) (seq := seq) (by decide) room
    obtain ⟨running, looping⟩ := enter_ready_loops (recordCleared f seq (consumed seq s))
    rw [fault] at reports
    refine ⟨_, runs, taken, ?_, noFirst, later, further, wait, runaway, high, ?_, position, motion, ?_, fun x => ?_, cache,
      walker, around, reports⟩
    · rw [outputs, ← vacuum]
    · rw [settling, vacuum]
      rfl
    · rw [capstan, running]
    · rw [reels, looping x]
  case unloaded =>
    intro s seq b f free law run fault first none reads room
    have chosen : ¬ readyAfterClear s = true := by
      rw [readyAfterClear_iff]
      rintro ⟨vacuum, p, pair, misses, bands⟩
      rcases reads with off | unpaired | missed | ⟨x, outside⟩
      · exact absurd (vacuum.symm.trans off) (by decide)
      · exact absurd (pair.symm.trans unpaired) nofun
      · omega
      · exact outside p pair (bands x)
    have runs := clear seq b free run fault first none room
    rw [if_neg chosen] at runs
    obtain ⟨taken, outputs, ⟨noFirst, later, further⟩, ⟨wait, runaway⟩, -, -, position, motion, capstan, reels,
      ⟨cache, walker⟩, around, reports⟩ :=
      clearAnswered (st := .unloaded) (brake := true) (vacuum := false) (f := f) (seq := seq) (by decide) room
    have braked : Braked (enter .unloaded true false (recordCleared f seq (consumed seq s))) :=
      enter_brakes (by decide) (fun off => (law.capstanOff off).1) fun x off => (law.reelOff x off).1
    rw [fault] at reports
    exact ⟨_, runs, taken, outputs, braked.congr (by rw [outputs, enter_tsq]) capstan reels, noFirst, later, further, wait,
      runaway, position, motion, cache, walker, around, reports⟩
  case refused =>
    intro s seq b f k before after free run fault first record none persisting room
    refine ⟨_, clearFault_arrives free run fault, ?_⟩
    have found : (causes (consumed seq s)).find? (persists (consumed seq s)) = some k :=
      find_persisting ((causes_of_first (s := consumed seq s) first).trans record)
        (fun x mem => (persists_congr rfl x).trans (none x mem)) ((persists_congr rfl k).trans persisting)
    have refused : takeClearFault ⟨seq, .clearFault, b⟩ (consumed seq s) =
        refuse .causePersists k.number seq (consumed seq s) := by
      unfold takeClearFault
      rw [found]
    rw [refused]
    exact refused_of_take room

end Sys2Proof.Machine
end

section
/-! LOAD_TIMEOUT and UNLOAD_TIMEOUT: the phase timer ends FILL or WIND-OFF in UNLOADED (R90, R95), where the Fault
Monitor attends nothing. -/

namespace Sys2Proof.Machine

variable {s t u : State} {h : InHand} {c : Context} {o : ExpiryOrder} {outcome : OrderOutcome} {e : ExpiryEvent}

/-! ## The tests in UNLOADED -/

/-- The transport in UNLOADED, with the outputs and the capstan loop that go with it (R43, R53). -/
structure Unattended (s : State) : Prop where
  state : s.tsq.state = .unloaded
  brake : s.tsq.brake = true
  pump : s.tsq.vacuum = false
  off : s.cl.run = false

theorem Unattended.congr (still : Unattended s) (tsq : t.tsq = s.tsq) (cl : t.cl = s.cl) : Unattended t := by
  obtain ⟨state, brake, pump, off⟩ := still
  constructor <;> simp only [tsq, cl] <;> assumption

theorem takeFault_of_not_attended {kind : FaultKind} (value : Int) (h : attended kind s = false) :
    takeFault kind value s = s := by
  rw [takeFault, if_neg (by simp [h])]

/-- R104: in UNLOADED a test keeps its count, and what it finds is not attended. -/
theorem Unattended.checkStage (still : Unattended s) (c : Context) (k : ExpiryCheck) :
    checkStage c k s = watched c s k := by
  obtain ⟨state, brake, pump, off⟩ := still
  cases k with
  | position =>
    have unattended : attended .positionRange s = false := by simp [attended, state]
    change (if c.atBound then takeFault .positionRange s.mu.p s else s) = s
    rw [takeFault_of_not_attended _ unattended, ite_self]
  | door =>
    have unattended : attended .doorOpen (watched c s .door) = false := by simp [attended, watched, state]
    change (if doorOpenMoving s && !s.fm.doorCond then takeFault .doorOpen s.mu.m (watched c s .door)
      else watched c s .door) = watched c s .door
    rw [takeFault_of_not_attended _ unattended, ite_self]
  | vacuum => exact checkStage_of_not_finds (by simp [finds, vacuumSettles, settledAfter, pump])
  | stall x => exact checkStage_of_not_finds (by simp [finds, stalls, brake])
  | runaway => exact checkStage_of_not_finds (runaway_not_finds (by simp [runawayAfter, off]))
  | halt => exact checkStage_of_not_finds (halt_not_finds (.inl (by simp [state])))

theorem Unattended.checks (still : Unattended s) (c : Context) (l : List ExpiryCheck) :
    l.foldl (fun t k => Machine.checkStage c k t) s = l.foldl (watched c) s := by
  induction l generalizing s with
  | nil => rfl
  | cons k l ih =>
    have kept := (watched_counted c s k).rest
    rw [List.foldl_cons, List.foldl_cons, still.checkStage c k]
    exact ih (still.congr (by rw [kept]) (by rw [kept]))

/-! ## The end in UNLOADED (R79) -/

/-- R79, R90, R95: a LOAD or an UNLOAD ended with this outcome in UNLOADED. -/
def endedUnloaded (outcome : OrderOutcome) (h : InHand) (s : State) : State :=
  clearHand (reported (makeReport .orderDone outcome.number 0 (some h.seq) (unloadLeft s)) (unloadLeft s))

theorem endUnloaded_of_room (outcome : OrderOutcome) (hand : s.tsq.inHand = some h)
    (code : h.code = .load ∨ h.code = .unload) (room : Room 1 s) : endUnloaded outcome s = endedUnloaded outcome h s := by
  have hand' : (unloadLeft s).tsq.inHand = some h := by simpa [unloadLeft_eq, outputsTaken] using hand
  have room' : (unloadLeft s).ru.pendingReports.length < 4 := by
    unfold Room at room
    simp only [unloadLeft_eq, outputsTaken, followModes_frame]
    exact Nat.lt_of_succ_le room
  have value : orderDoneValue h outcome 0 (unloadLeft s) = 0 := by
    rcases code with code | code <;> simp [orderDoneValue, code]
  change finishOrder outcome 0 (unloadLeft s) = _
  unfold finishOrder
  rw [hand']
  dsimp only
  rw [value, generate_of_room (s := unloadLeft s) (kind := .orderDone) _ _ _ (maskPasses_of_unmasked _ (.inl rfl)) room']
  rfl

theorem endedUnloaded_reports (outcome : OrderOutcome) (h : InHand) (s : State) :
    Reports s (endedUnloaded outcome h s) [⟨.orderDone, outcome.number, 0, some h.seq, .unloaded⟩] := by
  have said := reported_reports .orderDone outcome.number 0 (some h.seq) (unloadLeft s)
  have state : (unloadLeft s).tsq.state = .unloaded := by simp [unloadLeft, enter_tsq]
  rw [state] at said
  refine Reports.of_due (due := s.ru.snapDue || decide (.unloaded ≠ s.tsq.state)) (said.congr ?_ rfl rfl)
  simp only [unloadLeft_eq, outputsTaken, followModes_frame]

/-- The outcome is told in the report alone: everything else is as at the end by a stop word. -/
theorem endedUnloaded_leaves (outcome : OrderOutcome) (h : InHand) (law : OutputLaw s) :
    (endedUnloaded outcome h s).tsq = s.tsq.ended .unloaded true false ∧ Braked (endedUnloaded outcome h s) ∧
      (endedUnloaded outcome h s).mu.p = s.mu.p ∧ (endedUnloaded outcome h s).mu.eot = s.mu.eot ∧
      (endedUnloaded outcome h s).fm.first = s.fm.first ∧ (endedUnloaded outcome h s).sc = s.sc ∧
      (endedUnloaded outcome h s).wk = s.wk ∧ (endedUnloaded outcome h s).oi = s.oi ∧
      SameSurroundings s (endedUnloaded outcome h s) ∧ SnapshotByState s (endedUnloaded outcome h s) := by
  obtain ⟨tsq, braked, -, p, eot, first, sc, wk, oi, around, snapshot⟩ := stoppedUnloaded_leaves h law
  exact ⟨tsq, braked, p, eot, first, sc, wk, oi, around, snapshot⟩

theorem endedUnloaded_arrival (outcome : OrderOutcome) (h : InHand) (s : State) :
    (endedUnloaded outcome h s).mu.arrival = s.mu.arrival := by
  change (unloadLeft s).mu.arrival = _
  rw [unloadLeft_eq, followModes_mu]
  rfl

theorem endedUnloaded_mg (outcome : OrderOutcome) (h : InHand) (s : State) : (endedUnloaded outcome h s).mg = s.mg := by
  change (unloadLeft s).mg = _
  simp [unloadLeft_eq, outputsTaken]

theorem endedUnloaded_unattended (outcome : OrderOutcome) (h : InHand) (s : State) :
    Unattended (endedUnloaded outcome h s) := by
  have tsq : (unloadLeft s).tsq = { s.tsq with state := .unloaded, brake := true, vacuum := false } := enter_tsq _ _ _ _
  refine ⟨congrArg Tsq.state tsq, congrArg Tsq.brake tsq, congrArg Tsq.vacuum tsq, ?_⟩
  change (unloadLeft s).cl.run = false
  rw [unloadLeft_eq, followModes_cl, followCapstan_run]
  rfl

/-! ## The servo stages -/

/-- The state of the servo stages where the capstan loop stands and no mark is crossed: the measurements of the expiry,
the arrival flag, and what the generator has handed on. -/
def servoAt (a : Bool) (g : Mg) (s : State) : State := { stageStart a s with mg := g }

/-- R20, R40: the generator IDLE hands on 0, and the capstan loop that does not run computes nothing. -/
theorem motionStage_of_off (idle : GeneratorIdle s) (off : s.cl.run = false) :
    motionStage s = { s with mg := s.mg.idled } := by
  have stage : generatorStage s = { s with mg := s.mg.idled } := by
    rw [generatorStage_of_idle idle]
    simp [handOnSpeed, State.onMg, Mg.idled]
  rw [motionStage, stage, computeCapstan, if_neg (by simp [off])]

theorem loadTimeout_named {r : Run} (h : loadTimeoutComes c r.state = true) :
    ExpiryEvent.loadTimeout ∈ (r.timer c).events :=
  noting_grows _ (noting_names h)

theorem unloadTimeout_named {r : Run} (h : unloadTimeoutComes c r.state = true) :
    ExpiryEvent.unloadTimeout ∈ (r.timer c).events :=
  noting_names (by simpa using h)

theorem servoAt_start (arrival : s.mu.arrival = true) : s.onMu Mu.atExpiry = servoAt true s.mg s := by
  unfold servoAt stageStart withArrival
  rw [← arrival]
  rfl

theorem missStage_servoAt (g : Mg) : missStage (servoAt true g s) = servoAt false g s := missStage_of_arrival rfl

theorem motionStage_servoAt (idle : GeneratorIdle s) (off : s.cl.run = false) (a : Bool) :
    computeCapstan (generatorStage (servoAt a s.mg s)) = servoAt a s.mg.idled s :=
  motionStage_of_off (idle.congr rfl rfl) off

theorem takeCrossings_of_no_notices (notices : s.mu.notices = []) (u : State) :
    takeCrossings (contextOf s).crossings u = u := by
  have none : (contextOf s).crossings = [] := by simp [contextOf, measured, notices]
  rw [none]
  rfl

/-- Behind the phase timer's end in UNLOADED the generator is idle too. -/
theorem motionStage_endedUnloaded (idle : GeneratorIdle s) :
    computeCapstan (generatorStage (withArrival false (endedUnloaded outcome h (servoAt true s.mg s)))) =
      withArrival false { endedUnloaded outcome h (servoAt true s.mg s) with mg := s.mg.idled } := by
  have mg : (endedUnloaded outcome h (servoAt true s.mg s)).mg = s.mg := endedUnloaded_mg _ _ _
  have still := endedUnloaded_unattended outcome h (servoAt true s.mg s)
  obtain ⟨stops, markStop, reaim, halt, phase, -⟩ := idle
  generalize endedUnloaded outcome h (servoAt true s.mg s) = u at mg still
  have idle : GeneratorIdle (withArrival false u) := by
    constructor <;> simp [withArrival, mg, stops, markStop, reaim, halt, phase, still.state]
  refine (motionStage_of_off idle still.off).trans ?_
  rw [withArrival, State.onMu_mg, mg]
  rfl

/-- R18, R20, R40, R90, R95: the phase timer ends the order in UNLOADED, whatever its place among the stages. -/
theorem servoRun_of_timeout (o : ExpiryOrder) (arrival : s.mu.arrival = true) (notices : s.mu.notices = [])
    (idle : GeneratorIdle s) (off : s.cl.run = false)
    (ends : ∀ a g, timerStage (contextOf s) (servoAt a g s) = endedUnloaded outcome h (servoAt a g s)) :
    ∃ a g, (servoRun o s).state =
      withArrival false { endedUnloaded outcome h (servoAt a g s) with mg := s.mg.idled } := by
  have start := servoAt_start arrival
  have crossings := takeCrossings_of_no_notices notices
  have moved := motionStage_servoAt idle off
  have examinedAfter (g : Mg) : missStage (endedUnloaded outcome h (servoAt true g s)) =
      withArrival false (endedUnloaded outcome h (servoAt true g s)) :=
    missStage_of_arrival (endedUnloaded_arrival _ _ _)
  have idled (a : Bool) : { endedUnloaded outcome h (servoAt a s.mg.idled s) with mg := s.mg.idled } =
      endedUnloaded outcome h (servoAt a s.mg.idled s) :=
    congrArg (fun g => { endedUnloaded outcome h (servoAt a s.mg.idled s) with mg := g })
      (endedUnloaded_mg outcome h (servoAt a s.mg.idled s)).symm
  have cleared : withArrival false (endedUnloaded outcome h (servoAt false s.mg.idled s)) =
      endedUnloaded outcome h (servoAt false s.mg.idled s) :=
    withArrival_of_arrival (endedUnloaded_arrival _ _ _)
  obtain ⟨crossingsFirst, presentFirst, timerFirst, checks⟩ := o
  unfold servoRun
  cases timerFirst with
  | true =>
    cases presentFirst with
    | true =>
      refine ⟨true, s.mg, ?_⟩
      cases crossingsFirst <;> simp [start, crossings, ends, examinedAfter, motionStage_endedUnloaded idle]
    | false =>
      refine ⟨true, s.mg.idled, ?_⟩
      rw [idled]
      cases crossingsFirst <;> simp [start, crossings, moved, ends, examinedAfter]
  | false =>
    refine ⟨false, s.mg.idled, ?_⟩
    rw [idled, cleared]
    cases presentFirst <;> cases crossingsFirst <;> simp [start, crossings, missStage_servoAt, moved, ends]

theorem andThen_grows {r : Run} {f : State → State} (h : e ∈ r.events) : e ∈ (r.andThen f).events := h

theorem miss_grows {r : Run} (h : e ∈ r.events) : e ∈ r.miss.events := noting_grows lossDelivered h

/-- What the phase timer's stage names is named by the expiry, whatever its place among the stages. -/
theorem mem_events_of_timer (o : ExpiryOrder) (arrival : s.mu.arrival = true) (notices : s.mu.notices = [])
    (idle : GeneratorIdle s) (off : s.cl.run = false)
    (named : ∀ (r : Run) a g, r.state = servoAt a g s → e ∈ (r.timer (contextOf s)).events) :
    e ∈ (expiryRun o s).events := by
  have start := servoAt_start arrival
  have crossings := takeCrossings_of_no_notices notices
  have moved := motionStage_servoAt idle off
  obtain ⟨crossingsFirst, presentFirst, timerFirst, checks⟩ := o
  refine noting_grows intervalReached (checks_grow _ ?_)
  cases timerFirst with
  | true =>
    cases presentFirst with
    | true =>
      simp only [servoRun, Bool.and_true, Bool.not_true, Bool.and_false, Run.whenever_true, Run.whenever_false]
      refine whenever_grows _ (andThen_grows (generator_grows (miss_grows (named _ true s.mg ?_)))) fun _ => andThen_grows
      cases crossingsFirst <;> simp [start, crossings]
    | false =>
      simp only [servoRun, Bool.and_true, Bool.not_true, Bool.not_false, Bool.and_false, Run.whenever_true,
        Run.whenever_false]
      refine miss_grows (named _ true s.mg.idled ?_)
      cases crossingsFirst <;> simp [start, crossings, moved]
  | false =>
    simp only [servoRun, Bool.false_and, Bool.not_false, Run.whenever_true, Run.whenever_false]
    refine named _ false s.mg.idled ?_
    cases presentFirst <;> cases crossingsFirst <;> simp [start, crossings, missStage_servoAt, moved]

/-! ## The whole expiry -/

/-- R104: an expiry whose servo stages end in UNLOADED ends with the counts of the tests and the snapshot interval. -/
theorem exec_periodExpiry_of_unattended (quiet : Undisturbed s) (due : NothingDue s) (servo : (servoRun o s).state = u)
    (still : Unattended u) (slu : u.slu = s.slu) (oi : u.oi = s.oi) :
    ∃ t, exec (.periodExpiry o) s = .next (intervalStage t) ∧ Counted u t := by
  have counted := watchedAll_counted (contextOf s) u (checkOrder o)
  have tests : checked o s (servoRun o s).state = (checkOrder o).foldl (watched (contextOf s)) u := by
    rw [checked, servo]
    exact still.checks _ _
  refine ⟨_, exec_periodExpiry quiet.watching due ?_ (by rw [counted.rest]; exact oi), counted⟩
  rw [tests]
  exact senseChange_of_no_request (by rw [counted.rest]; exact (congrArg Slu.request slu).trans quiet.request)

/-- What an expiry leaves at which the phase timer ends the order in UNLOADED. -/
structure TimedOut (code : Nat) (h : InHand) (s t : State) : Prop where
  transport : t.tsq = s.tsq.ended .unloaded true false
  braked : Braked t
  position : t.mu.p = newP s
  eot : t.mu.eot = s.mu.eot
  record : t.fm.first = s.fm.first
  chain : t.sc = s.sc ∧ t.wk = s.wk
  intake : t.oi = s.oi
  around : SameSurroundings s t
  reports : Reports s t [⟨.orderDone, code, 0, some h.seq, .unloaded⟩]
  snapshot : SnapshotByExpiry s t

/-- The expiry of a LOAD in FILL or an UNLOAD in WIND-OFF, as the phase timer finds it. -/
structure Timed (h : InHand) (s : State) : Prop where
  quiet : Undisturbed s
  due : NothingDue s
  law : OutputLaw s
  room : Room 1 s
  pair : s.mu.arrival = true
  state : s.tsq.state = .loadingFill ∨ s.tsq.state = .unloadingWindOff
  idle : s.mg.phase = .idle
  hand : s.tsq.inHand = some h
  code : h.code = .load ∨ h.code = .unload

/-- R79, R90, R95: what the servo stages and the tests leave of the expiry that times out, behind the snapshot
interval. -/
theorem Timed.timedOut (timed : Timed h s) (a : Bool) (g : Mg)
    (counted : Counted (withArrival false { endedUnloaded outcome h (servoAt a g s) with mg := s.mg.idled }) t) :
    TimedOut outcome.number h s (intervalStage t) := by
  have law : OutputLaw (servoAt a g s) := timed.law.elsewhere rfl rfl rfl rfl
  obtain ⟨transport, braked, position, eot, record, cache, walker, intake, ⟨⟨ptp, ma⟩, slu, mc, freeCount, inputs, pending⟩,
    snapshot⟩ := endedUnloaded_leaves outcome h law
  have said := endedUnloaded_reports outcome h (servoAt a g s)
  have first := counted.first
  rw [counted.rest]
  generalize endedUnloaded outcome h (servoAt a g s) = u at *
  constructor
  case reports =>
    have told : Reports s u [⟨.orderDone, outcome.number, 0, some h.seq, .unloaded⟩] := said.congr rfl rfl rfl
    exact intervalStage_reports (told.with_arrival (a := false) rfl rfl)
  case snapshot => exact intervalStage_snapshot snapshot mc
  all_goals simp only [SameSurroundings, SameBus, SameSetup, Braked, intervalStage_frame]
  case transport => exact transport
  case braked => exact braked
  case position => exact position
  case eot => exact eot
  case record => exact first.trans record
  case chain => exact ⟨cache, walker⟩
  case intake => exact intake
  case around => exact ⟨⟨ptp, ma⟩, slu, mc, freeCount, inputs, pending⟩

/-- R1: the expiry at which the phase timer ends the order, with the event it is named by (log entry 2). -/
theorem Timed.expiry_times_out (timed : Timed h s) (o : ExpiryOrder)
    (ends : ∀ a g, phaseTimer (servoAt a g s) = endUnloaded outcome (servoAt a g s))
    (named : ∀ (r : Run) a g, r.state = servoAt a g s → e ∈ (r.timer (contextOf s)).events) :
    Host.Outcome.next (namedExpiry e o s) = exec (.periodExpiry o) s ∧ ∃ t, exec (.periodExpiry o) s = .next t ∧
      TimedOut outcome.number h s t := by
  have ⟨quiet, due, law, room, pair, state, idle, hand, code⟩ := timed
  have off : s.cl.run = false := by
    rcases state with state | state <;> simp [law.capstan, capstanToRun, state, TState.capstanRuns]
  have idles : GeneratorIdle s := quiet.generatorIdle idle (by rcases state with state | state <;> simp [state])
  have stage (a : Bool) (g : Mg) :
      timerStage (contextOf s) (servoAt a g s) = endedUnloaded outcome h (servoAt a g s) := by
    rw [← endUnloaded_of_room outcome (s := servoAt a g s) hand code room, ← ends a g]
    exact if_pos rfl
  obtain ⟨a, g, servo⟩ := servoRun_of_timeout o pair quiet.notices idles off stage
  obtain ⟨-, -, -, -, -, -, -, intake, ⟨-, slu, -⟩, -⟩ :=
    endedUnloaded_leaves outcome h (s := servoAt a g s) (law.elsewhere rfl rfl rfl rfl)
  have still := endedUnloaded_unattended outcome h (servoAt a g s)
  have kept (t : State) := timed.timedOut (outcome := outcome) (t := t) a g
  generalize endedUnloaded outcome h (servoAt a g s) = u at servo slu intake still kept
  obtain ⟨t, runs, counted⟩ := exec_periodExpiry_of_unattended quiet due servo (still.congr rfl rfl) slu intake
  exact ⟨next_namedExpiry quiet.watching (mem_events_of_timer o pair quiet.notices idles off named), _, runs,
    kept t counted⟩

theorem carrier_isSome_iff (f : Func) (s : State) :
    (carrier f s).isSome = true ↔ ∃ k : Fin 12, (s.slu.lines.get k).func = f := by
  rw [carrier, List.find?_isSome]
  exact ⟨fun ⟨k, _, carried⟩ => ⟨k, by simpa using carried⟩, fun ⟨k, carried⟩ => ⟨k, mem_lineIds k, by simp [carried]⟩⟩

/-- R95: the unload time ends in UNLOAD TIMEOUT where a line could have told the tape's end. -/
theorem unloadTimeOutcome_number (s : State) : (unloadTimeOutcome s).number =
    if ∃ k : Fin 12, (s.slu.lines.get k).func = .tapeInPath then 10 else 0 := by
  simp only [unloadTimeOutcome, carrier_isSome_iff]
  split <;> rfl

/-- Settles O25: the phase timer, which the model puts before the tests (log entry 9), ends the order in UNLOADED, where
no test of the expiry is attended. -/
theorem phaseTimeoutsUnload : Obligations.PhaseTimeoutsUnload := by
  unfold Obligations.PhaseTimeoutsUnload
  refine ⟨?load, ?unload⟩
  case load =>
    intro s o h quiet due law room pair fill idle hand code time
    have reached (a : Bool) (g : Mg) : loadTimesOut (servoAt a g s) = true := by
      change (s.tsq.state == .loadingFill && decide (s.mc.params.loadTimeout * 4000 ≤ s.tsq.timer + 1)) = true
      simp [fill, time]
    have timed : Timed h s := ⟨quiet, due, law, room, pair, .inl fill, idle, hand, .inl code⟩
    obtain ⟨named, t, runs, transport, braked, position, eot, record, ⟨cache, walker⟩, intake, around, reports,
      snapshot⟩ :=
      timed.expiry_times_out (outcome := .loadTimeout) (e := .loadTimeout) o
        (fun a g => by rw [phaseTimer, if_pos (.inl fill), if_pos (reached a g)])
        fun r a g state => loadTimeout_named (by
          rw [state, loadTimeoutComes, reached a g, Bool.and_true]
          exact decide_eq_true rfl)
    exact ⟨t, named.trans runs, runs, transport, braked, position, eot, record, cache, walker, intake, around, reports,
      snapshot⟩
  case unload =>
    intro s o h quiet due law room pair windOff idle hand code time
    have notLoad (a : Bool) (g : Mg) : loadTimesOut (servoAt a g s) = false := by
      change (s.tsq.state == .loadingFill && _) = false
      simp [windOff]
    have reached (a : Bool) (g : Mg) : unloadTimesOut (servoAt a g s) = true := by
      change (s.tsq.state == .unloadingWindOff && decide (s.mc.params.unloadTime * 4000 ≤ s.tsq.timer + 1)) = true
      simp [windOff, time]
    have timed : Timed h s := ⟨quiet, due, law, room, pair, .inr windOff, idle, hand, .inr code⟩
    obtain ⟨named, t, runs, transport, braked, position, -, record, ⟨cache, walker⟩, intake, around, reports,
      snapshot⟩ :=
      timed.expiry_times_out (outcome := unloadTimeOutcome s) (e := .unloadTimeout) o
        (fun a g => by
          rw [phaseTimer, if_pos (.inr windOff), notLoad a g, if_neg (by decide), if_pos (reached a g)]
          rfl)
        fun r a g state => unloadTimeout_named (by
          rw [state, unloadTimeoutComes, notLoad a g, reached a g, Bool.not_false, Bool.and_true, Bool.and_true]
          exact decide_eq_true rfl)
    rw [unloadTimeOutcome_number] at reports
    exact ⟨t, named.trans runs, runs, transport, braked, position, record, cache, walker, intake, around, reports,
      snapshot⟩

end Sys2Proof.Machine
end

section
/-! The words of the Memory Agent's jobs, the reads that a job holds, and the arbiter's grants (R153, R159, R161,
R162): what the model's operations come to in the words of the statements. -/

namespace Sys2Proof.Machine

variable {s t u : State} {acc : Access} {j : Job} {kind : JobKind} {out : List Word}

/-! ## Places in the region (R153, R159) -/

theorem JobKind.writes_eq_isWrite (k : JobKind) : k.writes = k.isWrite := by cases k <;> rfl

theorem JobKind.words_eq_length (k : JobKind) : k.words = (wordsInOrder k).length := by cases k <;> rfl

theorem JobKind.offset_eq (k : JobKind) (i : Nat) : k.offset i = targetOffset k + 4 * i := by cases k <;> rfl

/-- R159: the word at each position of the word order. -/
theorem JobKind.wordAt_eq {k : JobKind} {pos : Nat} (inside : pos < (wordsInOrder k).length) :
    k.wordAt pos = (wordsInOrder k).getD pos 0 := by
  cases k with
  | reportWrite | snapshotWrite | segmentFetch =>
    change pos < 4 at inside
    interval_cases pos <;> rfl
  | orderFetch =>
    change pos < 8 at inside
    interval_cases pos <;> rfl

theorem Job.access_eq_agentAccess (inside : InProgress j) (s : State) : j.access s = agentAccess j s := by
  simp only [Job.access, agentAccess, JobKind.wordAt_eq inside, JobKind.writes_eq_isWrite, JobKind.offset_eq]
  rfl

theorem regionOffset_eq_some_iff {a : BusAddr} {off : Nat} (inside : off ≤ 0x1FFC) :
    regionOffset s a = some off ↔ a.toNat / 4 * 4 = s.mc.straps.region.toNat * 0x100000 + off := by
  unfold regionOffset regionBase wordAddr
  dsimp only
  split
  · simp only [Option.some.injEq]
    omega
  · simp only [reduceCtorEq, false_iff]
    omega

/-! ## Read holds (R162) -/

theorem mem_protectedWords_iff {k : JobKind} {off : Nat} :
    off ∈ protectedWords k ↔ k.writes = true ∧ ∃ i < 4, k.offset i = off := by
  cases k <;> simp [protectedWords, JobKind.writes, JobKind.offset, reportOffset, snapshotOffset]

theorem writes_offset_le {k : JobKind} {i : Nat} (writes : k.writes = true) (inside : i < 4) :
    k.offset i ≤ 0x1FFC := by
  cases k with
  | reportWrite slot =>
    have := slot.isLt
    simp only [JobKind.offset, reportOffset]
    omega
  | snapshotWrite =>
    simp only [JobKind.offset, snapshotOffset]
    omega
  | orderFetch | segmentFetch => cases writes

theorem protectedBy_iff :
    protectedBy j acc s = true ↔ acc.write = false ∧ ∃ off ∈ protectedWords j.kind, AtOffset acc off s := by
  simp only [protectedBy, Bool.and_eq_true, Bool.not_eq_true', List.any_eq_true, List.mem_range, beq_iff_eq, AtOffset,
    mem_protectedWords_iff, and_assoc]
  constructor
  · rintro ⟨read, writes, i, inside, at_⟩
    exact ⟨read, _, writes, ⟨i, inside, rfl⟩, (regionOffset_eq_some_iff (writes_offset_le writes inside)).mp at_⟩
  · rintro ⟨read, _, writes, ⟨i, inside, rfl⟩, at_⟩
    exact ⟨read, writes, i, inside, (regionOffset_eq_some_iff (writes_offset_le writes inside)).mpr at_⟩

/-- R162: the test of a hold is the statements' one. -/
theorem isHeld_iff : isHeld acc s = true ↔ ReadsProtected acc s := by
  unfold isHeld ReadsProtected
  cases s.ma.job with
  | none => simp
  | some j => exact protectedBy_iff

/-- What a read asks for depends on the straps and on the kind of the job in progress alone. -/
theorem readsProtected_congr (mc : t.mc = u.mc) (job : t.ma.job.map Job.kind = u.ma.job.map Job.kind) :
    ReadsProtected acc t ↔ ReadsProtected acc u := by
  unfold ReadsProtected AtOffset
  rw [mc]
  cases ht : t.ma.job <;> cases hu : u.ma.job <;> simp_all

/-! ## The arbiter (R161) -/

theorem waitingU_of_waiting (h : s.ptp.u = some (acc, .waiting)) : waitingU s = some acc := by simp [waitingU, h]

theorem waitingU_eq_none (h : ∀ acc, s.ptp.u ≠ some (acc, .waiting)) : waitingU s = none := by
  unfold waitingU
  split
  case h_1 acc e => exact absurd e (h acc)
  all_goals rfl

theorem waitingAgent_of_waiting (job : s.ma.job = some j) (waits : j.waiting = true) : waitingAgent s = some j := by
  simp [waitingAgent, job, waits]

theorem waitingAgent_of_idle (idle : s.ma.job = none) : waitingAgent s = none := by simp [waitingAgent, idle]

/-- R161: a word of the agent that waits alone is granted. -/
theorem arbitrate_of_agent (free : s.ptp.mSide = .free) (job : s.ma.job = some j) (waits : j.waiting = true)
    (alone : ∀ acc, s.ptp.u ≠ some (acc, .waiting)) : arbitrate s = grantAgent j s := by
  simp [arbitrate, free, waitingU_eq_none alone, waitingAgent_of_waiting job waits]

/-- R161: a word of the agent and an access of the U-side wait: the guard count chooses. -/
theorem arbitrate_of_both (free : s.ptp.mSide = .free) (job : s.ma.job = some j) (waits : j.waiting = true)
    (access : s.ptp.u = some (acc, .waiting)) :
    arbitrate s = if s.ptp.guard < 4 then grantU acc true s else grantAgent j s := by
  unfold arbitrate
  rw [if_pos free, waitingU_of_waiting access, waitingAgent_of_waiting job waits]
  rfl

/-- R161: a word of the agent that waits is granted where no access waits beside it, and where the guard count is
reached. -/
theorem arbitrate_yields (free : s.ptp.mSide = .free) (job : s.ma.job = some j) (waits : j.waiting = true)
    (guarded : ∀ acc, s.ptp.u = some (acc, .waiting) → 4 ≤ s.ptp.guard) : arbitrate s = grantAgent j s := by
  by_cases access : ∃ acc, s.ptp.u = some (acc, .waiting)
  · obtain ⟨acc, access⟩ := access
    rw [arbitrate_of_both free job waits access, if_neg (Nat.not_lt.mpr (guarded acc access))]
  · exact arbitrate_of_agent free job waits fun acc e => access ⟨acc, e⟩

/-- R161: with the agent IDLE, the access that waits is granted. -/
theorem arbitrate_of_idle (free : s.ptp.mSide = .free) (idle : s.ma.job = none) :
    arbitrate s = { s with
      ptp := match s.ptp.u with
        | some (acc, .waiting) =>
          { s.ptp with u := some (acc, .granted), mSide := .forwarded acc s.mc.params.memTimeout }
        | _ => s.ptp } := by
  unfold arbitrate
  rw [if_pos free, waitingAgent_of_idle idle]
  match h : s.ptp.u with
  | some (acc, .waiting) => simp [waitingU, h, grantU, State.onPtp]
  | some (_, .held) | some (_, .granted) | none => simp [waitingU, h]

/-- One grant is made at a time. -/
theorem arbitrate_arbitrate (s : State) : arbitrate (arbitrate s) = arbitrate s := by
  by_cases free : s.ptp.mSide = .free
  · rcases arbitrate_of_free free with ⟨-, -, e⟩ | ⟨acc, -, -, e⟩ | ⟨j, -, -, e⟩ | ⟨acc, j, -, -, e⟩
    · rw [e, e]
    · rw [e, arbitrate_of_busy (by simp [grantU])]
    · rw [e, arbitrate_of_busy (by simp [grantAgent])]
    · rw [e]
      split
      · exact arbitrate_of_busy (by simp [grantU])
      · exact arbitrate_of_busy (by simp [grantAgent])
  · rw [arbitrate_of_busy free, arbitrate_of_busy free]

/-! ## A job begins (R159, R161, R162) -/

/-- R162: what a job's start makes of the U-side: a waiting read of the job's words is held. -/
def heldU (s : State) : Option (Access × UPhase) :=
  match s.ptp.u with
  | some (acc, .waiting) => some (acc, if ReadsProtected acc s then .held else .waiting)
  | u => u

theorem holdWaiting_eq (s : State) : holdWaiting s = { s with ptp := { s.ptp with u := heldU s } } := by
  unfold holdWaiting heldU
  match h : s.ptp.u with
  | some (acc, .waiting) =>
    by_cases protect : ReadsProtected acc s
    · simp only [isHeld_iff.mpr protect, if_true, if_pos protect]
      rfl
    · have free : isHeld acc s = false := by rw [← Bool.not_eq_true, isHeld_iff]; exact protect
      simp only [free, if_neg protect, Bool.false_eq_true, if_false, ← h]
  | some (_, .held) | some (_, .granted) | none => simp only [← h]

theorem heldU_of_protected (protect : ∀ acc, s.ptp.u = some (acc, .waiting) → ReadsProtected acc s) :
    (∀ acc, heldU s ≠ some (acc, .waiting)) ∧
      heldU s = match s.ptp.u with
        | some (acc, .waiting) => some (acc, .held)
        | u => u := by
  unfold heldU
  match h : s.ptp.u with
  | some (acc, .waiting) =>
    have held : (if ReadsProtected acc s then UPhase.held else .waiting) = .held := if_pos (protect acc h)
    exact ⟨fun acc' => by simp [held], congrArg (fun phase => some (acc, phase)) held⟩
  | some (_, .held) | some (_, .granted) | none => exact ⟨nofun, rfl⟩

theorem heldU_of_unprotected (waits : s.ptp.u = some (acc, .waiting)) (read : ¬ ReadsProtected acc s) :
    heldU s = some (acc, .waiting) := by simp only [heldU, waits, if_neg read]

/-- The agent with a job whose first word waits, before the hold and the grant. -/
def jobPut (kind : JobKind) (out : List Word) (s : State) : State :=
  { s with ma := ⟨some ⟨kind, 0, true, out, []⟩⟩ }

theorem startJob_eq (kind : JobKind) (out : List Word) (s : State) :
    startJob kind out s = arbitrate (holdWaiting (jobPut kind out s)) := rfl

/-- A grant leaves the job in progress of its kind. -/
theorem arbitrate_job_kind (s : State) : (arbitrate s).ma.job.map Job.kind = s.ma.job.map Job.kind := by
  have granted {j : Job} (waits : waitingAgent s = some j) :
      (grantAgent j s).ma.job.map Job.kind = s.ma.job.map Job.kind := by
    have job : s.ma.job = some j := (Option.filter_eq_some_iff.mp waits).1
    simp [grantAgent, job]
  by_cases free : s.ptp.mSide = .free
  · rcases arbitrate_of_free free with ⟨-, -, e⟩ | ⟨acc, -, -, e⟩ | ⟨j, -, waits, e⟩ | ⟨acc, j, -, waits, e⟩
    · rw [e]
    · rw [e]
      simp
    · rw [e, granted waits]
    · rw [e]
      split
      · simp
      · exact granted waits
  · rw [arbitrate_of_busy free]

/-- R162: a job's start holds the reads of the words that the job writes, and the grant changes none of them. -/
theorem readsProtected_granted : ReadsProtected acc (arbitrate (holdWaiting s)) ↔ ReadsProtected acc s :=
  readsProtected_congr (by simp) (by rw [arbitrate_job_kind, holdWaiting_eq])

/-- The access of a job's word does not depend on whether the word waits. -/
theorem agentAccess_congr (mc : t.mc = u.mc) (j : Job) (waiting : Bool) :
    agentAccess { j with waiting := waiting } t = agentAccess j u := by
  simp only [agentAccess, wordAt, mc]

/-- The grant of a word in progress, in the words of the statements. -/
theorem grantAgent_eq (inside : InProgress j) (s : State) : grantAgent j s = { s with
    ptp := { s.ptp with mSide := .agent (agentAccess j s) s.mc.params.memTimeout, guard := 0 }
    ma := ⟨some { j with waiting := false }⟩ } := by
  rw [grantAgent, Job.access_eq_agentAccess inside]
  rfl

theorem first_inProgress (kind : JobKind) (waiting : Bool) (out : List Word) :
    InProgress ⟨kind, 0, waiting, out, []⟩ := by cases kind <;> exact Nat.succ_pos _

/-- R159, R161, R162: with this port and these parameters, the hold and the grant begin the job that has been put. -/
theorem granted_begins {put : State} (port : put.ptp = s.ptp) (setup : put.mc = s.mc)
    (job : put.ma = ⟨some ⟨kind, 0, true, out, []⟩⟩) : JobBegins kind out s (arbitrate (holdWaiting put)) := by
  have reads (acc : Access) : ReadsProtected acc (arbitrate (holdWaiting put)) ↔ ReadsProtected acc put :=
    readsProtected_granted
  have first := first_inProgress kind true out
  have access : agentAccess ⟨kind, 0, true, out, []⟩ { put with ptp := { s.ptp with u := heldU put } } =
      agentAccess ⟨kind, 0, false, out, []⟩ s := agentAccess_congr setup ⟨kind, 0, false, out, []⟩ true
  have start := holdWaiting_eq put
  rw [port] at start
  rw [start] at reads ⊢
  constructor
  case busy =>
    intro busy
    have waits := arbitrate_of_busy (s := { put with ptp := { s.ptp with u := heldU put } }) busy
    rw [waits] at reads ⊢
    simp only [reads, ← port]
    exact ⟨job, rfl⟩
  case alone =>
    intro free protect
    simp only [reads] at protect
    rw [← port] at protect
    obtain ⟨alone, held⟩ := heldU_of_protected protect
    rw [arbitrate_of_agent (s := { put with ptp := { s.ptp with u := heldU put } }) free (by rw [job]) rfl alone,
      grantAgent_eq first, access]
    refine ⟨rfl, ?_⟩
    rw [port] at held
    simp only [setup]
    exact congrArg (fun access => ({ s.ptp with u := access, mSide := _, guard := 0 } : Ptp)) held
  case passed =>
    intro acc free waits read guard
    rw [reads] at read
    have passes : heldU put = some (acc, .waiting) := heldU_of_unprotected (by rw [port, waits]) read
    rw [arbitrate_of_both (s := { put with ptp := { s.ptp with u := heldU put } }) free (by rw [job]) rfl passes,
      if_pos (by exact guard)]
    exact ⟨job, by simp [grantU, setup]⟩
  case guarded =>
    intro acc free waits read guard
    rw [reads] at read
    have passes : heldU put = some (acc, .waiting) := heldU_of_unprotected (by rw [port, waits]) read
    rw [arbitrate_yields (s := { put with ptp := { s.ptp with u := heldU put } }) free (by rw [job]) rfl
      fun _ _ => guard, grantAgent_eq first, access]
    exact ⟨rfl, by simp only [setup, passes, waits]⟩

/-- R159, R161, R162: a start from a state with this port and these parameters begins the job. -/
theorem startJob_begins (ptp : u.ptp = s.ptp) (mc : u.mc = s.mc) (kind : JobKind) (out : List Word) :
    JobBegins kind out s (startJob kind out u) := granted_begins (put := jobPut kind out u) ptp mc rfl

end Sys2Proof.Machine
end

section
/-! The starts of the four jobs (R139, R160, R170, R177), and the statement about them. -/

namespace Sys2Proof.Machine

variable {s t : State} {k : AgentJob}

/-! ## Readiness (R160) -/

theorem agentIdle_iff : agentIdle s = true ↔ s.ma.job = none := by simp [agentIdle]

theorem reportReady_iff : reportReady s = true ↔ ReportReady s := by
  rw [reportReady, Bool.and_eq_true, decide_eq_true_iff, Bool.not_eq_true', List.isEmpty_eq_false_iff]
  rfl

theorem orderFetchReady_iff : orderFetchReady s = true ↔ OrderReady s := by
  unfold orderFetchReady OrderReady
  cases s.oi.fetch <;> simp

theorem segmentFetchReady_iff : segmentFetchReady s = true ↔ SegmentReady s := by
  simp [segmentFetchReady, SegmentReady]

theorem snapshotReady_iff : snapshotReady s = true ↔ s.ru.snapDue = true := Iff.rfl

/-- R160: the job of this name can start, as the statements say it. -/
theorem canStart_iff : (agentIdle s && jobReady k s) = true ↔ CanStart k s := by
  rw [Bool.and_eq_true, agentIdle_iff, CanStart]
  cases k <;> simp [jobReady, reportReady_iff, orderFetchReady_iff, segmentFetchReady_iff, snapshotReady_iff]

theorem not_canStart (h : s.ma.job ≠ none ∨ jobReady k s = false) : ¬ CanStart k s := by
  rw [← canStart_iff, Bool.and_eq_true, agentIdle_iff]
  rintro ⟨idle, ready⟩
  rcases h with busy | notReady
  · exact busy idle
  · simp [notReady] at ready

/-! ## The commands that start a job (log entry 5) -/

theorem exec_start_of_canStart (can : CanStart k s) : exec (startCommand k) s = .next (beginJob k s) := by
  rw [exec_startCommand, takeStart_eq, if_pos (canStart_iff.mpr can)]

theorem exec_start_of_kept (keeps : KeepsStarts s) (cannot : ¬ CanStart k s) :
    exec (startCommand k) s =
      .next { s with ptp := { s.ptp with starting := match s.ptp.starting with
        | none => some k
        | some first => some first } } := by
  rw [exec_startCommand, takeStart_eq, if_neg (mt canStart_iff.mp cannot), if_pos ((awaitsWriteEnd_iff s).mpr keeps)]
  cases kept : s.ptp.starting <;> simp only [State.onPtp, kept] <;> rfl

theorem exec_start_of_neither (keeps : ¬ KeepsStarts s) (cannot : ¬ CanStart k s) :
    exec (startCommand k) s = .next s := by
  rw [exec_startCommand, takeStart_eq, if_neg (mt canStart_iff.mp cannot), if_neg (mt (awaitsWriteEnd_iff s).mp keeps)]

/-! ## What the owner hands over (R61, R139, R170, R177) -/

theorem startReportWrite_eq {r : Report} {rest : List Report} (pending : s.ru.pendingReports = r :: rest) :
    startReportWrite s =
      startJob (.reportWrite (slotOf s.ru.writeIdx) r s.ru.nextSeq s.ru.loss) (reportWords r s.ru.nextSeq s.ru.loss)
        { s with ru := { s.ru with pendingReports := rest, loss := 0 } } := by
  unfold startReportWrite
  rw [pending]
  rfl

theorem startOrderFetch_eq {i : Fin 64} (ordered : s.oi.fetch = .ordered i) :
    startOrderFetch s =
      startJob (.orderFetch i) [] { s with oi := { s.oi with fetch := .inFlight i false false } } := by
  unfold startOrderFetch
  rw [ordered]
  rfl

theorem startSegmentFetch_eq {i : Fin 32} {rest : List (Fin 32)} (list : s.sc.fetchList = i :: rest) :
    startSegmentFetch s =
      startJob (.segmentFetch i) [] { s with sc := { s.sc with fetchList := rest, inFlight := some ⟨i, .none⟩ } } := by
  unfold startSegmentFetch
  rw [list]
  rfl

theorem startSnapshotWrite_eq (s : State) :
    startSnapshotWrite s =
      startJob .snapshotWrite (snapshotWords s) { s with ru := { s.ru with snapDue := false, snapCounter := 0 } } := rfl

/-- A start changes the port and the agent alone. -/
theorem startJob_eq_ma_ptp (kind : JobKind) (out : List Word) (s : State) :
    startJob kind out s = { s with ma := (startJob kind out s).ma, ptp := (startJob kind out s).ptp } := by
  have frame := startJob_frame s kind out
  generalize startJob kind out s = t at *
  cases t
  cases s
  simp_all

/-- R160, R161: the command of a job that can start begins it, with what the owner hands over in u. -/
theorem start_begins {u : State} {kind : JobKind} {out : List Word} (can : CanStart k s)
    (begins : beginJob k s = startJob kind out u) (ptp : u.ptp = s.ptp) (mc : u.mc = s.mc) :
    ∃ t, exec (startCommand k) s = .next t ∧ t = { u with ma := t.ma, ptp := t.ptp } ∧ JobBegins kind out s t :=
  ⟨startJob kind out u, by rw [exec_start_of_canStart can, begins], startJob_eq_ma_ptp kind out u,
    startJob_begins ptp mc kind out⟩

/-! ## The statement -/

/-- Settles O56: a job that can start begins (`start_begins`); any other start is kept or has no effect. -/
theorem jobsStartInOrder : Obligations.JobsStartInOrder := by
  refine ⟨?report, ?order, ?segment, ?snapshot, ?noReport, ?noOrder, ?noSegment, ?noSnapshot, fun s k keeps cannot =>
    exec_start_of_kept keeps cannot⟩
  case report =>
    intro s r rest idle pending room
    have can : CanStart .reportWrite s := ⟨idle, fun _ => ⟨by simp [pending], room⟩, nofun, nofun, nofun⟩
    exact start_begins can (startReportWrite_eq pending) rfl rfl
  case order =>
    intro s i idle ordered
    have can : CanStart .orderFetch s := ⟨idle, nofun, fun _ => ⟨i, ordered⟩, nofun, nofun⟩
    exact start_begins can (startOrderFetch_eq ordered) rfl rfl
  case segment =>
    intro s i rest idle list inFlight
    have can : CanStart .segmentFetch s := ⟨idle, nofun, nofun, fun _ => ⟨by simp [list], inFlight⟩, nofun⟩
    exact start_begins can (startSegmentFetch_eq list) rfl rfl
  case snapshot =>
    intro s idle due
    have can : CanStart .snapshotWrite s := ⟨idle, nofun, nofun, nofun, fun _ => due⟩
    exact start_begins can (startSnapshotWrite_eq s) rfl rfl
  case noReport =>
    exact fun s cannot keeps => exec_start_of_neither keeps
      (not_canStart (k := .reportWrite)
        (cannot.imp_right fun no => Bool.eq_false_iff.mpr (mt reportReady_iff.mp no)))
  case noOrder =>
    exact fun s cannot keeps => exec_start_of_neither keeps
      (not_canStart (k := .orderFetch)
        (cannot.imp_right fun no => Bool.eq_false_iff.mpr (mt orderFetchReady_iff.mp no)))
  case noSegment =>
    exact fun s cannot keeps => exec_start_of_neither keeps
      (not_canStart (k := .segmentFetch)
        (cannot.imp_right fun no => Bool.eq_false_iff.mpr (mt segmentFetchReady_iff.mp no)))
  case noSnapshot =>
    exact fun s cannot keeps => exec_start_of_neither keeps (not_canStart (k := .snapshotWrite) cannot)

end Sys2Proof.Machine
end

section
/-! The Memory Agent's choice at the end of a job (R160 to R162), the bus through the take of the queue head, and the
ends of the agent's words (R159, R164). -/

namespace Sys2Proof.Machine

variable {s t : State} {k : AgentJob} {j : Job} {acc a : Access} {n : Nat} {data : Word}

/-! ## The choice (R160) -/

/-- A start has made its grant: a second one finds nothing to do. -/
theorem arbitrate_beginJob (ready : jobReady k s = true) : arbitrate (beginJob k s) = beginJob k s := by
  have started (kind : JobKind) (out : List Word) (u : State) :
      arbitrate (startJob kind out u) = startJob kind out u := by
    rw [startJob_eq, arbitrate_arbitrate]
  cases k with
  | reportWrite =>
    obtain ⟨some_pending, -⟩ := reportReady_iff.mp ready
    obtain ⟨r, rest, pending⟩ := List.exists_cons_of_ne_nil some_pending
    rw [beginJob, startReportWrite_eq pending, started]
  | orderFetch =>
    obtain ⟨i, ordered⟩ := orderFetchReady_iff.mp ready
    rw [beginJob, startOrderFetch_eq ordered, started]
  | segmentFetch =>
    obtain ⟨some_listed, -⟩ := segmentFetchReady_iff.mp ready
    obtain ⟨i, rest, list⟩ := List.exists_cons_of_ne_nil some_listed
    rw [beginJob, startSegmentFetch_eq list, started]
  | snapshotWrite => rw [beginJob, startSnapshotWrite_eq, started]

/-- R160: where the choice begins this job, the step answers as the job's start does. -/
theorem chosen_eq_start (can : CanStart k s) (chosen : chooseJob s = beginJob k s) :
    (.next (arbitrate (chooseJob s)) : Host.Outcome State Fault Refusal) = exec (startCommand k) s := by
  have ready : jobReady k s = true := (Bool.and_eq_true_iff.mp (canStart_iff.mpr can)).2
  rw [chosen, arbitrate_beginJob ready, exec_start_of_canStart can]

/-- R160, R161: the choice and the grant of an agent that is IDLE with the M-side FREE. -/
theorem thenChooses (idle : s.ma.job = none) (free : s.ptp.mSide = .free) :
    ThenChooses (.next (arbitrate (chooseJob s))) s := by
  have choice := chooseJob_of_idle (agentIdle_iff.mpr idle)
  simp only [reportReady_iff, orderFetchReady_iff, segmentFetchReady_iff, snapshotReady_iff] at choice
  constructor
  case completes => exact ⟨_, rfl⟩
  case report =>
    intro report
    rw [if_pos report] at choice
    exact chosen_eq_start (k := .reportWrite) ⟨idle, fun _ => report, nofun, nofun, nofun⟩ choice
  case order =>
    intro noReport order
    rw [if_neg noReport, if_pos order] at choice
    exact chosen_eq_start (k := .orderFetch) ⟨idle, nofun, fun _ => order, nofun, nofun⟩ choice
  case segment =>
    intro noReport noOrder segment
    rw [if_neg noReport, if_neg noOrder, if_pos segment] at choice
    exact chosen_eq_start (k := .segmentFetch) ⟨idle, nofun, nofun, fun _ => segment, nofun⟩ choice
  case snapshot =>
    intro noReport noOrder noSegment due
    rw [if_neg noReport, if_neg noOrder, if_neg noSegment, if_pos due] at choice
    exact chosen_eq_start (k := .snapshotWrite) ⟨idle, nofun, nofun, nofun, fun _ => due⟩ choice
  case none =>
    intro noReport noOrder noSegment notDue
    rw [if_neg noReport, if_neg noOrder, if_neg noSegment, if_neg (by simp [notDue])] at choice
    rw [choice]
    exact congrArg _ (arbitrate_of_idle free idle)

/-! ## The bus through the take of the head (R76) -/

theorem SameBus.ite {u : State} {c : Prop} [Decidable c] (h : SameBus s t) (h' : SameBus s u) :
    SameBus s (if c then t else u) := by
  split
  · exact h
  · exact h'

theorem SameBus.trans {u : State} (h : SameBus s t) (h' : SameBus t u) : SameBus s u :=
  ⟨h'.1.trans h.1, h'.2.trans h.2⟩

theorem applySetup_bus (r : Record) (s : State) : SameBus s (applySetup r s) := by
  obtain ⟨seq, code, body⟩ := r
  cases code with
  | setColumns => exact SameBus.ite (by simp [SameBus]) (by simp [SameBus, refuse])
  | setSenseLine =>
    change SameBus s (takeSenseLine _ s)
    unfold takeSenseLine
    dsimp only
    split <;> simp [SameBus, refuse]
  | _ => simp [SameBus, applySetup]

theorem doneAtTake_bus (o : OrderOutcome) (value : Int) (seq : Byte) (s : State) :
    SameBus s (doneAtTake o value seq s) := by
  simp [SameBus, doneAtTake]

theorem refuse_bus (reason : Reason) (value : Int) (seq : Byte) (s : State) :
    SameBus s (refuse reason value seq s) := by
  simp [SameBus, refuse]

theorem takeClearFault_bus (r : Record) (s : State) : SameBus s (takeClearFault r s) := by
  unfold takeClearFault
  split
  · exact refuse_bus _ _ _ _
  · refine SameBus.trans ?_ (doneAtTake_bus _ _ _ _)
    exact SameBus.ite (by simp [SameBus]) (by simp [SameBus])

theorem carryOut_bus (r : Record) (s : State) : SameBus s (carryOut r s) := by
  obtain ⟨seq, code, body⟩ := r
  cases code with
  | load =>
    exact (refuse_bus _ _ _ _).ite ((refuse_bus _ _ _ _).ite
      (by simp [SameBus, takeInHand, forgetCircumferences, dropReferenced]))
  | unload =>
    exact SameBus.ite (by simp [SameBus, takeUnloadFault, doneAtTake, dropReferenced])
      (SameBus.ite (by simp [SameBus, takeInHand]) (by simp [SameBus, takeInHand]))
  | rewind => exact SameBus.ite (by simp [SameBus, takeInHand]) (by simp [SameBus, takeInHand])
  | runChain => exact (refuse_bus _ _ _ _).ite (by simp [SameBus, takeInHand])
  | space => exact (doneAtTake_bus _ _ _ _).ite (by simp [SameBus, takeInHand])
  | marker => exact doneAtTake_bus _ _ _ _
  | clearFault => exact takeClearFault_bus _ s
  | returnToSetup => exact doneAtTake_bus _ _ _ (s.onMc _)
  | transportReset =>
    simp [SameBus, carryOut, takeTransportReset, doneAtTake, dropReferenced, dropWriteEnable]
  | _ => exact ⟨rfl, rfl⟩

theorem takeHead_bus (r : Record) (s : State) : SameBus s (takeHead r s) :=
  ((applySetup_bus r s).ite (refuse_bus _ _ _ s)).ite
    (((doneAtTake_bus _ _ _ s).ite (refuse_bus _ _ _ s)).ite ((carryOut_bus r s).ite (refuse_bus _ _ _ s)))

theorem serveHead_bus (n : Nat) (s : State) : SameBus s (serveHead n s) := by
  induction n generalizing s with
  | zero => exact ⟨rfl, rfl⟩
  | succ n ih =>
    unfold serveHead
    split
    · exact ⟨rfl, rfl⟩
    · exact (SameBus.trans (takeHead_bus _ (popHead _ s)) (ih _)).ite ⟨rfl, rfl⟩

/-- What closes a step leaves the port and the agent alone. -/
theorem conclude_bus (s : State) : SameBus s (conclude s) :=
  (serveHead_bus _ s).trans (SameBus.ite ⟨rfl, rfl⟩ ⟨rfl, rfl⟩)

/-! ## The ends of the agent's words (R159, R162, R164) -/

/-- The agent is IDLE, the M-side FREE, and the read that the job held waits. -/
def jobEnded (s : State) : State :=
  { s with ma := ⟨none⟩, ptp := { s.ptp with mSide := .free, u := releasedU s.ptp.u } }

theorem jobEnded_eq (s : State) : releaseHold (agentToIdle (freeMSide s)) = jobEnded s := releaseHold_eq _

/-- The words a job has read once its word in progress is answered. -/
def Job.read (j : Job) (data : Word) : List Word := if j.kind.isWrite then j.got else j.got ++ [data]

/-- The job with its next word waiting. -/
def Job.next (j : Job) (data : Word) : Job := { j with pos := j.pos + 1, waiting := true, got := j.read data }

theorem agentAnswered_of_more (more : j.pos + 1 < (wordsInOrder j.kind).length) (data : Word) (s : State) :
    agentAnswered j data s = { s with ma := ⟨some (j.next data)⟩ } := by
  rw [agentAnswered, JobKind.words_eq_length, JobKind.writes_eq_isWrite]
  exact if_pos more

theorem agentAnswered_of_last (last : (wordsInOrder j.kind).length ≤ j.pos + 1) (data : Word) (s : State) :
    agentAnswered j data (freeMSide s) = jobComplete j.kind (j.read data) (jobEnded s) := by
  rw [agentAnswered, JobKind.words_eq_length, JobKind.writes_eq_isWrite, ← jobEnded_eq]
  exact if_neg (Nat.not_lt.mpr last)

theorem nothingDue_congr (oi : t.oi = s.oi) (due : NothingDue s) : NothingDue t := by
  obtain ⟨empty, none_due⟩ := due
  refine ⟨by rw [oi, empty], ?_⟩
  simpa [fetchDue, readyFlag, expectedSlot, oi] using none_due

/-- What an owner is told leaves nothing due where Order Intake is as it was. -/
theorem conclude_told (due : NothingDue s) (told : t.oi = s.oi) : conclude t = t :=
  conclude_of_nothingDue (nothingDue_congr told due)

/-- The job's word in progress has been answered, and its next word waits. -/
def nextWaits (j : Job) (data : Word) (s : State) : State :=
  { s with ma := ⟨some (j.next data)⟩, ptp := { s.ptp with mSide := .free } }

/-- R159: the next word of a job waits for the arbiter. -/
theorem exec_agentWordEnd_of_more (mSide : s.ptp.mSide = .agent a n) (job : s.ma.job = some j)
    (more : j.pos + 1 < (wordsInOrder j.kind).length) (due : NothingDue s) :
    exec (.agentWordEnd data) s = .next (arbitrate (nextWaits j data s)) := by
  have quiet : NothingDue { freeMSide s with ma := ⟨some (j.next data)⟩ } := nothingDue_congr (s := s) rfl due
  change Host.Outcome.next (endAgentWord (fun j => agentAnswered j data) s) = _
  rw [endAgentWord_of_job _ mSide job, agentAnswered_of_more more, conclude_of_nothingDue quiet, chooseJob_of_busy rfl]
  rfl

/-- R160 to R162: after the last word of a job its owner is told; then the agent chooses. -/
theorem agentWordEnd_chooses (mSide : s.ptp.mSide = .agent a n) (job : s.ma.job = some j)
    (last : (wordsInOrder j.kind).length ≤ j.pos + 1) :
    ThenChooses (exec (.agentWordEnd data) s) (conclude (jobComplete j.kind (j.read data) (jobEnded s))) := by
  have bus : SameBus (jobEnded s) (conclude (jobComplete j.kind (j.read data) (jobEnded s))) :=
    SameBus.trans ⟨by simp, by simp⟩ (conclude_bus _)
  have answer : exec (.agentWordEnd data) s =
      .next (arbitrate (chooseJob (conclude (jobComplete j.kind (j.read data) (jobEnded s))))) := by
    change Host.Outcome.next (endAgentWord (fun j => agentAnswered j data) s) = _
    rw [endAgentWord_of_job _ mSide job, agentAnswered_of_last last]
  rw [answer]
  exact thenChooses (by rw [bus.2]; rfl) (by rw [bus.1]; rfl)

/-- R160 to R162, R164: after an abandoned job its owner is told; then the agent chooses. -/
theorem agentWordTimeout_chooses (mSide : s.ptp.mSide = .agent a n) (job : s.ma.job = some j) :
    ThenChooses (exec .agentWordTimeout s) (conclude (jobFailed j.kind (jobEnded s))) := by
  have bus : SameBus (jobEnded s) (conclude (jobFailed j.kind (jobEnded s))) :=
    SameBus.trans ⟨by simp, by simp⟩ (conclude_bus _)
  have answer : exec .agentWordTimeout s =
      .next (arbitrate (chooseJob (conclude (jobFailed j.kind (jobEnded s))))) := by
    change Host.Outcome.next (endAgentWord agentTimedOut s) = _
    rw [endAgentWord_of_job _ mSide job, agentTimedOut, jobEnded_eq]
  rw [answer]
  exact thenChooses (by rw [bus.2]; rfl) (by rw [bus.1]; rfl)

end Sys2Proof.Machine
end

section
/-! The end of an ORDER FETCH (R140 to R142) and what follows from it in Order Intake (R76, R139). -/

namespace Sys2Proof.Machine

variable {s t u : State} {b : Body} {post : Word} {i : Fin 64} {reseen cancelled : Bool} {queue : List Record}

/-! ## Only Order Intake and the Report Unit change -/

/-- Between s and t only Order Intake and the Report Unit have changed. -/
def IntakeOnly (s t : State) : Prop := t = { s with oi := t.oi, ru := t.ru }

theorem IntakeOnly.trans (h : IntakeOnly s t) (h' : IntakeOnly t u) : IntakeOnly s u := by
  unfold IntakeOnly at *
  rw [h', h]

theorem IntakeOnly.onOi (h : IntakeOnly s t) (f : Oi → Oi) : IntakeOnly s (t.onOi f) := h.trans rfl

/-- R169: a refusal is a ROUTINE report that carries no sense line, so that it leaves the lines alone even where it is
dropped. -/
theorem refuse_intakeOnly (reason : Reason) (value : Int) (seq : Byte) (s : State) :
    IntakeOnly s (refuse reason value seq s) := by
  unfold IntakeOnly refuse generate enterPending dropReport
  simp only [maskPasses_of_unmasked _ (.inr (.inl rfl)), if_true, makeReport, ReportKind.urgent, Bool.false_eq_true,
    if_false, reduceCtorEq]
  split <;> rfl

theorem orderFetchTest_intakeOnly (s : State) : IntakeOnly s (orderFetchTest s) := by
  unfold orderFetchTest
  split
  · exact rfl
  · exact rfl

/-! ## What closes the step (R76, R139) -/

/-- Behind an order in hand, and with no record in the queue, only the test of R139 closes the step. -/
theorem conclude_of_wait (waits : s.oi.queue = [] ∨ s.tsq.inHand.isSome = true) : conclude s = orderFetchTest s := by
  rcases waits with empty | hand
  · rw [conclude, serveHead_of_empty _ empty]
  · rw [conclude, serveHead_of_wait]
    simp [headMayBeTaken, Option.isNone_eq_false_iff.mpr hand]

/-- R139: the fetch record after the test, where it was NONE. -/
theorem orderFetchTest_of_none (none : s.oi.fetch = .none) :
    (orderFetchTest s).oi = { s.oi with
      fetch := if s.oi.queue.length < 8 then nextFetch s.oi.expected s.oi.ready else .none } := by
  have due : fetchDue s = (decide (s.oi.queue.length < 8) && s.oi.ready.getLsbD (seqSlot s.oi.expected).val) := by
    simp only [fetchDue, none, decide_true, Bool.true_and]
    rfl
  simp only [orderFetchTest, nextFetch, due, Bool.and_eq_true, decide_eq_true_eq]
  by_cases space : s.oi.queue.length < 8
  · rw [if_pos space]
    by_cases ready : s.oi.ready.getLsbD (seqSlot s.oi.expected).val = true
    · rw [if_pos ⟨space, ready⟩, if_pos ready]
      rfl
    · rw [if_neg fun both => ready both.2, if_neg ready, ← none]
  · rw [if_neg fun both => space both.1, if_neg space, ← none]

/-- R139: with the fetch in flight ended and nothing else done, the step orders the next fetch at most. -/
theorem conclude_clearFetch (space : s.oi.queue.length < 8) (waits : s.oi.queue = [] ∨ s.tsq.inHand.isSome = true) :
    (conclude (clearFetch s)).oi = { s.oi with fetch := nextFetch s.oi.expected s.oi.ready } ∧
      (conclude (clearFetch s)).ru = s.ru := by
  rw [conclude_of_wait (s := clearFetch s) waits]
  refine ⟨?_, by simp⟩
  rw [orderFetchTest_of_none (s := clearFetch s) rfl]
  exact congrArg (fun fetch => { s.oi with fetch := fetch }) (if_pos space)

/-- R139, R142: the test after a record of the expected slot has been answered, with its sequence consumed. -/
theorem orderFetchTest_intakeAfter
    (oi : u.oi =
      ⟨s.oi.expected + 1, s.oi.ready &&& ~~~(1#64 <<< (seqSlot s.oi.expected).val), queue, .none⟩) :
    IntakeAfter s.oi.expected queue s (orderFetchTest u) := by
  have tested := orderFetchTest_of_none (s := u) (by rw [oi])
  rw [oi] at tested
  have ready : nextFetch (s.oi.expected + 1) (s.oi.ready &&& ~~~(1#64 <<< (seqSlot s.oi.expected).val)) =
      nextFetch (s.oi.expected + 1) s.oi.ready := by
    rw [nextFetch, nextFetch, getLsbD_clear _ (seqSlot_succ_ne _)]
  rw [IntakeAfter, tested]
  exact ⟨rfl, rfl, rfl, by rw [← ready]⟩

/-- R139: after an EMPTY slot its fetch is not ordered again. -/
theorem nextFetch_of_clear (expected : Byte) (ready : BitVec 64) :
    nextFetch expected (ready &&& ~~~(1#64 <<< (seqSlot expected).val)) = .none := by
  simp [nextFetch]

/-! ## Codes and sequences of a post word (section 12.1) -/

theorem ofNumber_eq_none {number : Nat} (unknown : ∀ c : Code, number ≠ c.number) :
    Code.ofNumber number = none := by
  rw [Code.ofNumber, List.find?_eq_none]
  intro c _
  simpa using (unknown c).symm

theorem code_number_ne_empty (c : Code) : c.number ≠ emptyCode := by cases c <;> decide

theorem postSeq_toNat (post : Word) : (postSeq post).toNat = bits post 7 0 := by
  rw [postSeq, BitVec.toNat_ofNat]
  exact Nat.mod_eq_of_lt (bits_lt post 7 0)

/-! ## The completion of the fetch (R140, R142) -/

/-- The fetch of slot i has been answered for: its ready flag is clear and no fetch is in flight. -/
def fetchAnswered (i : Fin 64) (s : State) : State :=
  { s with oi := { s.oi with ready := s.oi.ready &&& ~~~(1#64 <<< i.val), fetch := .none } }

@[simp] theorem fetchAnswered_expected (i : Fin 64) (s : State) : (fetchAnswered i s).oi.expected = s.oi.expected := rfl

/-- R142: a record of the expected slot is refused, and its sequence consumed. -/
def fetchRefused (reason : Reason) (value : Int) (s : State) : State :=
  advanceExpected (refuse reason value s.oi.expected (fetchAnswered (seqSlot s.oi.expected) s))

theorem orderFetchComplete_of_marked (fetch : s.oi.fetch = .inFlight i reseen cancelled)
    (marked : reseen = true ∨ cancelled = true) : orderFetchComplete b post s = clearFetch s := by
  unfold orderFetchComplete
  rw [fetch]
  exact if_pos marked.symm

theorem orderFetchComplete_of_unmarked (fetch : s.oi.fetch = .inFlight i false false) :
    orderFetchComplete b post s =
      if postCode post = emptyCode then fetchAnswered i s else takeRecord b post (fetchAnswered i s) := by
  unfold orderFetchComplete
  rw [fetch]
  simp only [Bool.false_eq_true, or_self, if_false]
  rfl

theorem takeRecord_of_sequence (wrong : postSeq post ≠ s.oi.expected) :
    takeRecord b post (fetchAnswered (seqSlot s.oi.expected) s) =
      fetchRefused .sequenceError (bits post 7 0 : Nat) s := by
  unfold takeRecord fetchRefused
  simp only [fetchAnswered_expected, if_pos wrong, postSeq_toNat]

theorem takeRecord_of_unknown (right : postSeq post = s.oi.expected)
    (unknown : ∀ c : Code, postCode post ≠ c.number) :
    takeRecord b post (fetchAnswered (seqSlot s.oi.expected) s) =
      fetchRefused .unknownCode (bits post 15 8 : Nat) s := by
  unfold takeRecord fetchRefused
  simp only [fetchAnswered_expected, if_neg (not_not.mpr right), ofNumber_eq_none unknown]
  rfl

theorem fetchRefused_oi (reason : Reason) (value : Int) (s : State) :
    (fetchRefused reason value s).oi =
      ⟨s.oi.expected + 1, s.oi.ready &&& ~~~(1#64 <<< (seqSlot s.oi.expected).val), s.oi.queue, .none⟩ := by
  simp [fetchRefused, advanceExpected, refuse, fetchAnswered]

theorem fetchRefused_intakeOnly (reason : Reason) (value : Int) (s : State) :
    IntakeOnly s (fetchRefused reason value s) := by
  have answered : IntakeOnly s (fetchAnswered (seqSlot s.oi.expected) s) := rfl
  exact (answered.trans (refuse_intakeOnly reason value s.oi.expected _)).trans rfl

theorem fetchRefused_reports {reason : Reason} {value : Int} (room : Room 1 s) :
    Reports s (orderFetchTest (fetchRefused reason value s))
      [⟨.orderRefused, reason.number, value, some s.oi.expected, s.tsq.state⟩] := by
  have said := refuse_reports (s := fetchAnswered (seqSlot s.oi.expected) s) (reason := reason) (value := value)
    (seq := s.oi.expected) room
  exact said.congr rfl (by simp [fetchRefused]) (by simp [fetchRefused])

/-! ## The whole step after the completion (R76, R139, R140, R142) -/

/-- R140: a fetch that is re-seen or cancelled brings nothing but the next fetch. -/
theorem conclude_of_marked (fetch : s.oi.fetch = .inFlight i reseen cancelled)
    (marked : reseen = true ∨ cancelled = true) (space : s.oi.queue.length < 8)
    (waits : s.oi.queue = [] ∨ s.tsq.inHand.isSome = true) :
    (conclude (orderFetchComplete b post s)).oi = { s.oi with fetch := nextFetch s.oi.expected s.oi.ready } ∧
      (conclude (orderFetchComplete b post s)).ru = s.ru := by
  rw [orderFetchComplete_of_marked fetch marked]
  exact conclude_clearFetch space waits

/-- R140: an EMPTY slot brings nothing, and is not fetched again. -/
theorem conclude_of_empty (fetch : s.oi.fetch = .inFlight (seqSlot s.oi.expected) false false)
    (empty : postCode post = emptyCode) (waits : s.oi.queue = [] ∨ s.tsq.inHand.isSome = true) :
    (conclude (orderFetchComplete b post s)).oi = { s.oi with
        ready := s.oi.ready &&& ~~~(1#64 <<< (seqSlot s.oi.expected).val), fetch := .none } ∧
      (conclude (orderFetchComplete b post s)).ru = s.ru := by
  rw [orderFetchComplete_of_unmarked fetch, if_pos empty, conclude_of_wait (s := fetchAnswered _ s) waits]
  refine ⟨?_, by simp [fetchAnswered]⟩
  rw [orderFetchTest_of_none (s := fetchAnswered (seqSlot s.oi.expected) s) rfl]
  simp [fetchAnswered, nextFetch_of_clear]

/-- R142: behind an order in hand the record joins the queue. -/
theorem conclude_of_queued {c : Code} (fetch : s.oi.fetch = .inFlight (seqSlot s.oi.expected) false false)
    (hand : s.tsq.inHand.isSome = true) (code : postCode post = c.number) (right : postSeq post = s.oi.expected) :
    IntakeAfter s.oi.expected (s.oi.queue ++ [⟨s.oi.expected, c, b⟩]) s (conclude (orderFetchComplete b post s)) ∧
      (conclude (orderFetchComplete b post s)).ru = s.ru := by
  rw [orderFetchComplete_of_unmarked fetch, if_neg (code ▸ code_number_ne_empty c),
    takeRecord_of_expected (s := fetchAnswered (seqSlot s.oi.expected) s) right (by rw [code, ofNumber_number]),
    conclude_of_wait (.inr (by exact hand))]
  exact ⟨orderFetchTest_intakeAfter rfl, by simp [fetchAnswered]⟩

/-- R142: a record that is refused, with what follows. -/
theorem conclude_of_refused {reason : Reason} {value : Int}
    (waits : s.oi.queue = [] ∨ s.tsq.inHand.isSome = true) (room : Room 1 s)
    (refused : orderFetchComplete b post s = fetchRefused reason value s) :
    IntakeAfter s.oi.expected s.oi.queue s (conclude (orderFetchComplete b post s)) ∧
      Reports s (conclude (orderFetchComplete b post s))
        [⟨.orderRefused, reason.number, value, some s.oi.expected, s.tsq.state⟩] := by
  rw [refused, conclude_of_wait (by rwa [fetchRefused_oi, fetchRefused_intakeOnly reason value s])]
  exact ⟨orderFetchTest_intakeAfter (fetchRefused_oi _ _ _), fetchRefused_reports room⟩

theorem orderFetchComplete_of_sequence (fetch : s.oi.fetch = .inFlight (seqSlot s.oi.expected) false false)
    (notEmpty : postCode post ≠ emptyCode) (wrong : postSeq post ≠ s.oi.expected) :
    orderFetchComplete b post s = fetchRefused .sequenceError (bits post 7 0 : Nat) s := by
  rw [orderFetchComplete_of_unmarked fetch, if_neg notEmpty, takeRecord_of_sequence wrong]

theorem orderFetchComplete_of_unknown (fetch : s.oi.fetch = .inFlight (seqSlot s.oi.expected) false false)
    (notEmpty : postCode post ≠ emptyCode) (right : postSeq post = s.oi.expected)
    (unknown : ∀ c : Code, postCode post ≠ c.number) :
    orderFetchComplete b post s = fetchRefused .unknownCode (bits post 15 8 : Nat) s := by
  rw [orderFetchComplete_of_unmarked fetch, if_neg notEmpty, takeRecord_of_unknown right unknown]

/-- Where the fetch brings no record, the queue is as it was. -/
theorem orderFetchComplete_queue (fetch : s.oi.fetch = .inFlight i reseen cancelled)
    (slot : cancelled = false → i = seqSlot s.oi.expected)
    (no_record : reseen = true ∨ cancelled = true ∨ postCode post = emptyCode ∨ postSeq post ≠ s.oi.expected ∨
      ∀ c : Code, postCode post ≠ c.number) : (orderFetchComplete b post s).oi.queue = s.oi.queue := by
  by_cases marked : reseen = true ∨ cancelled = true
  · rw [orderFetchComplete_of_marked fetch marked]
    rfl
  · obtain ⟨rfl, rfl⟩ : reseen = false ∧ cancelled = false := by simpa using marked
    obtain rfl := slot rfl
    by_cases empty : postCode post = emptyCode
    · rw [orderFetchComplete_of_unmarked fetch, if_pos empty]
      rfl
    · by_cases right : postSeq post = s.oi.expected
      · have unknown : ∀ c : Code, postCode post ≠ c.number := by simpa [empty, right] using no_record
        rw [orderFetchComplete_of_unknown fetch empty right unknown, fetchRefused_oi]
      · rw [orderFetchComplete_of_sequence fetch empty right, fetchRefused_oi]

theorem orderFetchComplete_intakeOnly (b : Body) (post : Word) (s : State) :
    IntakeOnly s (orderFetchComplete b post s) := by
  unfold orderFetchComplete
  split
  case h_1 i reseen cancelled fetch =>
    have answered : IntakeOnly s (clearReady i (clearFetch s)) := rfl
    dsimp only
    split
    · exact rfl
    · split
      · exact rfl
      · refine answered.trans ?_
        unfold takeRecord
        dsimp only
        refine IntakeOnly.onOi ?_ _
        split
        · exact refuse_intakeOnly _ _ _ _
        · split
          · exact refuse_intakeOnly _ _ _ _
          · exact rfl
  all_goals exact rfl

/-- Where no record is taken at the head, the step changes Order Intake and the Report Unit alone. -/
theorem conclude_intakeOnly (waits : s.oi.queue = [] ∨ s.tsq.inHand.isSome = true)
    (fetch : s.oi.fetch = .inFlight i reseen cancelled) (slot : cancelled = false → i = seqSlot s.oi.expected)
    (no_take : s.tsq.inHand.isSome = true ∨ reseen = true ∨ cancelled = true ∨ postCode post = emptyCode ∨
      postSeq post ≠ s.oi.expected ∨ ∀ c : Code, postCode post ≠ c.number) :
    IntakeOnly s (conclude (orderFetchComplete b post s)) := by
  have told := orderFetchComplete_intakeOnly b post s
  have hand : (orderFetchComplete b post s).tsq.inHand = s.tsq.inHand := by rw [told]
  rw [conclude_of_wait]
  · exact told.trans (orderFetchTest_intakeOnly _)
  · rw [hand]
    rcases no_take with held | no_record
    · exact .inr held
    · rwa [orderFetchComplete_queue fetch slot no_record]

/-! ## A fetched record beside the record's own command (R137, R142; log entry 4) -/

theorem exec_recordInstr (c : Code) (seq : Byte) (b : Body) (s : State) :
    exec (recordInstr c seq b) s = .next (recordArrives c seq b s) := by cases c <;> rfl

/-- A record that the fetch brings is taken as one that comes directly. -/
theorem completion_eq_orderFetchComplete {c : Code} (fetch : s.oi.fetch = .inFlight (seqSlot s.oi.expected) false false)
    (space : s.oi.queue.length < 8) (code : postCode post = c.number) (right : postSeq post = s.oi.expected) :
    completion (seqSlot s.oi.expected) (some (b, postWord s.oi.expected c)) (clearFetch s) =
      orderFetchComplete b post s := by
  have direct : takenDirectly (seqSlot s.oi.expected) (clearFetch s) = true := by
    simp [takenDirectly, clearFetch, expectedSlot, space, Config.queueMax, FetchRec.inFlightFor]
  have cleared : clearReady (seqSlot s.oi.expected)
      ((clearFetch s).onOi fun o => { o with fetch := o.fetch.withdraw (seqSlot s.oi.expected) }) =
        fetchAnswered (seqSlot s.oi.expected) s := rfl
  rw [orderFetchComplete_of_unmarked fetch, if_neg (code ▸ code_number_ne_empty c), completion]
  simp only [direct, if_true, cleared]
  rw [takeRecord_of_expected (s := fetchAnswered (seqSlot s.oi.expected) s) right (by rw [code, ofNumber_number])]
  exact takeRecord_of_expected (postSeq_postWord _ _) (by simp)

end Sys2Proof.Machine
end

section
/-! The end of an agent's word (R62, R140, R142, R159 to R162, R171, R177), and the statement about it. -/

namespace Sys2Proof.Machine

variable {s t u : State} {j : Job} {acc a : Access} {n : Nat} {data : Word}

/-! ## The next word (R159, R161) -/

/-- R161: the next word goes to the M-side where no access waits beside it, and where the guard count is reached. -/
theorem exec_agentWordEnd_of_granted (mSide : s.ptp.mSide = .agent a n) (job : s.ma.job = some j)
    (more : j.pos + 1 < (wordsInOrder j.kind).length) (due : NothingDue s)
    (guarded : ∀ acc, s.ptp.u = some (acc, .waiting) → 4 ≤ s.ptp.guard) :
    exec (.agentWordEnd data) s = .next { s with
      ma := ⟨some { j.next data with waiting := false }⟩
      ptp := { s.ptp with
        mSide := .agent (agentAccess { j.next data with waiting := false } s) s.mc.params.memTimeout
        guard := 0 } } := by
  have access : agentAccess (j.next data) (nextWaits j data s) = agentAccess { j.next data with waiting := false } s :=
    agentAccess_congr rfl { j.next data with waiting := false } true
  rw [exec_agentWordEnd_of_more mSide job more due, arbitrate_yields (s := nextWaits j data s) rfl rfl rfl guarded,
    grantAgent_eq (j := j.next data) more, access]
  rfl

/-- R161: the access that waits passes the next word below the guard count. -/
theorem exec_agentWordEnd_of_passed (mSide : s.ptp.mSide = .agent a n) (job : s.ma.job = some j)
    (more : j.pos + 1 < (wordsInOrder j.kind).length) (due : NothingDue s) (waits : s.ptp.u = some (acc, .waiting))
    (guard : s.ptp.guard < 4) :
    exec (.agentWordEnd data) s = .next { s with
      ma := ⟨some (j.next data)⟩
      ptp := { s.ptp with
        u := some (acc, .granted), mSide := .forwarded acc s.mc.params.memTimeout, guard := s.ptp.guard + 1 } } := by
  rw [exec_agentWordEnd_of_more mSide job more due, arbitrate_of_both (s := nextWaits j data s) rfl rfl rfl waits]
  exact congrArg _ (if_pos guard)

/-! ## The last word of a report (R171, R174, R175) -/

theorem urgent_eq (k : ReportKind) : k.urgent = decide (k = .fault ∨ k = .faultCleared ∨ k = .ordersFlushed) := by
  cases k <;> decide

/-- R174: the level of the attention line is the statements' one. -/
theorem attnLevel_eq (s : State) :
    attnLevel s = decide (MaskedReport s.mc.params.attnUrgent s.mc.params.attnRoutine s.ru) := by
  have below : unreleased s < 256 := (s.ru.writeIdx - s.ru.readIdx).isLt
  have masked_iff (slot : Option SlotRecord) :
      (match slot with | some rec => inAttnMask rec.urgent s | none => false) =
        slot.any fun r => if r.urgent then s.mc.params.attnUrgent else s.mc.params.attnRoutine := by
    cases slot <;> rfl
  rw [Bool.eq_iff_iff, decide_eq_true_iff, attnLevel, List.any_eq_true]
  constructor
  · rintro ⟨n, inside, masked⟩
    rw [List.mem_range] at inside
    exact ⟨⟨n, by omega⟩, inside, (masked_iff _).symm.trans masked⟩
  · rintro ⟨n, inside, masked⟩
    exact ⟨n.val, List.mem_range.mpr inside, (masked_iff _).trans masked⟩

/-- R171, R174, R175: the attention line at the completion, in either mode. -/
theorem attentionAtCompletion_eq (urgent : Bool) (s : State) :
    attentionAtCompletion urgent s = { s with ru := { s.ru with
      attention := if s.mc.params.attnPulse then s.ru.attention || inAttnMask urgent s
        else decide (MaskedReport s.mc.params.attnUrgent s.mc.params.attnRoutine s.ru)
      pulse := s.ru.pulse || (s.mc.params.attnPulse && inAttnMask urgent s) } } := by
  unfold attentionAtCompletion
  rw [attnLevel_eq]
  cases s.mc.params.attnPulse with
  | false => simp [State.onRu]
  | true => cases inAttnMask urgent s <;> simp [State.onRu]

/-! ## The last word of a segment (R57, R62) -/

theorem entryCopy_eq (w0 w1 w2 w3 : Word) : entryCopy [w0, w1, w2, w3] = some (copyOf w0 w1 w2 w3) := by
  have at_least_one (n : Nat) : (if n = 0 then 1 else n) = max 1 n := by split <;> omega
  have field (w : Word) (hi lo : Nat) : bits w hi lo = w.toNat / 2 ^ lo % 2 ^ (hi - lo + 1) := by
    rw [bits, Nat.shiftRight_eq_div_pow]
  have next (n : Nat) : Fin.ofNat 32 (n % 2 ^ (20 - 16 + 1)) = Fin.ofNat 32 n := Fin.ext (Nat.mod_mod n 32)
  simp only [entryCopy, segmentOf, copyOf, field, at_least_one, next]
  simp [bit]

/-- R62: what the completion of the fetch of entry i leaves of the cache, by the fetch's mark. -/
def segFetched (i : Fin 32) (copy : Segment) (c : Sc) : FetchMark → Sc
  | .none => { c with entries := c.entries.set i.val (.valid copy) i.isLt, inFlight := none }
  | .discard => { c with inFlight := none }
  | .reread => { c with fetchList := i :: c.fetchList.filter (· ≠ i), inFlight := none }

theorem segFetchComplete_eq {i : Fin 32} {mark : FetchMark} (inFlight : s.sc.inFlight = some ⟨i, mark⟩)
    (copy : Segment) :
    segFetchComplete copy s = { s with sc := segFetched i copy s.sc mark } := by
  unfold segFetchComplete
  rw [inFlight]
  cases mark <;> rfl

/-! ## The statement -/

/-- Settles O57: each case is what the end of a word comes to (`agentWordEnd_chooses`) with the owner's part
computed. -/
theorem agentWordsEnd : Obligations.AgentWordsEnd := by
  refine ⟨?alone, ?passed, ?guarded, ?report, ?snapshot, ?fetch, ?record, ?segment⟩
  case alone =>
    intro s a n j data mSide job more due none
    exact exec_agentWordEnd_of_granted mSide job more due (by simp [none])
  case passed =>
    intro s a acc n j data mSide job more due waits guard
    exact exec_agentWordEnd_of_passed mSide job more due waits guard
  case guarded =>
    intro s a acc n j data mSide job more due waits
    refine exec_agentWordEnd_of_granted mSide job more due fun acc' e => ?_
    rcases waits with held | ⟨-, guard⟩
    · simp [held] at e
    · exact guard
  case report =>
    intro s a n slot r seq loss out got waiting data mSide job due urgent masked u
    have ended := agentWordEnd_chooses (data := data) mSide job (by simp [wordsInOrder])
    change ThenChooses _ (conclude (reportWritten slot r (jobEnded s))) at ended
    rw [conclude_told due (by simp [jobEnded]), reportWritten, attentionAtCompletion_eq, urgent_eq] at ended
    exact ended
  case snapshot =>
    intro s a n out got waiting data mSide job due
    have ended := agentWordEnd_chooses (data := data) mSide job (by simp [wordsInOrder])
    change ThenChooses _ (conclude (snapshotWritten (jobEnded s))) at ended
    rwa [conclude_told due (by simp [jobEnded])] at ended
  case fetch =>
    intro s a n i b waiting reseen cancelled out data mSide job fetch slot space waits
    have ended := agentWordEnd_chooses (data := data) mSide job (by simp [wordsInOrder])
    change ThenChooses _ (conclude (orderFetchComplete b data (jobEnded s))) at ended
    refine ⟨_, ended, ?marked, ?empty, ?queued, ?sequence, ?unknown, ?frame⟩
    case marked => exact fun marked => conclude_of_marked (s := jobEnded s) fetch marked space waits
    case empty =>
      rintro rfl rfl empty
      obtain rfl := slot rfl
      exact conclude_of_empty (s := jobEnded s) fetch empty waits
    case queued =>
      rintro c rfl rfl hand code right
      obtain rfl := slot rfl
      exact conclude_of_queued (s := jobEnded s) fetch hand code right
    case sequence =>
      rintro rfl rfl notEmpty room wrong
      obtain rfl := slot rfl
      obtain ⟨intake, said⟩ := conclude_of_refused (s := jobEnded s) waits room
        (orderFetchComplete_of_sequence fetch notEmpty wrong)
      exact ⟨intake, said.congr rfl rfl rfl⟩
    case unknown =>
      rintro rfl rfl notEmpty room right unknown
      obtain rfl := slot rfl
      obtain ⟨intake, said⟩ := conclude_of_refused (s := jobEnded s) waits room
        (orderFetchComplete_of_unknown fetch notEmpty right unknown)
      exact ⟨intake, said.congr rfl rfl rfl⟩
    case frame => exact fun no_take => conclude_intakeOnly (s := jobEnded s) waits fetch slot no_take
  case record =>
    intro s a n c b waiting out data mSide watched job fetch space code right
    have ended := agentWordEnd_chooses (data := data) mSide job (by simp [wordsInOrder])
    change ThenChooses _ (conclude (orderFetchComplete b data (jobEnded s))) at ended
    refine ⟨_, ?_, ended⟩
    rw [← completion_eq_orderFetchComplete (s := jobEnded s) fetch space code right, exec_recordInstr]
    exact congrArg _ (if_pos watched)
  case segment =>
    intro s a n i mark waiting out w0 w1 w2 data mSide job inFlight due
    have ended := agentWordEnd_chooses (data := data) mSide job (by simp [wordsInOrder])
    change ThenChooses _ (conclude (match entryCopy [w0, w1, w2, data] with
      | some copy => segFetchComplete copy (jobEnded s)
      | none => jobEnded s)) at ended
    simp only [entryCopy_eq] at ended
    rw [conclude_told due (by simp [jobEnded]), segFetchComplete_eq (s := jobEnded s) inFlight] at ended
    cases mark <;> exact ended

end Sys2Proof.Machine
end

section
/-! The timeout of an agent's word (R62, R67, R129, R141, R164, R166, R172, R177), and the statement about it. -/

namespace Sys2Proof.Machine

variable {s t : State} {a acc : Access} {n : Nat} {i : Fin 64} {reseen cancelled : Bool}

/-! ## A report lost (R129, R172) -/

theorem satAdd_eq_min (bound a b : Nat) : satAdd bound a b = min bound (a + b) := by
  unfold satAdd
  split <;> omega

/-- R129: what the loss of a report makes of a line that it carries. -/
def lineLost (r : Report) (l : Line) : Line :=
  if r.kind = .senseChange ∧ l.carry = .report r.id then { l with pending := false, carry := .none } else l

theorem reportLost_eq (r : Report) (loss : Nat) (s : State) :
    reportLost r loss s = { s with
      ru := { s.ru with loss := min 255 (loss + 1 + s.ru.loss) }
      slu := { s.slu with lines := s.slu.lines.map (lineLost r) } } := by
  simp only [reportLost, satAdd_eq_min]
  by_cases sense : r.kind = .senseChange
  · have told : lineLost r = fun l =>
        if l.carry = .report r.id then { l with pending := false, carry := .none } else l := by
      funext l
      simp [lineLost, sense]
    rw [if_pos sense, told]
    rfl
  · have kept : lineLost r = id := by
      funext l
      simp [lineLost, sense]
    rw [if_neg sense, kept, Vector.map_id]
    rfl

/-! ## A fetch that fails (R62, R67, R141) -/

theorem orderFetchFail_of_cancelled (fetch : s.oi.fetch = .inFlight i reseen true) :
    orderFetchFail s = clearFetch s := by
  unfold orderFetchFail
  rw [fetch]
  rfl

/-- R141: the failed fetch, as a refusal of the record of the expected slot. -/
theorem orderFetchFail_of_live (fetch : s.oi.fetch = .inFlight (seqSlot s.oi.expected) reseen false) :
    (orderFetchFail s).oi =
        ⟨s.oi.expected + 1, s.oi.ready &&& ~~~(1#64 <<< (seqSlot s.oi.expected).val), s.oi.queue, .none⟩ ∧
      (orderFetchFail s).ru =
        (refuse .fetchFailed (seqSlot s.oi.expected).val s.oi.expected (clearFetch s)).ru := by
  unfold orderFetchFail
  rw [fetch]
  simp [refuse, clearFetch, clearReady, advanceExpected]

theorem orderFetchFail_intakeOnly (s : State) : IntakeOnly s (orderFetchFail s) := by
  unfold orderFetchFail
  split
  case h_1 i reseen cancelled fetch =>
    have cleared : IntakeOnly s (clearFetch s) := rfl
    dsimp only
    split
    · exact cleared
    · exact (cleared.trans (refuse_intakeOnly _ _ _ _)).trans rfl
  all_goals exact rfl

theorem orderFetchFail_queue (s : State) : (orderFetchFail s).oi.queue = s.oi.queue := by
  unfold orderFetchFail
  split
  case h_1 =>
    dsimp only
    split <;> simp [clearFetch, clearReady, advanceExpected, refuse]
  all_goals rfl

/-- R76, R139: behind a failed fetch only the test of R139 closes the step. -/
theorem conclude_orderFetchFail (waits : s.oi.queue = [] ∨ s.tsq.inHand.isSome = true) :
    conclude (orderFetchFail s) = orderFetchTest (orderFetchFail s) := by
  refine conclude_of_wait ?_
  rwa [orderFetchFail_queue, orderFetchFail_intakeOnly s]

/-- R62, R67: the failure of the fetch of entry i. -/
theorem segFetchFail_eq {i : Fin 32} {mark : FetchMark} (inFlight : s.sc.inFlight = some ⟨i, mark⟩) :
    segFetchFail s = { s with
      sc := if mark = .discard then { s.sc with inFlight := none }
        else { s.sc with entries := s.sc.entries.set i.val .invalid i.isLt, inFlight := none }
      mg := if mark ≠ .discard ∧ s.wk.awaited = some i then
          { s.mg with chainEnd := some .segmentUnavailable } else s.mg } := by
  unfold segFetchFail reportUnavailable
  rw [inFlight]
  cases mark with
  | discard => rfl
  | none | reread =>
    by_cases awaited : s.wk.awaited = some i
    · simp [awaited, setEntry, State.onSc, State.onMg]
    · simp [awaited, setEntry, State.onSc]

/-! ## A word left by a line reset (R166) -/

/-- R161, R166: the word that nobody waits for frees the M-side, and a waiting access is granted. -/
theorem endAgentWord_of_left (f : Job → State → State) (mSide : s.ptp.mSide = .orphan a n)
    (idle : s.ma.job = none) :
    endAgentWord f s = { s with
      ptp := match s.ptp.u with
        | some (acc, .waiting) =>
          { s.ptp with u := some (acc, .granted), mSide := .forwarded acc s.mc.params.memTimeout }
        | _ => { s.ptp with mSide := .free } } := by
  rw [endAgentWord_of_orphan f mSide, arbitrate_of_idle (s := freeMSide s) rfl idle]
  rfl

/-! ## The statement -/

/-- Settles O58: each case is what an abandoned job comes to (`agentWordTimeout_chooses`) with the owner's part
computed. -/
theorem agentTimeoutsAbandonTheJob : Obligations.AgentTimeoutsAbandonTheJob := by
  refine ⟨?report, ?snapshot, ?fetch, ?segment, ?left, ?leftBeside⟩
  case report =>
    intro s a n slot r seq loss pos out got waiting mSide job due
    have ended := agentWordTimeout_chooses mSide job
    change ThenChooses _ (conclude (reportLost r loss (jobEnded s))) at ended
    rw [conclude_told due (by simp [jobEnded]), reportLost_eq] at ended
    exact ⟨_, ended, fun k => by simp [jobEnded, lineLost], rfl⟩
  case snapshot =>
    intro s a n pos out got waiting mSide job due
    have ended := agentWordTimeout_chooses mSide job
    change ThenChooses _ (conclude (jobEnded s)) at ended
    rwa [conclude_told (t := jobEnded s) due rfl] at ended
  case fetch =>
    intro s a n pos i out got waiting reseen cancelled mSide job fetch slot space waits
    have ended := agentWordTimeout_chooses mSide job
    change ThenChooses _ (conclude (orderFetchFail (jobEnded s))) at ended
    refine ⟨_, ended, ?cancelled, ?refused, ?frame⟩
    case cancelled =>
      rintro rfl
      rw [orderFetchFail_of_cancelled (s := jobEnded s) fetch]
      exact conclude_clearFetch (s := jobEnded s) space waits
    case refused =>
      rintro rfl
      obtain rfl := slot rfl
      obtain ⟨oi, ru⟩ := orderFetchFail_of_live (s := jobEnded s) fetch
      rw [conclude_orderFetchFail (s := jobEnded s) waits]
      refine ⟨orderFetchTest_intakeAfter oi, fun room => ?_⟩
      have said := refuse_reports (s := clearFetch (jobEnded s)) (reason := .fetchFailed)
        (value := (seqSlot s.oi.expected).val) (seq := s.oi.expected) room
      have tested : (orderFetchTest (orderFetchFail (jobEnded s))).ru = (orderFetchFail (jobEnded s)).ru := by simp
      exact said.congr rfl (tested.trans ru) (by simp [refuse, clearFetch])
    case frame =>
      rw [conclude_orderFetchFail (s := jobEnded s) waits]
      exact (orderFetchFail_intakeOnly _).trans (orderFetchTest_intakeOnly _)
  case segment =>
    intro s a n pos i mark out got waiting mSide job inFlight due
    have ended := agentWordTimeout_chooses mSide job
    change ThenChooses _ (conclude (segFetchFail (jobEnded s))) at ended
    rw [conclude_told due (by simp [jobEnded]), segFetchFail_eq (s := jobEnded s) inFlight] at ended
    exact ended
  case left =>
    intro s a n data mSide idle none
    have freed (f : Job → State → State) : endAgentWord f s = { s with ptp := { s.ptp with mSide := .free } } := by
      rw [endAgentWord_of_left f mSide idle, none]
    exact ⟨congrArg _ (freed _), congrArg _ (freed _)⟩
  case leftBeside =>
    intro s a acc n data mSide idle waits t
    have granted (f : Job → State → State) : endAgentWord f s = t := by
      rw [endAgentWord_of_left f mSide idle, waits]
    exact ⟨congrArg _ (granted _), congrArg _ (granted _)⟩

end Sys2Proof.Machine
end

section
/-! The captures of a segment's closing write (R57 to R61, R156, R157; log entry 3), and the statement about them. -/

namespace Sys2Proof.Machine

variable {s t : State} {i : Fin 32} {be : ByteEnables} {data w0 w1 w2 : Word} {answered : Bool} {a : Assembly}
  {copy old : Segment} {target : Target}

/-! ## The take of the closing write (R153, R156) -/

theorem regionWord_entryClosing (i : Fin 32) : regionWord (entryOffset i 3) = .entryClosing i := by
  have inside := i.isLt
  have index : (entryOffset i 3 - 0x0800) / 16 = i.val := by simp only [entryOffset]; omega
  have last : (entryOffset i 3 - 0x0800) % 16 / 4 = 3 := by simp only [entryOffset]; omega
  unfold regionWord
  rw [if_neg (by simp only [entryOffset]; omega), if_pos (by simp only [entryOffset]; omega)]
  simp only [index, last]
  simp

/-- R157: the buffer that becomes FREE leaves the others OPEN. -/
theorem freeBuffer_eq (target : Target) (s : State) :
    freeBuffer target s = { s with ptp := { s.ptp with bufs := buffersBut target s } } := by
  have same : (fun a : Assembly => a.target != target) = fun a => decide (a.target ≠ target) := by
    funext a
    by_cases h : a.target = target <;> simp [h]
  simp only [freeBuffer, same]
  rfl

/-- Log entry 3: with no forwarded access on the M-side, the closing write is the snoop unit's take alone. -/
theorem exec_segmentClosingWrite (snooping : Snooping s) :
    exec (.segmentClosingWrite i be data answered) s = .next (entryClosingEnds i be data answered s) := by
  obtain ⟨watched, apart, due⟩ := snooping
  have taken : snoop (regionWord (entryOffset i 3)) be data answered s = entryClosingEnds i be data answered s := by
    rw [snoop, if_pos watched, regionWord_entryClosing]
    rfl
  have intake : (entryClosingEnds i be data answered s).oi = s.oi := by
    unfold entryClosingEnds
    dsimp only
    split <;> simp
  change Host.Outcome.next (watchedWrite (entryOffset i 3) be data answered s) = _
  rw [watchedWrite, carriesWrite_of_apart apart, if_neg (by decide), taken, conclude_told due intake]

/-! ## What the buffers hold (R157) -/

theorem openBuffer_eq (target : Target) (s : State) :
    openBuffer target s = s.ptp.bufs.find? fun b => decide (b.target = target) := rfl

/-- R157: with the closing word, three clean words in their buffer are a whole record of four. -/
theorem captureOf_of_completed (whole : Completed a target [w0, w1, w2] s) :
    captureOf target 3 4 data (cleanWrite 0xF#4 true) s = some [w0, w1, w2, data] := by
  obtain ⟨is, byWord0, clean, holds⟩ := whole
  have stored : (a.words.toList.set 3 (some data)).take 4 = [some w0, some w1, some w2, some data] := by
    have three : a.words.toList.take 3 = [some w0, some w1, some w2] := holds
    rw [List.take_add_one, List.take_set, three]
    simp
  rw [captureOf, openBuffer_eq, is]
  simp only [Assembly.store, byWord0, clean, cleanWrite, Assembly.wholeWords, decide_true, Bool.and_self, Bool.not_true,
    Bool.or_self, Bool.not_false, if_true]
  have words : (a.words.set 3 (some data)).toList = a.words.toList.set 3 (some data) := Vector.toList_set ..
  exact (congrArg (fun l => (l.take 4).mapM id) words).trans (congrArg (List.mapM id) stored)

/-- R157: the capture is partial where the closing write is not whole or answered, and where no buffer is OPEN. -/
theorem captureOf_eq_none (torn : be ≠ 0xF#4 ∨ answered = false ∨ ∀ a ∈ s.ptp.bufs, a.target ≠ target)
    (closing : Fin 8) (n : Nat) : captureOf target closing n data (cleanWrite be answered) s = none := by
  unfold captureOf
  rw [openBuffer_eq]
  cases buffer : s.ptp.bufs.find? fun b => decide (b.target = target) with
  | none => rfl
  | some a =>
    have unclean : cleanWrite be answered = false := by
      rcases torn with be | unanswered | none
      · simp [cleanWrite, be]
      · simp [cleanWrite, unanswered]
      · have is : a.target = target := by simpa using List.find?_some buffer
        exact absurd is (none a (List.mem_of_find?_eq_some buffer))
    simp [unclean, Assembly.store]

/-! ## The cache at a capture (R58 to R61) -/

theorem segInFlight_iff : segInFlight i s = true ↔ ∃ f : SegFetch, s.sc.inFlight = some f ∧ f.index = i := by
  unfold segInFlight
  cases s.sc.inFlight <;> simp

theorem segInFlight_eq_false (apart : ∀ f : SegFetch, s.sc.inFlight = some f → f.index ≠ i) :
    segInFlight i s = false :=
  Bool.eq_false_iff.mpr fun flying => by
    obtain ⟨f, inFlight, index⟩ := segInFlight_iff.mp flying
    exact apart f inFlight index

theorem inUseWithCopy_of_unused (unused : i ∉ s.wk.inUse) : inUseWithCopy i s = none := if_neg unused

theorem inUseWithCopy_of_used (used : i ∈ s.wk.inUse)
    (entry : s.sc.entries.get i = .valid old ∨ s.sc.entries.get i = .stale old) : inUseWithCopy i s = some old := by
  rw [inUseWithCopy, if_pos used, entryOf]
  rcases entry with entry | entry <;> rw [entry] <;> rfl

/-- R59: a whole capture of an entry not in use. -/
theorem wholeCapture_of_unused (unused : i ∉ s.wk.inUse) (copy : Segment) :
    wholeCapture i copy s = { s with sc := {
      entries := s.sc.entries.set i.val (.valid copy) i.isLt
      fetchList := if s.sc.entries.get i = .fetching ∧ segInFlight i s = false then s.sc.fetchList.filter (· ≠ i)
        else s.sc.fetchList
      inFlight := if s.sc.entries.get i = .fetching ∧ segInFlight i s = true then some ⟨i, .discard⟩
        else s.sc.inFlight } } := by
  unfold wholeCapture entryOf
  simp only [inUseWithCopy_of_unused unused]
  cases entry : s.sc.entries.get i with
  | invalid | valid | stale => simp [setEntry, State.onSc]
  | fetching =>
    by_cases flying : segInFlight i s = true
    · obtain ⟨⟨_, mark⟩, inFlight, rfl⟩ := segInFlight_iff.mp flying
      simp [flying, setFetchMark, setEntry, State.onSc, inFlight]
    · simp [flying, setEntry, State.onSc]

/-- R60: what a partial capture of an entry not in use leaves of the cache. -/
def partlyCaptured (i : Fin 32) (s : State) : Sc :=
  if segInFlight i s = true then
    { s.sc with entries := s.sc.entries.set i.val .fetching i.isLt, inFlight := some ⟨i, .reread⟩ }
  else if i ∈ s.sc.fetchList then s.sc
  else if s.wk.awaited = some i then
    { s.sc with entries := s.sc.entries.set i.val .fetching i.isLt, fetchList := i :: s.sc.fetchList }
  else { s.sc with entries := s.sc.entries.set i.val .invalid i.isLt }

theorem partialCapture_of_unused (unused : i ∉ s.wk.inUse) :
    partialCapture i s = { s with sc := partlyCaptured i s } := by
  unfold partialCapture partlyCaptured
  simp only [inUseWithCopy_of_unused unused]
  by_cases flying : segInFlight i s = true
  · obtain ⟨⟨_, mark⟩, inFlight, rfl⟩ := segInFlight_iff.mp flying
    simp [flying, setFetchMark, setEntry, State.onSc, inFlight]
  · simp only [if_neg flying]
    by_cases listed : i ∈ s.sc.fetchList
    · simp only [if_pos listed]
    · simp only [if_neg listed]
      by_cases awaited : s.wk.awaited = some i
      · have others : ∀ k ∈ s.sc.fetchList, ¬ k = i := fun k mem e => listed (e ▸ mem)
        have dropped : entryOf i (setEntry i .invalid s) = .invalid := Vector.getElem_set_self _
        simp only [orderForWalker, dropped, if_pos awaited]
        simpa [awaited, setEntry, State.onSc, fetchAtHead] using others
      · simp [awaited, setEntry, State.onSc]

/-! ## The statement -/

/-- Settles O38: the capture that the buffers give decides between R59 and R60, the in-use set between these
and STALE. -/
theorem segmentClosingsAreCaptured : Obligations.SegmentClosingsAreCaptured := by
  refine ⟨?whole, ?inUse, ?partly⟩
  case whole =>
    intro s i a w0 w1 w2 data snooping completed unused
    have ends : entryClosingEnds i 0xF#4 data true s =
        wholeCapture i (copyOf w0 w1 w2 data) (freeBuffer (.entry i) s) := by
      simp only [entryClosingEnds, captureOf_of_completed completed, Option.bind_some, entryCopy_eq]
    rw [freeBuffer_eq, wholeCapture_of_unused (by exact unused)] at ends
    refine ⟨_, (exec_segmentClosingWrite snooping).trans (congrArg _ ends), rfl, ?resting, ?flying, ?listed, rfl⟩
    case resting =>
      exact fun resting => ⟨if_neg fun both => resting both.1, if_neg fun both => resting both.1⟩
    case flying =>
      intro f inFlight fetching index
      have flying : segInFlight i s = true := segInFlight_iff.mpr ⟨f, inFlight, index⟩
      exact ⟨if_neg fun both => absurd (flying.symm.trans both.2) (by decide), if_pos ⟨fetching, flying⟩⟩
    case listed =>
      intro fetching others
      have apart : segInFlight i s = false := segInFlight_eq_false others
      exact ⟨if_pos ⟨fetching, apart⟩, if_neg fun both => absurd (apart.symm.trans both.2) (by decide)⟩
  case inUse =>
    intro s i be data answered old snooping used entry
    have stale : inUseWithCopy i (freeBuffer (.entry i) s) = some old := inUseWithCopy_of_used used entry
    rw [exec_segmentClosingWrite snooping]
    simp only [entryClosingEnds, wholeCapture, partialCapture, stale]
    have captured : setEntry i (.stale old) (freeBuffer (.entry i) s) = { s with
        sc := { s.sc with entries := s.sc.entries.set i.val (.stale old) i.isLt }
        ptp := { s.ptp with bufs := buffersBut (.entry i) s } } := congrArg (setEntry i _) (freeBuffer_eq _ s)
    split <;> exact congrArg _ captured
  case partly =>
    intro s i be data answered snooping unused torn
    have ends : entryClosingEnds i be data answered s =
        { s with sc := partlyCaptured i s, ptp := { s.ptp with bufs := buffersBut (.entry i) s } } := by
      simp only [entryClosingEnds, captureOf_eq_none torn, Option.bind_none]
      rw [freeBuffer_eq, partialCapture_of_unused (by exact unused)]
      rfl
    refine ⟨_, (exec_segmentClosingWrite snooping).trans (congrArg _ ends), ?flying, ?listed, ?dropped, ?awaited, rfl⟩
    case flying =>
      intro f inFlight index
      exact if_pos (segInFlight_iff.mpr ⟨f, inFlight, index⟩)
    case listed =>
      intro others listed
      simp [partlyCaptured, segInFlight_eq_false others, listed]
    case dropped =>
      intro others unlisted unawaited
      simp [partlyCaptured, segInFlight_eq_false others, unlisted, unawaited]
    case awaited =>
      intro others unlisted awaited
      simp [partlyCaptured, segInFlight_eq_false others, unlisted, awaited]

end Sys2Proof.Machine
end
